-- ==== Sys2Proof/Word.lean ====
section
/-! DEFINITION. The word types of the 4G20: bytes of packets and of frame memory, 16- and 32-bit fields. -/

namespace Sys2Proof

/-- A byte of a packet or of frame memory. -/
abbrev Byte := BitVec 8

/-- A 16-bit field: a marker, a sequence number, a fuse word, a two-byte payload field. -/
abbrev Half := BitVec 16

/-- A 32-bit field: a frame number, a pacing-clock time. -/
abbrev Word := BitVec 32

end Sys2Proof
end

