-- ==== Sys2Proof/Config.lean ====
section
/-! DEFINITION. What the spec fixes as a number, and the free values: what the spec leaves open, as constants with
no body, so that nothing can be proved of which value they take. A free value is applied to `State.free`, the count
of free values drawn so far (log 28). -/

namespace Sys2Proof.Config

/-- LOADING lasts 200 µs (R176), in nanoseconds. -/
def loadingTime : Nat := 200000

/-- A fuse operation runs for 1500 µs (R174, R175), in nanoseconds. -/
def fuseTime : Nat := 1500000

/-- The coupling delay in line times (00_scope.md "Terms", R93). -/
def couplingLines : Nat := 4

/-- The frame record ring holds 32 records (R146). -/
def ringSize : Nat := 32

/-- A return window has 24 places (R159). -/
def windowPlaces : Nat := 24

/-- The reply places of RCT (R157). -/
def replyPlaces : Nat := 16

/-- The size of frame memory in bytes, 128 MiB (R22). -/
def memorySize : Nat := 134217728

/-- The columns of an overlay plane (R22). -/
def planeWidth : Nat := 960

/-- The lines of an overlay plane (R22). -/
def planeLines : Nat := 540

/-- Which of the requested bits an interrupted fuse program has set: a subset the spec leaves open (R174). -/
opaque fuseBitsSet : Nat → BitVec 16

/-- Whether byte `i` of a line whose write was cut short by a reset has reached the memory (R34). -/
opaque byteLanded : Nat → Nat → Bool

/-- At a LIVE start that takes a format-changing commit, whether CRP takes the commit report before the LFS report;
the spec says either may be taken first (R54). -/
opaque commitReportFirst : Nat → Bool

/-- When an LFS is taken at the instant of a REPEAT, FILL or DEFERRED start that SSCH took before it, whether the LFS
report reaches CRP before what that start reports to it; the spec says either may (R54, R56, R63). -/
opaque lfsReportFirst : Nat → Bool

/-- When SENG and OCMP make a request in the same step at an idle port, whether OCMP's reaches it first; the spec
says either may (R27). -/
opaque overlayReadFirst : Nat → Bool

/-- When a second STOP is taken with the scan's last line already left, whether SENG has ended the scan before the
cut-short request reaches it, which is then ignored; the spec names that case and fixes no order (R103). -/
opaque scanEndedFirst : Nat → Bool

/-- At an end of LOADING that also takes an overlay loss, whether the loss is taken before the SOFT_RESET reply joins
the queue; the spec says either may (R161). -/
opaque lossBeforeReply : Nat → Bool

/-- How many packets of the window in progress had reached the lane when the overlay link was lost (R161). -/
opaque packetsSent : Nat → Nat

end Sys2Proof.Config
end

