-- ==== Sys2Proof/Syntax.lean ====
section
/-! DEFINITION. The commands the 4G20 takes: one constructor of `Instr` for each row of spec/opcode_table.json,
and the control commands that a control packet can dispatch (R154, R163). -/

namespace Sys2Proof

/-- A game pixel: three 10-bit channel codes (00_scope.md, "Pixel values"). -/
structure GamePixel where
  red : BitVec 10
  green : BitVec 10
  blue : BitVec 10
  deriving DecidableEq, Repr

/-- An overlay pixel: four 8-bit values (00_scope.md, "Pixel values"). -/
structure OverlayPixel where
  red : Byte
  green : Byte
  blue : Byte
  alpha : Byte
  deriving DecidableEq, Repr

/-- The payload of WRITE_PROFILE, field by field as R163 lays it out. -/
structure ProfileRequest where
  index : Byte
  width : Half
  lines : Half
  lineTime : Half
  minBlank : Byte
  pmin : Half
  pmax : Half
  weight : Byte
  stallLimit : Word
  maxMultiplier : Byte
  lagThreshold : Half
  freeRun : Half
  lossAction : Byte
  deriving DecidableEq, Repr

/-- The payload of WRITE_REGION, field by field as R163 lays it out. -/
structure RegionRequest where
  index : Byte
  level : Byte
  sourceX : Half
  sourceY : Half
  width : Half
  height : Half
  destX : Half
  destY : Half
  zoom : Byte
  globalAlpha : Byte
  alphaMode : Byte
  deriving DecidableEq, Repr

/-- The payload of STATS_CONFIG, field by field as R163 lays it out. -/
structure StatsRequest where
  first : Byte
  last : Byte
  mode : Byte
  trigger : Byte
  threshold : Half
  deriving DecidableEq, Repr

/-- The commands a control packet can carry, with the fields of their payloads (R163). -/
inductive Command where
  | start
  | stop
  | status
  | softReset
  | writeProfile (req : ProfileRequest)
  | readProfile (index : Byte)
  | resetCadence
  | writeTonePoints (channel first : Byte) (points : List Half)
  | readTonePoints (bank channel first count : Byte)
  | writeRegion (req : RegionRequest)
  | readRegion (bank index : Byte)
  | setFill (red green blue : Half)
  | selectProfile (index : Byte)
  | commit (marker : Half)
  | discardShadow
  | statsConfig (req : StatsRequest)
  | statsStart
  | statsStop
  | recordStream (switch : Byte)
  | fetchRecord (seq : Half)
  | eventConfig (source level route : Byte)
  | setThresholds (notice attention : Byte)
  | clearEvents (set : Half)
  | readEvents
  | fuseRead (word : Byte)
  | fuseProgram (word : Byte) (value : Half)
  | fuseLock
  deriving DecidableEq, Repr

/-- What arrives at the part, one constructor for each row of spec/opcode_table.json. `dt` is the time in
nanoseconds since the arrival before it (DESIGN CHOICE, log 1); `tag` is the tag of the control packet that
carries the command; `fprog` is the level of the FPROG line when the command is taken (DESIGN CHOICE, log 4). -/
inductive Instr where
  | resetAssert (dt : Nat)
  | resetRelease (dt : Nat)
  | loadingEnd (dt : Nat)
  | lockArrival (dt : Nat)
  | lossArrival (dt : Nat)
  | lfs (dt : Nat)
  | lineStart (dt : Nat)
  | lineEnd (dt : Nat) (pixels : List GamePixel)
  | blankingStart (dt : Nat)
  | lineOverdueExpiry (dt : Nat)
  | maintenanceDue (dt : Nat)
  | maintenanceEnd (dt : Nat)
  | transferEnd (dt : Nat)
  | minExpiry (dt : Nat)
  | deadlineExpiry (dt : Nat)
  | freeRunExpiry (dt : Nat)
  | planTimerExpiry (dt : Nat)
  | outputTime (dt : Nat)
  | overlayLock (dt : Nat)
  | overlayLoss (dt : Nat)
  | overlayFrameStart (dt : Nat)
  | overlayLineStart (dt : Nat)
  | overlayLineEnd (dt : Nat) (pixels : List OverlayPixel)
  | controlPacket (dt : Nat) (bytes : List Byte)
  | start (dt : Nat) (tag : Byte)
  | stop (dt : Nat) (tag : Byte)
  | status (dt : Nat) (tag : Byte)
  | softReset (dt : Nat) (tag : Byte)
  | writeProfile (dt : Nat) (tag : Byte) (req : ProfileRequest)
  | readProfile (dt : Nat) (tag index : Byte)
  | resetCadence (dt : Nat) (tag : Byte)
  | writeTonePoints (dt : Nat) (tag channel first : Byte) (points : List Half)
  | readTonePoints (dt : Nat) (tag bank channel first count : Byte)
  | writeRegion (dt : Nat) (tag : Byte) (req : RegionRequest)
  | readRegion (dt : Nat) (tag bank index : Byte)
  | setFill (dt : Nat) (tag : Byte) (red green blue : Half)
  | selectProfile (dt : Nat) (tag index : Byte)
  | commit (dt : Nat) (tag : Byte) (marker : Half)
  | discardShadow (dt : Nat) (tag : Byte)
  | statsConfig (dt : Nat) (tag : Byte) (req : StatsRequest)
  | statsStart (dt : Nat) (tag : Byte)
  | statsStop (dt : Nat) (tag : Byte)
  | recordStream (dt : Nat) (tag switch : Byte)
  | fetchRecord (dt : Nat) (tag : Byte) (seq : Half)
  | eventConfig (dt : Nat) (tag source level route : Byte)
  | setThresholds (dt : Nat) (tag notice attention : Byte)
  | clearEvents (dt : Nat) (tag : Byte) (set : Half)
  | readEvents (dt : Nat) (tag : Byte)
  | fuseRead (dt : Nat) (tag word : Byte)
  | fuseProgram (dt : Nat) (tag word : Byte) (value : Half) (fprog : Bool)
  | fuseLock (dt : Nat) (tag : Byte) (fprog : Bool)
  | fuseProgramEnd (dt : Nat)
  | fuseLockEnd (dt : Nat)
  | fprogFall (dt : Nat)
  deriving DecidableEq, Repr

/-- The row of the table that a dispatched command belongs to. -/
def Command.toInstr (dt : Nat) (tag : Byte) (fprog : Bool) : Command → Instr
  | .start => .start dt tag
  | .stop => .stop dt tag
  | .status => .status dt tag
  | .softReset => .softReset dt tag
  | .writeProfile req => .writeProfile dt tag req
  | .readProfile index => .readProfile dt tag index
  | .resetCadence => .resetCadence dt tag
  | .writeTonePoints channel first points => .writeTonePoints dt tag channel first points
  | .readTonePoints bank channel first count => .readTonePoints dt tag bank channel first count
  | .writeRegion req => .writeRegion dt tag req
  | .readRegion bank index => .readRegion dt tag bank index
  | .setFill red green blue => .setFill dt tag red green blue
  | .selectProfile index => .selectProfile dt tag index
  | .commit marker => .commit dt tag marker
  | .discardShadow => .discardShadow dt tag
  | .statsConfig req => .statsConfig dt tag req
  | .statsStart => .statsStart dt tag
  | .statsStop => .statsStop dt tag
  | .recordStream switch => .recordStream dt tag switch
  | .fetchRecord seq => .fetchRecord dt tag seq
  | .eventConfig source level route => .eventConfig dt tag source level route
  | .setThresholds notice attention => .setThresholds dt tag notice attention
  | .clearEvents set => .clearEvents dt tag set
  | .readEvents => .readEvents dt tag
  | .fuseRead word => .fuseRead dt tag word
  | .fuseProgram word value => .fuseProgram dt tag word value fprog
  | .fuseLock => .fuseLock dt tag fprog

end Sys2Proof
end

