-- ==== Sys2Proof/Machine/State.lean ====
section
/-! DEFINITION. The state of the 4G20, block by block as 00_scope.md lists the blocks, the reasons a step can stop,
and the state after reset. -/

namespace Sys2Proof.Machine

/-- Why a step stops with a fault. -/
inductive Fault where
  /-- Raised by TRANSFER_END when the line of the transfer has no place in the layout of R22 (a slot line of 2160 or
  above or wider than 3840 pixels, a plane line of 540 or above). Safe: the model stops, and no run reaches it
  (log 25). -/
  | noSuchLine
  deriving DecidableEq, Repr

/-- Why a command is refused. -/
inductive Refusal where
  /-- Raised by exec for a row that has no meaning yet. No row is left so. Safe: the model stops. -/
  | notModelled (mnemonic : String)
  deriving DecidableEq, Repr

/-- A frame slot, 0 to 2 (R10). -/
abbrev SlotId := Fin 3

/-- A link's state (R1, R112). -/
inductive Link where
  | down
  | locked
  deriving DecidableEq, Repr

/-- The input lines and conditions the environment drives: the RESET line, the lock conditions of the two links
(R3, R112) and the FPROG line (R174). -/
structure Pins where
  reset : Bool
  liveLock : Bool
  overlayLock : Bool
  fprog : Bool
  deriving DecidableEq, Repr

/-! ### LRX -/

/-- What LRX latches of the frame arriving (R5, R6). -/
structure FrameCheck where
  frame : Word
  profile : Fin 4
  width : Nat
  lines : Nat
  lineTime : Nat
  linesSeen : Nat
  lineOpen : Bool
  lineStart : Nat
  deriving DecidableEq, Repr

/-- The check state of the frame arriving (R6). -/
inductive Check where
  | closed
  | arriving (f : FrameCheck)
  | counted (f : FrameCheck)
  deriving DecidableEq, Repr

/-- Live Receiver (R21). The line-overdue timer is computed from the check state (R7, log 31). -/
structure Lrx where
  link : Link
  frameCounter : Word
  check : Check
  deriving DecidableEq, Repr

/-! ### CAPU -/

inductive SlotState where
  | free
  | filling
  | complete
  deriving DecidableEq, Repr

/-- A slot record (R10). -/
structure SlotRecord where
  state : SlotState
  frame : Option Word
  linesWritten : Nat
  width : Nat
  lines : Nat
  deriving DecidableEq, Repr

/-- An emptied record (R10). -/
def SlotRecord.emptied : SlotRecord :=
  { state := .free, frame := none, linesWritten := 0, width := 0, lines := 0 }

/-- An entry of the capture write buffer (R14). -/
structure CaptureEntry where
  slot : SlotId
  frame : Word
  line : Nat
  pixels : List GamePixel
  deriving DecidableEq, Repr

/-- Capture Unit (R10, R11, R14, R21). -/
structure Capu where
  slots : Vector SlotRecord 3
  fill : Option SlotId
  latest : Option SlotId
  buffer : List CaptureEntry
  deriving DecidableEq, Repr

/-! ### MARB -/

inductive Plane where
  | a
  | b
  deriving DecidableEq, Repr

/-- An entry of the overlay write buffer (R112). -/
structure OverlayEntry where
  plane : Plane
  line : Nat
  pixels : List OverlayPixel
  current : Bool
  deriving DecidableEq, Repr

/-- The transfer in progress (R24). `wanted` is cleared when the scan that asked for a read ends (R33);
`buffered` when the entry of an overlay write has left the buffer by a discard (R116, log 24). -/
inductive Transfer where
  | captureWrite (slot : SlotId) (line : Nat)
  | scanRead (slot : SlotId) (line : Nat) (wanted : Bool)
  | overlayRead (plane : Plane) (line : Nat) (wanted : Bool)
  | overlayWrite (entry : OverlayEntry) (buffered : Bool)
  deriving DecidableEq, Repr

inductive Maintenance where
  | none
  | due
  | active
  deriving DecidableEq, Repr

/-- Memory Arbiter: the transfer in progress, one waiting request per requester, maintenance (R24, R26). -/
structure Marb where
  transfer : Option Transfer
  captureWrite : Option (SlotId × Nat)
  scanRead : Option (SlotId × Nat)
  overlayRead : Option (Plane × Nat)
  overlayWrite : Option (Plane × Nat)
  maintenance : Maintenance
  deriving DecidableEq, Repr

/-! ### PRU -/

/-- The seven limits in force (R35). -/
structure Limits where
  floor : Nat
  ceiling : Nat
  maxLines : Nat
  maxWidth : Nat
  minLineTime : Nat
  peak : Nat
  minBlank : Nat
  deriving DecidableEq, Repr

/-- The built-in defaults (R35). -/
def Limits.defaults : Limits :=
  { floor := 16667, ceiling := 16667, maxLines := 2160, maxWidth := 3840, minLineTime := 3000, peak := 1023,
    minBlank := 8 }

inductive LossAction where
  | repeatLatest
  | fill
  deriving DecidableEq, Repr

/-- The fourteen fields of a profile (R38). -/
structure Profile where
  width : Nat
  lines : Nat
  lineTime : Nat
  minBlank : Nat
  pmin : Nat
  pmax : Nat
  weight : Nat
  stallLimit : Nat
  maxMultiplier : Nat
  lagThreshold : Nat
  freeRun : Nat
  lossAction : LossAction
  pminEff : Nat
  pmaxEff : Nat
  deriving DecidableEq, Repr

inductive EntryState where
  | empty
  | valid
  | invalid
  deriving DecidableEq, Repr

/-- An entry of the Profile Table (R37). -/
structure ProfileEntry where
  state : EntryState
  profile : Profile
  deriving DecidableEq, Repr

/-- An EMPTY entry reads 0 in every field and REPEAT as its loss action (R37, R46). -/
def ProfileEntry.blank : ProfileEntry :=
  { state := .empty
    profile :=
      { width := 0, lines := 0, lineTime := 0, minBlank := 0, pmin := 0, pmax := 0, weight := 0, stallLimit := 0,
        maxMultiplier := 0, lagThreshold := 0, freeRun := 0, lossAction := .repeatLatest, pminEff := 0,
        pmaxEff := 0 } }

/-- Profile Unit (R35, R37). -/
structure Pru where
  limits : Limits
  table : Vector ProfileEntry 4
  deriving DecidableEq, Repr

/-! ### CRP -/

/-- The repeat plan (R49). `timer` is the microsecond at which the plan timer expires, counted without the wrap of
the pacing clock; `next` is the plan point as a pacing-clock time. -/
structure Plan where
  spacing : Nat
  multiplier : Nat
  next : Option Word
  remaining : Nat
  timer : Option Nat
  deriving DecidableEq, Repr

/-- A cleared plan (R49, R60). -/
def Plan.cleared : Plan := { spacing := 0, multiplier := 1, next := none, remaining := 0, timer := none }

/-- Cadence Estimator and Repeat Planner (R49, R77). E is INVALID when `estimate` is none. -/
structure Crp where
  newest : Option Word
  lastLfs : Option Word
  estimate : Option Nat
  stalled : Bool
  plan : Plan
  raised : Option Word
  deriving DecidableEq, Repr

/-! ### SSCH -/

inductive Sched where
  | off
  | hold
  | opened
  | scan
  deriving DecidableEq, Repr

/-- A timer (R65, R67), with the microsecond it is or was due, counted without the wrap of the pacing clock. -/
inductive Timer where
  | idle
  | running (due : Nat)
  | expired (due : Nat)
  deriving DecidableEq, Repr

/-- The kept profile (R66). -/
structure Kept where
  pminEff : Nat
  pmaxEff : Nat
  freeRun : Nat
  lossAction : LossAction
  deriving DecidableEq, Repr

/-- The pending frame (R65). -/
structure PendingFrame where
  frame : Word
  lfsTime : Word
  deriving DecidableEq, Repr

/-- Scan Scheduler (R65). -/
structure Ssch where
  state : Sched
  lastStart : Option Word
  kept : Option Kept
  runStarted : Bool
  pending : Option PendingFrame
  overtaken : Nat
  stopRequested : Bool
  planEmpty : Bool
  min : Timer
  deadline : Timer
  freeRun : Timer
  deriving DecidableEq, Repr

/-! ### SENG -/

inductive Kind where
  | live
  | deferred
  | repeated
  | fill
  deriving DecidableEq, Repr

inductive Cause where
  | arrival
  | chase
  | plan
  | deadline
  | freeRun
  deriving DecidableEq, Repr

inductive Source where
  | liveStream
  | slot (i : SlotId)
  | fillColour
  deriving DecidableEq, Repr

/-- CRP around a scan start, the model's own (log 37): the clock of the start, CRP as the start found it and as the
start left it, and whether the commit taken there changed the format. An LFS at the same instant may reach CRP before
the start's reports (R54, R56, R63). -/
structure StartReports where
  clock : Nat
  before : Crp
  after : Crp
  changed : Bool
  deriving DecidableEq, Repr

/-- The scan in flight (R89). `nextOut`, `choices`, `timingBase`, `timingFrom` and `reports` are the model's own: the
next line to leave, the patch source chosen for lines of the read window (R98), the output time (in nanoseconds) from
which the lines from `timingFrom` on are counted in own timing (R93, log 19), and CRP around the start (log 37).
`opening`, the model's own too, is there for a scan that START itself started: the profile SSCH had kept before it. A
COMMIT at the same instant is taken at that scan's start (R131, log 52). -/
structure Scan where
  kind : Kind
  cause : Cause
  sequence : Half
  startTime : Word
  interval : Option Word
  frame : Option Word
  profile : Fin 4
  width : Nat
  lines : Nat
  lineTime : Nat
  fill : GamePixel
  source : Source
  scanSource : Option SlotId
  nextLine : Nat
  patchFrom : Option Nat
  patched : Nat
  patchReported : Bool
  overtaken : Option Nat
  lag : Option Nat
  estimate : Option Nat
  multiplier : Nat
  marker : Option Half
  nextOut : Nat
  choices : List (Nat × Option SlotId)
  timingBase : Nat
  timingFrom : Nat
  reports : StartReports
  opening : Option Kept := none
  deriving DecidableEq, Repr

/-- An entry of the read-ahead buffer (R89). -/
structure ReadEntry where
  slot : SlotId
  line : Nat
  pixels : List GamePixel
  deriving DecidableEq, Repr

/-- A live line produced and not yet left (R89, R93, log 19). -/
structure ProducedLine where
  line : Nat
  due : Nat
  pixels : List GamePixel
  deriving DecidableEq, Repr

inductive PanelOutput where
  | idle
  | blanking
  | scanning
  deriving DecidableEq, Repr

/-- Scan Engine (R89). -/
structure Seng where
  sequence : Half
  scan : Option Scan
  pipeline : List ProducedLine
  readAhead : List ReadEntry
  previous : Option (List GamePixel)
  output : PanelOutput
  deriving DecidableEq, Repr

/-- What was last sent on the Panel Port: the scan header (R91, R166) and the output line (R106); log 18. -/
structure PanelPort where
  header : Option (List Byte)
  line : Option (Nat × List GamePixel)
  deriving DecidableEq, Repr

/-! ### OCAP and OCMP -/

inductive OverlayPhase where
  | closed
  | blanking
  | arriving
  | counted
  deriving DecidableEq, Repr

inductive BackState where
  | idle
  | filling
  | ready
  deriving DecidableEq, Repr

/-- Overlay Capture (R112). -/
structure Ocap where
  link : Link
  phase : OverlayPhase
  linesSeen : Nat
  lineOpen : Bool
  front : Plane
  frontImage : Bool
  back : BackState
  backWritten : Nat
  buffer : List OverlayEntry
  deriving DecidableEq, Repr

/-- Overlay Compositor (R123): the target line and the plane lines in the cache. -/
structure Ocmp where
  target : Option Nat
  cache : List (Nat × List OverlayPixel)
  deriving DecidableEq, Repr

/-! ### TBC -/

/-- A tone curve: 65 points of a 12-bit scale (chapter 7, "Tone curves"). -/
abbrev Curve := Vector (BitVec 12) 65

/-- The identity curve (R108). -/
def Curve.identity : Curve := Vector.ofFn fun k => BitVec.ofNat 12 (min (64 * k.val) 4095)

/-- A region of the region table (chapter 7, "The region table"). -/
structure Region where
  level : Nat
  sourceX : Nat
  sourceY : Nat
  width : Nat
  height : Nat
  destX : Nat
  destY : Nat
  zoom : Nat
  globalAlpha : Nat
  flat : Bool
  deriving DecidableEq, Repr

/-- A region after reset (R118, R125). -/
def Region.initial : Region :=
  { level := 0, sourceX := 0, sourceY := 0, width := 960, height := 540, destX := 0, destY := 0, zoom := 1,
    globalAlpha := 255, flat := false }

/-- A bank (chapter 8, "The banked set"). -/
structure Bank where
  red : Curve
  green : Curve
  blue : Curve
  regions : Vector Region 8
  fill : GamePixel
  profile : Fin 4
  deriving DecidableEq, Repr

/-- The reset contents of a bank (R125). -/
def Bank.initial : Bank :=
  { red := Curve.identity, green := Curve.identity, blue := Curve.identity,
    regions := Vector.replicate 8 Region.initial, fill := { red := 0, green := 0, blue := 0 }, profile := 0 }

/-- Table Bank Controller (R125). -/
structure Tbc where
  active : Bank
  shadow : Bank
  commitPending : Option Half
  lastMarker : Half
  deriving DecidableEq, Repr

/-! ### ZSU -/

inductive StatsState where
  | disabled
  | armed
  | measuring
  deriving DecidableEq, Repr

/-- The statistics configuration (R136). -/
structure StatsConfig where
  first : Nat
  last : Nat
  continuous : Bool
  freshOnly : Bool
  threshold : Nat
  deriving DecidableEq, Repr

/-- The accumulators of a zone (R139). -/
structure ZoneAcc where
  maximum : Nat
  sum : Nat
  count : Nat
  bright : Nat
  deriving DecidableEq, Repr

def ZoneAcc.zero : ZoneAcc := { maximum := 0, sum := 0, count := 0, bright := 0 }

/-- A zone result (R136, R140). -/
structure ZoneResult where
  zone : Nat
  maximum : Nat
  mean : Nat
  bright : Nat
  deriving DecidableEq, Repr

/-- A held result set with its send position and overrun mark (R136, R143, R144). -/
structure HeldSet where
  sequence : Half
  first : Nat
  last : Nat
  results : List ZoneResult
  position : Nat
  overrun : Bool
  deriving DecidableEq, Repr

/-- Zone Statistics Unit (R136). -/
structure Zsu where
  state : StatsState
  config : StatsConfig
  accumulators : Vector ZoneAcc 48
  held : Option HeldSet
  deriving DecidableEq, Repr

/-! ### FRL -/

/-- A frame record (R147). -/
structure FrameRecord where
  sequence : Half
  kind : Kind
  cause : Cause
  startTime : Word
  interval : Option Word
  frame : Option Word
  lag : Option Nat
  overtaken : Option Nat
  patched : Nat
  profile : Fin 4
  marker : Option Half
  estimate : Option Nat
  multiplier : Nat
  deriving DecidableEq, Repr

/-- Frame Record Log (R146). The stream switch is ON exactly when the cursor is not none (R149, log 31). -/
structure Frl where
  ring : List FrameRecord
  next : Half
  cursor : Option Half
  deriving DecidableEq, Repr

/-! ### RCT -/

/-- The reply statuses (R156). -/
inductive Status where
  | ok
  | clamped
  | badCommand
  | badLength
  | badValue
  | badProfile
  | profileActive
  | commitPending
  | wrongState
  | fuseBusy
  | fuseLocked
  | fuseDisabled
  | fuseInterrupted
  | badLimits
  | notHeld
  deriving DecidableEq, Repr

/-- A reply (R156). -/
structure Reply where
  tag : Byte
  code : Byte
  status : Status
  payload : List Byte
  deriving DecidableEq, Repr

/-- Return Channel Transmitter (R157), the packets of the window last opened (R160, log 18), and whether that window
has been neither ended by a loss of the overlay link nor emptied by a reset (R161, log 16). -/
structure Rct where
  queue : List Reply
  lane : List (List Byte)
  sending : Bool := false
  deriving DecidableEq, Repr

/-! ### EVU -/

/-- The fourteen event sources (R167). -/
inductive EventSource where
  | liveLock
  | liveLoss
  | malformedFrame
  | captureAbandoned
  | linesPatched
  | lagHigh
  | stall
  | commitTaken
  | statsReady
  | statsOverrun
  | controlPacketBad
  | fuseDone
  | overlayDiscarded
  | panelLimitClamped
  deriving DecidableEq, Repr

inductive Route where
  | notice
  | attention
  | both
  deriving DecidableEq, Repr

/-- What EVU holds of a source (R167). -/
structure SourceState where
  pending : Bool
  noticed : Bool
  level : Nat
  route : Route
  deriving DecidableEq, Repr

/-- Event Unit (R167). -/
structure Evu where
  sources : Vector SourceState 14
  noticeThreshold : Nat
  attentionThreshold : Nat
  deriving DecidableEq, Repr

/-- A source after reset, at its default level (R167). -/
def SourceState.initial (level : Nat) : SourceState :=
  { pending := false, noticed := false, level := level, route := .notice }

/-- EVU after either reset (R167). -/
def Evu.initial : Evu :=
  { sources := #v[SourceState.initial 2, SourceState.initial 6, SourceState.initial 3, SourceState.initial 4,
      SourceState.initial 2, SourceState.initial 1, SourceState.initial 1, SourceState.initial 3,
      SourceState.initial 0, SourceState.initial 2, SourceState.initial 5, SourceState.initial 3,
      SourceState.initial 2, SourceState.initial 1]
    noticeThreshold := 0, attentionThreshold := 7 }

/-! ### LFB and DCTL -/

/-- The fuse engine with what it needs to end its operation (R173 to R175); `due` in nanoseconds. -/
inductive Engine where
  | idle
  | programming (tag : Byte) (word : Fin 8) (value : Half) (due : Nat)
  | locking (tag : Byte) (due : Nat)
  deriving DecidableEq, Repr

/-- Limit Fuse Bank (R173). -/
structure Lfb where
  words : Vector Half 8
  locked : Bool
  engine : Engine
  deriving DecidableEq, Repr

/-- The device state (R176). LOADING holds its end in nanoseconds and the tag of a SOFT_RESET whose reply is owed
(R157, R177). -/
inductive Device where
  | loading (due : Nat) (owed : Option Byte)
  | standby
  | running
  deriving DecidableEq, Repr

/-- Frame memory: bytes by address, addresses rising, no entry that equals what an unlisted address reads as. -/
abbrev Memory := List Host.Cell

/-! ### The machine -/

/-- The state of the 4G20. -/
structure State where
  clock : Nat
  pins : Pins
  lrx : Lrx
  capu : Capu
  marb : Marb
  pru : Pru
  crp : Crp
  ssch : Ssch
  seng : Seng
  panel : PanelPort
  ocap : Ocap
  ocmp : Ocmp
  tbc : Tbc
  zsu : Zsu
  frl : Frl
  rct : Rct
  evu : Evu
  lfb : Lfb
  dctl : Device
  mem : Memory
  free : Nat
  pending : List Instr
  deriving DecidableEq, Repr

def Lrx.initial : Lrx := { link := .down, frameCounter := 0, check := .closed }

def Capu.initial : Capu :=
  { slots := Vector.replicate 3 SlotRecord.emptied, fill := none, latest := none, buffer := [] }

def Marb.initial : Marb :=
  { transfer := none, captureWrite := none, scanRead := none, overlayRead := none, overlayWrite := none,
    maintenance := .none }

def Crp.initial : Crp :=
  { newest := none, lastLfs := none, estimate := none, stalled := false, plan := Plan.cleared, raised := none }

def Ssch.initial : Ssch :=
  { state := .off, lastStart := none, kept := none, runStarted := false, pending := none, overtaken := 0,
    stopRequested := false, planEmpty := true, min := .idle, deadline := .idle, freeRun := .idle }

def Seng.initial : Seng :=
  { sequence := 0, scan := none, pipeline := [], readAhead := [], previous := none, output := .idle }

def PanelPort.initial : PanelPort := { header := none, line := none }

def Ocap.initial : Ocap :=
  { link := .down, phase := .closed, linesSeen := 0, lineOpen := false, front := .a, frontImage := false,
    back := .idle, backWritten := 0, buffer := [] }

def Ocmp.initial : Ocmp := { target := none, cache := [] }

def Tbc.initial : Tbc := { active := Bank.initial, shadow := Bank.initial, commitPending := none, lastMarker := 0 }

def StatsConfig.initial : StatsConfig :=
  { first := 0, last := 47, continuous := true, freshOnly := true, threshold := 900 }

def Zsu.initial : Zsu :=
  { state := .disabled, config := StatsConfig.initial, accumulators := Vector.replicate 48 ZoneAcc.zero,
    held := none }

def Frl.initial : Frl := { ring := [], next := 0, cursor := none }

def Rct.initial : Rct := { queue := [], lane := [] }

/-- The machine right after the reset line is released: LOADING for 200 µs (R21, R34, R49, R65, R89, R112, R125,
R136, R146, R157, R167, R176). The values that are the model's choice are in logs 4 to 8 and 28. -/
def State.reset : State :=
  { clock := 0
    pins := { reset := false, liveLock := false, overlayLock := false, fprog := false }
    lrx := Lrx.initial, capu := Capu.initial, marb := Marb.initial
    pru := { limits := Limits.defaults, table := Vector.replicate 4 ProfileEntry.blank }
    crp := Crp.initial, ssch := Ssch.initial, seng := Seng.initial, panel := PanelPort.initial
    ocap := Ocap.initial, ocmp := Ocmp.initial, tbc := Tbc.initial, zsu := Zsu.initial, frl := Frl.initial
    rct := Rct.initial, evu := Evu.initial
    lfb := { words := Vector.replicate 8 0, locked := false, engine := .idle }
    dctl := .loading Config.loadingTime none
    mem := [], free := 0, pending := [] }

/-! ### One named update per field -/

def State.setClock (s : State) (x : Nat) : State := { s with clock := x }

def State.setPins (s : State) (x : Pins) : State := { s with pins := x }

def State.setLrx (s : State) (x : Lrx) : State := { s with lrx := x }

def State.setCapu (s : State) (x : Capu) : State := { s with capu := x }

def State.setMarb (s : State) (x : Marb) : State := { s with marb := x }

def State.setPru (s : State) (x : Pru) : State := { s with pru := x }

def State.setCrp (s : State) (x : Crp) : State := { s with crp := x }

def State.setSsch (s : State) (x : Ssch) : State := { s with ssch := x }

def State.setSeng (s : State) (x : Seng) : State := { s with seng := x }

def State.setPanel (s : State) (x : PanelPort) : State := { s with panel := x }

def State.setOcap (s : State) (x : Ocap) : State := { s with ocap := x }

def State.setOcmp (s : State) (x : Ocmp) : State := { s with ocmp := x }

def State.setTbc (s : State) (x : Tbc) : State := { s with tbc := x }

def State.setZsu (s : State) (x : Zsu) : State := { s with zsu := x }

def State.setFrl (s : State) (x : Frl) : State := { s with frl := x }

def State.setRct (s : State) (x : Rct) : State := { s with rct := x }

def State.setEvu (s : State) (x : Evu) : State := { s with evu := x }

def State.setLfb (s : State) (x : Lfb) : State := { s with lfb := x }

def State.setDctl (s : State) (x : Device) : State := { s with dctl := x }

def State.setMem (s : State) (x : Memory) : State := { s with mem := x }

def State.setFree (s : State) (x : Nat) : State := { s with free := x }

def State.setPending (s : State) (x : List Instr) : State := { s with pending := x }

end Sys2Proof.Machine
end

