-- ==== Sys2Proof/Machine/FrameMemory.lean ====
section
/-! DEFINITION. Frame memory (R22, R23): its layout, the byte form of stored pixels, and reading and writing runs of
bytes while the list keeps its canonical form. -/

namespace Sys2Proof.Machine

/-- What a byte that nothing has written reads as (DESIGN CHOICE, log 8). -/
def unwritten : Byte := 0

/-- One byte of frame memory. -/
def Memory.read (m : Memory) (a : Nat) : Byte := (m.lookup a).getD unwritten

/-- `n` bytes from address `a` on. -/
def Memory.load (m : Memory) : Nat → Nat → List Byte
  | _, 0 => []
  | a, n + 1 => m.read a :: m.load (a + 1) n

/-- The entries a run of bytes makes: none for a byte equal to what an unlisted address reads as. -/
def cellsOf : Nat → List Byte → Memory
  | _, [] => []
  | a, b :: rest => if b = unwritten then cellsOf (a + 1) rest else (a, b) :: cellsOf (a + 1) rest

/-- Writing a run of bytes from address `a` on. -/
def Memory.store (m : Memory) (a : Nat) (bytes : List Byte) : Memory :=
  m.filter (fun c => c.1 < a) ++ cellsOf a bytes ++ m.filter (fun c => a + bytes.length ≤ c.1)

/-- The canonical form: addresses strictly rising, no entry equal to an unlisted byte, all inside the device. -/
abbrev Memory.wf (m : Memory) : Prop :=
  m.Pairwise (fun x y => x.1 < y.1) ∧ ∀ c ∈ m, c.2 ≠ unwritten ∧ c.1 < Config.memorySize

/-- The base of a slot (R22). -/
def slotBase (i : SlotId) : Nat := i.val * 33554432

/-- The base of an overlay plane (R22). -/
def planeBase : Plane → Nat
  | .a => 100663296
  | .b => 102760448

/-- Where line n of a slot begins (R22). -/
def slotLineAddress (i : SlotId) (line : Nat) : Nat := slotBase i + line * 15360

/-- Where line y of a plane begins (R22). -/
def planeLineAddress (p : Plane) (line : Nat) : Nat := planeBase p + line * 3840

/-- The four bytes of a stored game pixel. R23 gives their number and not their form (DESIGN CHOICE, log 9): red in
bits 9 to 0, green in 19 to 10, blue in 29 to 20, lowest byte first. -/
def GamePixel.bytes (p : GamePixel) : List Byte :=
  let v := p.red.toNat + 1024 * p.green.toNat + 1048576 * p.blue.toNat
  [BitVec.ofNat 8 v, BitVec.ofNat 8 (v / 256), BitVec.ofNat 8 (v / 65536), BitVec.ofNat 8 (v / 16777216)]

/-- The pixel that four stored bytes hold. -/
def GamePixel.ofBytes (b0 b1 b2 b3 : Byte) : GamePixel :=
  let v := b0.toNat + 256 * b1.toNat + 65536 * b2.toNat + 16777216 * b3.toNat
  { red := BitVec.ofNat 10 v, green := BitVec.ofNat 10 (v / 1024), blue := BitVec.ofNat 10 (v / 1048576) }

/-- The four bytes of a stored overlay pixel (R23; their order is log 9). -/
def OverlayPixel.bytes (p : OverlayPixel) : List Byte := [p.red, p.green, p.blue, p.alpha]

/-- The game pixels in a run of bytes. -/
def gamePixelsOf : List Byte → List GamePixel
  | b0 :: b1 :: b2 :: b3 :: rest => GamePixel.ofBytes b0 b1 b2 b3 :: gamePixelsOf rest
  | _ => []

/-- The overlay pixels in a run of bytes. -/
def overlayPixelsOf : List Byte → List OverlayPixel
  | b0 :: b1 :: b2 :: b3 :: rest => { red := b0, green := b1, blue := b2, alpha := b3 } :: overlayPixelsOf rest
  | _ => []

/-- Writing a line of a slot (R22, R23). -/
def Memory.writeSlotLine (m : Memory) (i : SlotId) (line : Nat) (pixels : List GamePixel) : Memory :=
  m.store (slotLineAddress i line) (pixels.flatMap GamePixel.bytes)

/-- Reading a line of a slot, `width` pixels wide (R22, R23). -/
def Memory.readSlotLine (m : Memory) (i : SlotId) (line width : Nat) : List GamePixel :=
  gamePixelsOf (m.load (slotLineAddress i line) (4 * width))

/-- Writing a line of an overlay plane (R22, R23). -/
def Memory.writePlaneLine (m : Memory) (p : Plane) (line : Nat) (pixels : List OverlayPixel) : Memory :=
  m.store (planeLineAddress p line) (pixels.flatMap OverlayPixel.bytes)

/-- Reading a line of an overlay plane (R22, R23). -/
def Memory.readPlaneLine (m : Memory) (p : Plane) (line : Nat) : List OverlayPixel :=
  overlayPixelsOf (m.load (planeLineAddress p line) (4 * Config.planeWidth))

/-- A slot line that has a place in the layout: one of 2160 lines of at most 3840 pixels (R22). -/
def slotLineInLayout (line width : Nat) : Bool := decide (line < 2160) && decide (width ≤ 3840)

/-- A plane line that has a place in the layout: one of 540 lines of at most 960 pixels (R22). -/
def planeLineInLayout (line width : Nat) : Bool :=
  decide (line < Config.planeLines) && decide (width ≤ Config.planeWidth)

/-- The bytes a cut-short write leaves: of each byte, the new value where it has landed and the old where not; which
have landed is free (R34, log 10). -/
def Memory.partBytes (m : Memory) (draw : Nat) : Nat → Nat → List Byte → List Byte
  | _, _, [] => []
  | a, i, b :: rest =>
    (if Config.byteLanded draw i then b else m.read (a + i)) :: m.partBytes draw a (i + 1) rest

/-- A write cut short by a reset (R34). -/
def Memory.storePart (m : Memory) (draw a : Nat) (bytes : List Byte) : Memory :=
  m.store a (m.partBytes draw a 0 bytes)

end Sys2Proof.Machine
end

