-- ==== Sys2Proof/WellFormed.lean ====
section
/-! DEFINITION. Which commands the channels can carry: the checks that the types of `Instr` do not make. -/

namespace Sys2Proof

/-- WRITE_TONE_POINTS carries one to twelve point values (R109). -/
def Command.wellFormed : Command → Bool
  | .writeTonePoints _ _ points => 1 ≤ points.length && points.length ≤ 12
  | _ => true

/-- A control packet slot holds 32 bytes (R153) and a run of tone points has one to twelve values (R109). Every
other operand is bounded by its type; line contents may be of any length, since a line of a wrong length is an
arrival like any other (R6, R114). -/
def Instr.wellFormed : Instr → Bool
  | .controlPacket _ bytes => bytes.length == 32
  | .writeTonePoints _ _ _ _ points => 1 ≤ points.length && points.length ≤ 12
  | .resetAssert _ => true
  | .resetRelease _ => true
  | .loadingEnd _ => true
  | .lockArrival _ => true
  | .lossArrival _ => true
  | .lfs _ => true
  | .lineStart _ => true
  | .lineEnd _ _ => true
  | .blankingStart _ => true
  | .lineOverdueExpiry _ => true
  | .maintenanceDue _ => true
  | .maintenanceEnd _ => true
  | .transferEnd _ => true
  | .minExpiry _ => true
  | .deadlineExpiry _ => true
  | .freeRunExpiry _ => true
  | .planTimerExpiry _ => true
  | .outputTime _ => true
  | .overlayLock _ => true
  | .overlayLoss _ => true
  | .overlayFrameStart _ => true
  | .overlayLineStart _ => true
  | .overlayLineEnd _ _ => true
  | .start _ _ => true
  | .stop _ _ => true
  | .status _ _ => true
  | .softReset _ _ => true
  | .writeProfile _ _ _ => true
  | .readProfile _ _ _ => true
  | .resetCadence _ _ => true
  | .readTonePoints _ _ _ _ _ _ => true
  | .writeRegion _ _ _ => true
  | .readRegion _ _ _ _ => true
  | .setFill _ _ _ _ _ => true
  | .selectProfile _ _ _ => true
  | .commit _ _ _ => true
  | .discardShadow _ _ => true
  | .statsConfig _ _ _ => true
  | .statsStart _ _ => true
  | .statsStop _ _ => true
  | .recordStream _ _ _ => true
  | .fetchRecord _ _ _ => true
  | .eventConfig _ _ _ _ _ => true
  | .setThresholds _ _ _ _ => true
  | .clearEvents _ _ _ => true
  | .readEvents _ _ => true
  | .fuseRead _ _ _ => true
  | .fuseProgram _ _ _ _ _ => true
  | .fuseLock _ _ _ => true
  | .fuseProgramEnd _ => true
  | .fuseLockEnd _ => true
  | .fprogFall _ => true

end Sys2Proof
end

