-- ==== Sys2Proof/Decode.lean ====
section
/-! DEFINITION. The control packets of the Overlay Port (R154, R162, R163): reading a packet's 32 bytes and writing
them. No row of spec/opcode_table.json has bits of its own, so `decodeTableWord` spells no command (log 33). -/

namespace Sys2Proof

/-- The value of a little-endian field (00_scope.md, "Byte layouts"). -/
def fromLe : List Byte → Nat
  | [] => 0
  | b :: rest => b.toNat + 256 * fromLe rest

/-- A number as a little-endian field of `k` bytes. -/
def toLe : Nat → Nat → List Byte
  | 0, _ => []
  | k + 1, n => BitVec.ofNat 8 n :: toLe k (n / 256)

/-- A two-byte field. -/
def half (lo hi : Byte) : Half := BitVec.ofNat 16 (fromLe [lo, hi])

/-- A four-byte field. -/
def word32 (b0 b1 b2 b3 : Byte) : Word := BitVec.ofNat 32 (fromLe [b0, b1, b2, b3])

/-- The two bytes of a 16-bit field. -/
def halfBytes (h : Half) : List Byte := toLe 2 h.toNat

/-- The sum of bytes modulo 256, the test of the check byte (R154 step 2, R162). -/
def byteSum : List Byte → Byte
  | [] => 0
  | b :: rest => b + byteSum rest

/-- A run of bytes with the check byte that makes the sum 0 put after it (R162). -/
def withCheck (bytes : List Byte) : List Byte := bytes ++ [0 - byteSum bytes]

/-- Bytes filled up with zeros to a length, cut there (R162: unused bytes are 0). -/
def padTo : Nat → List Byte → List Byte
  | 0, _ => []
  | k + 1, [] => 0 :: padTo k []
  | k + 1, b :: rest => b :: padTo k rest

/-- The point values of WRITE_TONE_POINTS, two bytes each. -/
def pointsOf : List Byte → Option (List Half)
  | [] => some []
  | [_] => none
  | lo :: hi :: rest => (pointsOf rest).map (half lo hi :: ·)

/-- What a command code and a payload make: no such command, a length the command does not accept, or a command. -/
inductive PayloadReading where
  | noCommand
  | wrongLength
  | command (c : Command)
  deriving DecidableEq, Repr

/-- A command whose payload is empty. -/
def noPayload (c : Command) : List Byte → PayloadReading
  | [] => .command c
  | _ => .wrongLength

/-- The payload of WRITE_PROFILE, 23 bytes (R163). -/
def readProfileRequest : List Byte → PayloadReading
  | [i, w0, w1, l0, l1, t0, t1, mb, a0, a1, z0, z1, wt, s0, s1, s2, s3, mm, g0, g1, f0, f1, la] =>
    .command (.writeProfile {
      index := i, width := half w0 w1, lines := half l0 l1, lineTime := half t0 t1, minBlank := mb,
      pmin := half a0 a1, pmax := half z0 z1, weight := wt, stallLimit := word32 s0 s1 s2 s3,
      maxMultiplier := mm, lagThreshold := half g0 g1, freeRun := half f0 f1, lossAction := la })
  | _ => .wrongLength

/-- The payload of WRITE_REGION, 17 bytes (R163). -/
def readRegionRequest : List Byte → PayloadReading
  | [i, lv, sx0, sx1, sy0, sy1, w0, w1, h0, h1, dx0, dx1, dy0, dy1, z, ga, am] =>
    .command (.writeRegion {
      index := i, level := lv, sourceX := half sx0 sx1, sourceY := half sy0 sy1, width := half w0 w1,
      height := half h0 h1, destX := half dx0 dx1, destY := half dy0 dy1, zoom := z, globalAlpha := ga,
      alphaMode := am })
  | _ => .wrongLength

/-- The payload of WRITE_TONE_POINTS, an even length from 4 to 26 (R109, R163). -/
def readToneRequest : List Byte → PayloadReading
  | channel :: first :: rest =>
    match pointsOf rest with
    | some points =>
      if 1 ≤ points.length ∧ points.length ≤ 12 then .command (.writeTonePoints channel first points)
      else .wrongLength
    | none => .wrongLength
  | _ => .wrongLength

/-- The command that a code and a payload spell (R163). -/
def readPayload (code : Nat) (payload : List Byte) : PayloadReading :=
  match code with
  | 0x01 => noPayload .start payload
  | 0x02 => noPayload .stop payload
  | 0x03 => noPayload .status payload
  | 0x04 => noPayload .softReset payload
  | 0x10 => readProfileRequest payload
  | 0x11 => match payload with | [i] => .command (.readProfile i) | _ => .wrongLength
  | 0x20 => noPayload .resetCadence payload
  | 0x30 => readToneRequest payload
  | 0x31 => match payload with | [b, c, f, n] => .command (.readTonePoints b c f n) | _ => .wrongLength
  | 0x32 => readRegionRequest payload
  | 0x33 => match payload with | [b, i] => .command (.readRegion b i) | _ => .wrongLength
  | 0x34 =>
    match payload with
    | [r0, r1, g0, g1, b0, b1] => .command (.setFill (half r0 r1) (half g0 g1) (half b0 b1))
    | _ => .wrongLength
  | 0x35 => match payload with | [i] => .command (.selectProfile i) | _ => .wrongLength
  | 0x36 => match payload with | [m0, m1] => .command (.commit (half m0 m1)) | _ => .wrongLength
  | 0x37 => noPayload .discardShadow payload
  | 0x40 =>
    match payload with
    | [f, l, m, t, h0, h1] =>
      .command (.statsConfig { first := f, last := l, mode := m, trigger := t, threshold := half h0 h1 })
    | _ => .wrongLength
  | 0x41 => noPayload .statsStart payload
  | 0x42 => noPayload .statsStop payload
  | 0x50 => match payload with | [v] => .command (.recordStream v) | _ => .wrongLength
  | 0x51 => match payload with | [q0, q1] => .command (.fetchRecord (half q0 q1)) | _ => .wrongLength
  | 0x60 => match payload with | [e, l, r] => .command (.eventConfig e l r) | _ => .wrongLength
  | 0x61 => match payload with | [n, a] => .command (.setThresholds n a) | _ => .wrongLength
  | 0x62 => match payload with | [e0, e1] => .command (.clearEvents (half e0 e1)) | _ => .wrongLength
  | 0x63 => noPayload .readEvents payload
  | 0x70 => match payload with | [w] => .command (.fuseRead w) | _ => .wrongLength
  | 0x71 => match payload with | [w, v0, v1] => .command (.fuseProgram w (half v0 v1)) | _ => .wrongLength
  | 0x72 => noPayload .fuseLock payload
  | _ => .noCommand

/-- How R154 decides a slot as far as its bytes decide it. -/
inductive PacketReading where
  | notWhole
  | ignored
  | badCheck
  | badCommand (tag code : Byte)
  | badLength (tag code : Byte)
  | dispatched (tag : Byte) (c : Command)
  deriving DecidableEq, Repr

/-- R154 steps 1, 2, 4 and 5 over the bytes of a slot. Fewer or more than 32 bytes are no whole slot (R153). -/
def readPacket (bytes : List Byte) : PacketReading :=
  if bytes.length ≠ 32 then .notWhole
  else match bytes with
  | kind :: tag :: code :: len :: body =>
    if kind ≠ 0xC1 then .ignored
    else if byteSum bytes ≠ 0 then .badCheck
    else match readPayload code.toNat (body.take len.toNat) with
      | .noCommand => .badCommand tag code
      | .wrongLength => .badLength tag code
      | .command c => if 27 < len.toNat then .badLength tag code else .dispatched tag c
  | _ => .notWhole

/-- The command code of a command (R163 and the chapters of the owning blocks). -/
def Command.code : Command → Byte
  | .start => 0x01
  | .stop => 0x02
  | .status => 0x03
  | .softReset => 0x04
  | .writeProfile _ => 0x10
  | .readProfile _ => 0x11
  | .resetCadence => 0x20
  | .writeTonePoints _ _ _ => 0x30
  | .readTonePoints _ _ _ _ => 0x31
  | .writeRegion _ => 0x32
  | .readRegion _ _ => 0x33
  | .setFill _ _ _ => 0x34
  | .selectProfile _ => 0x35
  | .commit _ => 0x36
  | .discardShadow => 0x37
  | .statsConfig _ => 0x40
  | .statsStart => 0x41
  | .statsStop => 0x42
  | .recordStream _ => 0x50
  | .fetchRecord _ => 0x51
  | .eventConfig _ _ _ => 0x60
  | .setThresholds _ _ => 0x61
  | .clearEvents _ => 0x62
  | .readEvents => 0x63
  | .fuseRead _ => 0x70
  | .fuseProgram _ _ => 0x71
  | .fuseLock => 0x72

/-- The payload of a command, laid out as R163 gives it. -/
def Command.payload : Command → List Byte
  | .writeProfile r =>
    [r.index] ++ halfBytes r.width ++ halfBytes r.lines ++ halfBytes r.lineTime ++ [r.minBlank]
      ++ halfBytes r.pmin ++ halfBytes r.pmax ++ [r.weight] ++ toLe 4 r.stallLimit.toNat
      ++ [r.maxMultiplier] ++ halfBytes r.lagThreshold ++ halfBytes r.freeRun ++ [r.lossAction]
  | .readProfile index => [index]
  | .writeTonePoints channel first points => channel :: first :: points.flatMap halfBytes
  | .readTonePoints bank channel first count => [bank, channel, first, count]
  | .writeRegion r =>
    [r.index, r.level] ++ halfBytes r.sourceX ++ halfBytes r.sourceY ++ halfBytes r.width
      ++ halfBytes r.height ++ halfBytes r.destX ++ halfBytes r.destY ++ [r.zoom, r.globalAlpha, r.alphaMode]
  | .readRegion bank index => [bank, index]
  | .setFill red green blue => halfBytes red ++ halfBytes green ++ halfBytes blue
  | .selectProfile index => [index]
  | .commit marker => halfBytes marker
  | .statsConfig r => [r.first, r.last, r.mode, r.trigger] ++ halfBytes r.threshold
  | .recordStream switch => [switch]
  | .fetchRecord seq => halfBytes seq
  | .eventConfig source level route => [source, level, route]
  | .setThresholds notice attention => [notice, attention]
  | .clearEvents set => halfBytes set
  | .fuseRead word => [word]
  | .fuseProgram word value => word :: halfBytes value
  | .start => []
  | .stop => []
  | .status => []
  | .softReset => []
  | .resetCadence => []
  | .discardShadow => []
  | .statsStart => []
  | .statsStop => []
  | .readEvents => []
  | .fuseLock => []

/-- The 32 bytes of a control packet (R162, R163). -/
def Command.packet (tag : Byte) (c : Command) : List Byte :=
  withCheck ([0xC1, tag, c.code, BitVec.ofNat 8 c.payload.length] ++ padTo 27 c.payload)

/-- The command that a table word spells: spec/opcode_table.json gives no row any bits, so none (log 33). -/
def decodeTableWord (_nbits _w : Nat) : Option Instr := none

end Sys2Proof
end

