-- ==== Sys2Proof/Machine/Flags.lean ====
section
/-! DEFINITION. The event flags (R167 to R170): raising a source, the source sets, which sources qualify for a
notice, and the attention line's condition. -/

namespace Sys2Proof.Machine

/-- The number of a source (R167). -/
def EventSource.number : EventSource → Fin 14
  | .liveLock => 0
  | .liveLoss => 1
  | .malformedFrame => 2
  | .captureAbandoned => 3
  | .linesPatched => 4
  | .lagHigh => 5
  | .stall => 6
  | .commitTaken => 7
  | .statsReady => 8
  | .statsOverrun => 9
  | .controlPacketBad => 10
  | .fuseDone => 11
  | .overlayDiscarded => 12
  | .panelLimitClamped => 13

/-- The record EVU holds of a source. -/
def Evu.source (v : Evu) (e : EventSource) : SourceState := v.sources[e.number]

/-- A raised source becomes pending; nothing else of it changes (R168). -/
def Evu.raise (v : Evu) (e : EventSource) : Evu :=
  { v with sources := v.sources.set e.number.val { v.source e with pending := true } e.number.isLt }

/-- The number whose bit n is the n-th flag (R163, "source set"). -/
def flagSet : List Bool → Nat
  | [] => 0
  | b :: rest => (if b then 1 else 0) + 2 * flagSet rest

/-- The source set of the sources that meet a test (R163). -/
def Evu.setOf (v : Evu) (test : SourceState → Bool) : Half :=
  BitVec.ofNat 16 (flagSet (v.sources.toList.map test))

/-- The highest level among the sources that meet a test, 0 when none does (R169, R171). -/
def Evu.highest (v : Evu) (test : SourceState → Bool) : Nat :=
  (v.sources.toList.filter test).foldl (fun top x => max top x.level) 0

/-- A source that makes a notice due (R169). -/
def SourceState.qualifies (threshold : Nat) (x : SourceState) : Bool :=
  x.pending && !x.noticed && (x.route != .attention) && decide (threshold < x.level)

/-- The sources newly noticed at a window are marked noticed (R169). -/
def Evu.markNoticed (v : Evu) : Evu :=
  { v with sources := v.sources.map fun x =>
      if x.qualifies v.noticeThreshold then { x with noticed := true } else x }

/-- A source that asserts the attention line (R170). -/
def SourceState.attends (threshold : Nat) (x : SourceState) : Bool :=
  x.pending && (x.route != .notice) && decide (threshold < x.level)

/-- The device is in LOADING (R176). -/
def Device.isLoading : Device → Bool
  | .loading _ _ => true
  | .standby => false
  | .running => false

/-- The attention line (R170): deasserted while the reset line is asserted and throughout LOADING, and otherwise
asserted exactly while some source asks for it. -/
def State.attention (s : State) : Bool :=
  !s.pins.reset && !s.dctl.isLoading && s.evu.sources.toList.any (·.attends s.evu.attentionThreshold)

/-- Clearing the pending and noticed flags of the sources whose bit is set in a source set (R172). -/
def Evu.clear (v : Evu) (set : Half) : Evu :=
  { v with sources := v.sources.mapIdx fun i x =>
      if set.getLsbD i then { x with pending := false, noticed := false } else x }

end Sys2Proof.Machine
end

