-- ==== Sys2Proof/Machine/Operands.lean ====
section
/-! DEFINITION. The operand forms of the channels: the structural ranges of command fields (R40, R109 to R111, R118,
R119, R137, R171) and the byte layouts of every packet the part sends (R162, R164 to R166). -/

namespace Sys2Proof.Machine

/-- `ceil (a / b)` (00_scope.md, "Arithmetic"). -/
def ceilDiv (a b : Nat) : Nat := (a + b - 1) / b

/-- Stage 1 of WRITE_PROFILE: every field inside its structural range (R40). -/
def profileInRange (r : ProfileRequest) : Bool :=
  decide (r.index.toNat ≤ 3)
    && decide (640 ≤ r.width.toNat) && decide (r.width.toNat ≤ 3840)
    && decide (360 ≤ r.lines.toNat) && decide (r.lines.toNat ≤ 2160)
    && decide (2000 ≤ r.lineTime.toNat) && decide (r.lineTime.toNat ≤ 40000)
    && decide (1 ≤ r.minBlank.toNat)
    && decide (1 ≤ r.pmin.toNat) && decide (1 ≤ r.pmax.toNat)
    && decide (1 ≤ r.weight.toNat) && decide (r.weight.toNat ≤ 16)
    && decide (1 ≤ r.stallLimit.toNat) && decide (r.stallLimit.toNat ≤ 2000000)
    && decide (1 ≤ r.maxMultiplier.toNat) && decide (r.maxMultiplier.toNat ≤ 8)
    && decide (1 ≤ r.freeRun.toNat) && decide (r.lossAction.toNat ≤ 1)

/-- The fields of WRITE_REGION inside their ranges and the rectangle inside the plane (R118 step 1). -/
def regionInRange (r : RegionRequest) : Bool :=
  decide (r.index.toNat ≤ 7) && decide (r.level.toNat ≤ 7)
    && decide (r.sourceX.toNat ≤ 959) && decide (r.sourceY.toNat ≤ 539)
    && decide (1 ≤ r.width.toNat) && decide (r.width.toNat ≤ 960)
    && decide (1 ≤ r.height.toNat) && decide (r.height.toNat ≤ 540)
    && decide (r.sourceX.toNat + r.width.toNat ≤ 960) && decide (r.sourceY.toNat + r.height.toNat ≤ 540)
    && decide (r.destX.toNat ≤ 3839) && decide (r.destY.toNat ≤ 2159)
    && (r.zoom.toNat == 1 || r.zoom.toNat == 2 || r.zoom.toNat == 4)
    && decide (r.alphaMode.toNat ≤ 1)

/-- The region a checked request describes (R118). -/
def regionOf (r : RegionRequest) : Region :=
  { level := r.level.toNat, sourceX := r.sourceX.toNat, sourceY := r.sourceY.toNat, width := r.width.toNat,
    height := r.height.toNat, destX := r.destX.toNat, destY := r.destY.toNat, zoom := r.zoom.toNat,
    globalAlpha := r.globalAlpha.toNat, flat := r.alphaMode.toNat == 1 }

/-- The fields of STATS_CONFIG inside their ranges (R137 step 1). -/
def statsInRange (r : StatsRequest) : Bool :=
  decide (r.first.toNat ≤ 47) && decide (r.last.toNat ≤ 47) && decide (r.first.toNat ≤ r.last.toNat)
    && decide (r.mode.toNat ≤ 1) && decide (r.trigger.toNat ≤ 1) && decide (r.threshold.toNat ≤ 1023)

/-- The configuration a checked request describes (R137, R163). -/
def statsOf (r : StatsRequest) : StatsConfig :=
  { first := r.first.toNat, last := r.last.toNat, continuous := r.mode.toNat == 1,
    freshOnly := r.trigger.toNat == 1, threshold := r.threshold.toNat }

/-- The route a checked code names (R163). -/
def routeOf (code : Byte) : Route :=
  if code.toNat = 0 then .notice else if code.toNat = 1 then .attention else .both

/-! ### Codes -/

/-- Byte 3 of a reply (R162). -/
def Status.code : Status → Byte
  | .ok => 0x00
  | .clamped => 0x01
  | .badCommand => 0x10
  | .badLength => 0x11
  | .badValue => 0x12
  | .badProfile => 0x13
  | .profileActive => 0x14
  | .commitPending => 0x15
  | .wrongState => 0x16
  | .fuseBusy => 0x20
  | .fuseLocked => 0x21
  | .fuseDisabled => 0x22
  | .fuseInterrupted => 0x23
  | .badLimits => 0x24
  | .notHeld => 0x30

def boolCode (b : Bool) : Byte := if b then 1 else 0

/-- A slot reference, FFh for none (R164). -/
def slotCode : Option SlotId → Byte
  | some i => BitVec.ofNat 8 i.val
  | none => 0xFF

def SlotState.code : SlotState → Byte
  | .free => 0
  | .filling => 1
  | .complete => 2

def Link.code : Link → Byte
  | .down => 0
  | .locked => 1

def Sched.code : Sched → Byte
  | .off => 0
  | .hold => 1
  | .opened => 2
  | .scan => 3

/-- The device state in STATUS; LOADING never shows (R158), so it has no code of its own there. -/
def Device.code : Device → Byte
  | .loading _ _ => 0
  | .standby => 1
  | .running => 2

def EntryState.code : EntryState → Byte
  | .empty => 0
  | .valid => 1
  | .invalid => 2

def LossAction.code : LossAction → Byte
  | .repeatLatest => 0
  | .fill => 1

def Engine.code : Engine → Byte
  | .idle => 0
  | .programming _ _ _ _ => 1
  | .locking _ _ => 2

def StatsState.code : StatsState → Byte
  | .disabled => 0
  | .armed => 1
  | .measuring => 2

def Kind.code : Kind → Nat
  | .live => 0
  | .deferred => 1
  | .repeated => 2
  | .fill => 3

def Cause.code : Cause → Nat
  | .arrival => 0
  | .chase => 1
  | .plan => 2
  | .deadline => 3
  | .freeRun => 4

/-- The scan kind of the scan header (R91, R166). -/
def Kind.headerCode : Kind → Byte
  | .live => 0
  | .deferred => 0
  | .repeated => 1
  | .fill => 2

/-! ### Layouts -/

/-- A byte that holds a small number. -/
def byte (n : Nat) : Byte := BitVec.ofNat 8 n

/-- An absent field is sent as 0 (R162). -/
def wordOrZero (x : Option Word) : Nat :=
  match x with
  | some w => w.toNat
  | none => 0

def halfOrZero (x : Option Half) : Nat :=
  match x with
  | some h => h.toNat
  | none => 0

/-- The 32 bytes of a packet: its bytes filled up with zeros to 31, then the check byte (R162). -/
def packetOf (bytes : List Byte) : List Byte := withCheck (padTo 31 bytes)

/-- A reply packet (R162). -/
def Reply.packet (r : Reply) : List Byte :=
  packetOf ([0xA1, r.tag, r.code, r.status.code] ++ padTo 27 r.payload)

/-- The presence marks of a record (R165, offset 3). -/
def FrameRecord.presence (r : FrameRecord) : Nat :=
  flagSet [r.interval.isSome, r.frame.isSome, r.lag.isSome, r.overtaken.isSome, r.marker.isSome,
    r.estimate.isSome]

/-- The record body, 27 bytes (R165). -/
def FrameRecord.body (r : FrameRecord) : List Byte :=
  halfBytes r.sequence
    ++ [byte (r.kind.code + 4 * r.cause.code + 32 * (r.multiplier - 1)), byte r.presence]
    ++ toLe 4 r.startTime.toNat ++ toLe 4 (wordOrZero r.interval) ++ toLe 4 (wordOrZero r.frame)
    ++ toLe 3 (r.lag.getD 0) ++ [byte (r.overtaken.getD 0)]
    ++ toLe 2 (r.patched + 4096 * r.profile.val) ++ toLe 2 (halfOrZero r.marker) ++ toLe 3 (r.estimate.getD 0)

/-- A record packet (R162). -/
def FrameRecord.packet (r : FrameRecord) : List Byte := packetOf (0xA4 :: r.body)

/-- A notice packet (R165, R169). -/
def noticePacket (v : Evu) (marker : Half) (time : Word) : List Byte :=
  packetOf ([0xA2] ++ halfBytes (v.setOf (·.pending)) ++ halfBytes (v.setOf (·.qualifies v.noticeThreshold))
    ++ [byte (v.highest (·.qualifies v.noticeThreshold))] ++ halfBytes marker ++ toLe 4 time.toNat)

/-- A zone result, six bytes (R165). -/
def ZoneResult.bytes (z : ZoneResult) : List Byte :=
  [byte z.zone] ++ toLe 3 (z.maximum + 1024 * z.mean) ++ toLe 2 z.bright

/-- How many packets a result set needs (R143). -/
def HeldSet.packetCount (h : HeldSet) : Nat := ceilDiv h.results.length 4

/-- The statistics packet at a place of the set, counted from 1 (R143, R165). -/
def HeldSet.packet (h : HeldSet) (place : Nat) : List Byte :=
  let results := (h.results.drop (4 * (place - 1))).take 4
  packetOf ([0xA3] ++ halfBytes h.sequence ++ [byte h.first, byte h.last, byte (place + 16 * h.packetCount),
    byte ((if h.overrun then 1 else 0) + 2 * results.length)] ++ results.flatMap ZoneResult.bytes)

/-- The scan header, 8 bytes (R91, R166): the interval saturates at 65535, and an absent interval is sent as 65535. -/
def scanHeader (k : Kind) (sequence : Half) (interval : Option Word) (profile : Fin 4) : List Byte :=
  let shown := match interval with
    | some i => min i.toNat 65535
    | none => 65535
  withCheck ([0xB5, k.headerCode] ++ halfBytes sequence ++ toLe 2 shown ++ [byte profile.val])

/-- The reply payload of READ_PROFILE, 27 bytes (R164). -/
def ProfileEntry.payload (e : ProfileEntry) : List Byte :=
  [e.state.code] ++ toLe 2 e.profile.width ++ toLe 2 e.profile.lines ++ toLe 2 e.profile.lineTime
    ++ toLe 2 e.profile.minBlank ++ toLe 2 e.profile.pmin ++ toLe 2 e.profile.pmax ++ [byte e.profile.weight]
    ++ toLe 3 e.profile.stallLimit ++ [byte e.profile.maxMultiplier] ++ toLe 2 e.profile.lagThreshold
    ++ toLe 2 e.profile.freeRun ++ [e.profile.lossAction.code] ++ toLe 2 e.profile.pminEff
    ++ toLe 2 e.profile.pmaxEff

/-- The fields of a region at the offsets of WRITE_REGION 1 to 16 (R164). -/
def Region.bytes (r : Region) : List Byte :=
  [byte r.level] ++ toLe 2 r.sourceX ++ toLe 2 r.sourceY ++ toLe 2 r.width ++ toLe 2 r.height ++ toLe 2 r.destX
    ++ toLe 2 r.destY ++ [byte r.zoom, byte r.globalAlpha, boolCode r.flat]

/-- The slot whose record holds a frame number (R65). -/
def Capu.slotOf (c : Capu) (frame : Word) : Option SlotId :=
  if c.slots[0].frame = some frame then some 0
  else if c.slots[1].frame = some frame then some 1
  else if c.slots[2].frame = some frame then some 2
  else none

/-- The slot that holds the pending frame (R65, R158). -/
def State.pendingSlot (s : State) : Option SlotId := s.ssch.pending.bind fun p => s.capu.slotOf p.frame

/-- The slot SENG holds for the scan in flight (R89). -/
def State.scanSource (s : State) : Option SlotId := s.seng.scan.bind (·.scanSource)

/-- The reply payload of STATUS, 27 bytes (R158, R164). E is sent as 0 when it is INVALID. -/
def State.statusPayload (s : State) : List Byte :=
  [s.dctl.code, s.lrx.link.code, s.ocap.link.code, s.ssch.state.code, s.capu.slots[0].state.code,
    s.capu.slots[1].state.code, s.capu.slots[2].state.code, slotCode s.capu.fill, slotCode s.capu.latest,
    slotCode s.pendingSlot, slotCode s.scanSource]
    ++ toLe 4 s.lrx.frameCounter.toNat ++ toLe 3 (s.crp.estimate.getD 0) ++ [boolCode s.crp.estimate.isSome]
    ++ [byte s.crp.plan.multiplier] ++ toLe 2 s.crp.plan.spacing
    ++ [byte s.tbc.active.profile.val, boolCode s.tbc.commitPending.isSome, boolCode s.lfb.locked,
      s.lfb.engine.code, s.zsu.state.code]

end Sys2Proof.Machine
end

