-- ==== Sys2Proof/Machine/Ops.lean ====
section
/-! DEFINITION. The named operations every command uses: the clock, raising an event, the reply queue, and the two
guards an arrival passes (the reset line, LOADING). -/

namespace Sys2Proof.Machine

/-- The whole microseconds since the release of the reset line. -/
def State.microseconds (s : State) : Nat := s.clock / 1000

/-- The pacing clock: whole microseconds modulo 2^32 (00_scope.md, "Times"). -/
def State.pacingTime (s : State) : Word := BitVec.ofNat 32 s.microseconds

/-- `dt` nanoseconds pass. While the reset line is asserted the clock is held at 0 (R176). -/
def State.elapse (dt : Nat) (s : State) : State :=
  if s.pins.reset then s else s.setClock (s.clock + dt)

/-- An event is raised (R168). -/
def State.raise (e : EventSource) (s : State) : State := s.setEvu (s.evu.raise e)

/-- A reply joins the reply queue (R155, R157). -/
def State.addReply (tag code : Byte) (status : Status) (payload : List Byte) (s : State) : State :=
  s.setRct { s.rct with queue := s.rct.queue ++ [{ tag := tag, code := code, status := status, payload := payload }] }

/-- The replies owed for a fuse operation in flight and for a SOFT_RESET (R155, R157). -/
def State.repliesOwed (s : State) : Nat :=
  (match s.lfb.engine with
    | .idle => 0
    | .programming _ _ _ _ => 1
    | .locking _ _ => 1)
  + (match s.dctl with
    | .loading _ (some _) => 1
    | .loading _ none => 0
    | .standby => 0
    | .running => 0)

/-- The reply places in use (R157). -/
def State.placesInUse (s : State) : Nat := s.rct.queue.length + s.repliesOwed

/-- An arrival: the time since the arrival before it passes, and the arrival acts, unless the reset line holds every
block (R176). -/
def arrival (dt : Nat) (act : State → State) (s : State) : State :=
  if s.pins.reset then s else act (s.elapse dt)

/-- An arrival that is not taken in LOADING either (R3, R112, R176). -/
def arrivalOutsideLoading (dt : Nat) (act : State → State) (s : State) : State :=
  arrival dt (fun t => if t.dctl.isLoading then t else act t) s

/-- Drawing a free value: the number to apply the free constant to. -/
def State.drawn (s : State) : State := s.setFree (s.free + 1)

end Sys2Proof.Machine
end

