-- ==== Sys2Proof/Machine/Profiles.lean ====
section
/-! DEFINITION. The Profile Unit (chapter 3): the limits in force, the five stages of WRITE_PROFILE, READ_PROFILE, and
the revalidation at a fuse lock. -/

namespace Sys2Proof.Machine

/-- The limits that the words W0 to W6 give (R35). -/
def limitsOfWords (w : Vector Half 8) : Limits :=
  { floor := w[0].toNat, ceiling := w[1].toNat, maxLines := w[2].toNat, maxWidth := w[3].toNat,
    minLineTime := w[4].toNat, peak := w[5].toNat, minBlank := w[6].toNat }

/-- The limits taken at the end of LOADING (R35). -/
def limitsAtLoading (w : Vector Half 8) : Limits := if w[7] = 0 then Limits.defaults else limitsOfWords w

/-- A number brought into [low, high] (00_scope.md, "Arithmetic"). -/
def clampInto (x low high : Nat) : Nat := min (max x low) high

/-- The format and line time within the limits (R42). -/
def Profile.withinLimits (p : Profile) (l : Limits) : Bool :=
  decide (p.width ≤ l.maxWidth) && decide (p.lines ≤ l.maxLines) && decide (l.minLineTime ≤ p.lineTime)

/-- The clamped minimum blank lines (R43 step 1). -/
def clampedBlank (l : Limits) (lines requested : Nat) : Nat :=
  max requested (max (l.minBlank + ceilDiv lines 64) (5 + ceilDiv lines 64))

/-- The scan term in µs (R43 step 4). -/
def scanTerm (lines blank lineTime : Nat) : Nat := ceilDiv ((lines + blank) * lineTime) 1000

/-- Steps 1 to 6 of stage 4: the clamped blank lines and periods, and the effective periods (R43). -/
def Profile.clampPeriods (p : Profile) (l : Limits) : Profile :=
  let blank := clampedBlank l p.lines p.minBlank
  let pmin := max p.pmin l.floor
  let pmax := min p.pmax l.ceiling
  { p with minBlank := blank, pmin := pmin, pmax := pmax,
           pminEff := max pmin (scanTerm p.lines blank p.lineTime), pmaxEff := pmax }

/-- Stage 5: the stall limit raised to Pmax_eff and the free-run period clamped into the window (R44). -/
def Profile.clampStall (p : Profile) : Profile :=
  { p with stallLimit := max p.stallLimit p.pmaxEff, freeRun := clampInto p.freeRun p.pminEff p.pmaxEff }

/-- The fields a WRITE_PROFILE asks for (R163). The effective periods are computed at stage 4. -/
def requestedProfile (r : ProfileRequest) : Profile :=
  { width := r.width.toNat, lines := r.lines.toNat, lineTime := r.lineTime.toNat, minBlank := r.minBlank.toNat,
    pmin := r.pmin.toNat, pmax := r.pmax.toNat, weight := r.weight.toNat, stallLimit := r.stallLimit.toNat,
    maxMultiplier := r.maxMultiplier.toNat, lagThreshold := r.lagThreshold.toNat, freeRun := r.freeRun.toNat,
    lossAction := if r.lossAction.toNat = 0 then .repeatLatest else .fill, pminEff := 0, pmaxEff := 0 }

/-- Whether a stored field differs from the requested one (R43, R44). -/
def profileClamped (requested stored : Profile) : Bool :=
  requested.minBlank != stored.minBlank || requested.pmin != stored.pmin || requested.pmax != stored.pmax
    || requested.stallLimit != stored.stallLimit || requested.freeRun != stored.freeRun

/-- The entry an index byte names, for an index up to 3. -/
def entryIndex (b : Byte) : Fin 4 := Fin.ofNat 4 b.toNat

/-- The five stages of WRITE_PROFILE (R39 to R44): the refusal's status, or the profile to store. -/
def State.decideProfile (s : State) (r : ProfileRequest) : Except Status Profile :=
  if !profileInRange r then .error .badValue
  else if entryIndex r.index = s.tbc.active.profile ∧ s.ssch.state ≠ .off then .error .profileActive
  else if s.tbc.commitPending.isSome ∧ entryIndex r.index = s.tbc.shadow.profile then .error .commitPending
  else if !(requestedProfile r).withinLimits s.pru.limits then .error .badProfile
  else
    let p := (requestedProfile r).clampPeriods s.pru.limits
    if p.pmaxEff < p.pminEff then .error .badProfile else .ok p.clampStall

/-- Storing a profile makes the entry VALID (R44). -/
def State.storeProfile (i : Fin 4) (p : Profile) (s : State) : State :=
  s.setPru { s.pru with table := s.pru.table.set i.val { state := .valid, profile := p } i.isLt }

/-- What a WRITE_PROFILE does once decided: the refusal, or the profile stored with its reply and its event (R39, R44). -/
def State.answerProfile (tag : Byte) (r : ProfileRequest) (decision : Except Status Profile) (s : State) : State :=
  match decision with
  | .error status => s.addReply tag 0x10 status []
  | .ok p =>
    if profileClamped (requestedProfile r) p then
      ((s.storeProfile (entryIndex r.index) p).raise .panelLimitClamped).addReply tag 0x10 .clamped []
    else (s.storeProfile (entryIndex r.index) p).addReply tag 0x10 .ok []

/-- WRITE_PROFILE decided (R39). -/
def writeProfileEffect (tag : Byte) (r : ProfileRequest) (s : State) : State :=
  s.answerProfile tag r (s.decideProfile r)

/-- READ_PROFILE decided (R46). -/
def readProfileEffect (tag index : Byte) (s : State) : State :=
  if 3 < index.toNat then s.addReply tag 0x11 .badValue []
  else s.addReply tag 0x11 .ok (s.pru.table[entryIndex index]).payload

/-! ### Revalidation -/

/-- The stored profile clamped again against new limits, when it passes (R47 steps 1 to 3). -/
def Profile.revalidated (p : Profile) (l : Limits) : Option Profile :=
  if p.withinLimits l then
    let q := p.clampPeriods l
    if q.pmaxEff < q.pminEff then none else some q.clampStall
  else none

/-- An entry after the revalidation; one that fails keeps its fields (R47). -/
def ProfileEntry.revalidate (l : Limits) (e : ProfileEntry) : ProfileEntry :=
  match e.state with
  | .valid =>
    match e.profile.revalidated l with
    | some p => { state := .valid, profile := p }
    | none => { e with state := .invalid }
  | .empty => e
  | .invalid => e

/-- The limits replaced and every VALID entry revalidated; PANEL_LIMIT_CLAMPED is raised once when any entry changed
(R35, R47). -/
def State.takeLockedLimits (s : State) : State :=
  let l := limitsOfWords s.lfb.words
  let table := s.pru.table.map (ProfileEntry.revalidate l)
  let t := s.setPru { limits := l, table := table }
  if table = s.pru.table then t else t.raise .panelLimitClamped

/-- The profile the active bank names (chapter 8). -/
def State.activeEntry (s : State) : ProfileEntry := s.pru.table[s.tbc.active.profile]

end Sys2Proof.Machine
end

