-- ==== Sys2Proof/Machine/Cadence.lean ====
section
/-! DEFINITION. The Cadence Estimator and Repeat Planner (chapter 4): the estimate, its invalidation, the repeat plan,
and the lag of a fresh scan. -/

namespace Sys2Proof.Machine

/-- The plan is empty when no repeat remains (R49). -/
def Plan.isEmpty (p : Plan) : Bool := p.remaining == 0

/-- The smoothed estimate (R51). -/
def smooth (e interval weight : Nat) : Nat := (e * (16 - weight) + interval * weight + 8) / 16

/-- The interval since the last LFS, modulo 2^32 (R50 step 1). -/
def Crp.interval (c : Crp) (time : Word) : Option Nat := c.lastLfs.map fun last => (time - last).toNat

/-- An LFS report taken (R50 to R52). -/
def Crp.takeLfs (c : Crp) (entry : ProfileEntry) (frame time : Word) : Crp :=
  let recorded := { c with newest := some frame, lastLfs := some time }
  match c.interval time with
  | none => recorded
  | some i =>
    if entry.state ≠ .valid then recorded
    else if i ≤ entry.profile.stallLimit then
      { recorded with
        estimate := some (match c.estimate with
          | none => i
          | some e => smooth e i entry.profile.weight)
        stalled := false }
    else { recorded with stalled := true }

/-- Whether an LFS report raises STALL: an interval above the stall limit that finds the stall state NORMAL (R52). -/
def Crp.stallsAt (c : Crp) (entry : ProfileEntry) (time : Word) : Bool :=
  match c.interval time with
  | none => false
  | some i => entry.state == .valid && decide (entry.profile.stallLimit < i) && !c.stalled

/-- Clearing the plan (R60); the raised point becomes absent (R77). -/
def Crp.clearPlan (c : Crp) : Crp := { c with plan := Plan.cleared, raised := none }

/-- An invalidation of E (R53 to R55); a format change at the newest frame's own LIVE scan keeps the last LFS time
(R54). -/
def Crp.invalidate (c : Crp) (keepLast : Bool) : Crp :=
  { c.clearPlan with
    estimate := none, stalled := false, lastLfs := if keepLast then c.lastLfs else none }

/-- The multiplier of a plan (R57). -/
def planMultiplier (estimate : Option Nat) (p : Profile) : Nat :=
  match estimate with
  | none => 1
  | some e => max 1 (min p.maxMultiplier (ceilDiv e p.pmaxEff))

/-- The spacing of a plan (R57). -/
def planSpacing (estimate : Option Nat) (p : Profile) : Nat :=
  match estimate with
  | none => 0
  | some e => clampInto (e / planMultiplier estimate p) p.pminEff p.pmaxEff

/-- The plan made at a fresh scan that starts at pacing-clock time `t0`, microsecond `at0` (R57, R58). -/
def makePlan (estimate : Option Nat) (p : Profile) (t0 : Word) (at0 : Nat) : Plan :=
  let m := planMultiplier estimate p
  let d := planSpacing estimate p
  if m = 1 then { spacing := d, multiplier := 1, next := none, remaining := 0, timer := none }
  else
    { spacing := d, multiplier := m, next := some (t0 + BitVec.ofNat 32 d), remaining := m - 1,
      timer := some (at0 + d) }

/-- The plan after its next point has been raised (R59). -/
def Plan.advance (p : Plan) : Plan :=
  if 1 < p.remaining then
    { p with remaining := p.remaining - 1, next := p.next.map (· + BitVec.ofNat 32 p.spacing),
             timer := p.timer.map (· + p.spacing) }
  else { p with remaining := 0, next := none, timer := none }

/-- A withdrawal of a plan point (R77). -/
def Crp.withdraw (c : Crp) (point : Word) : Crp := if c.raised = some point then c.clearPlan else c

/-- SSCH's plan indication after CRP's report, if the plan became empty or ceased to be (R61, R68). -/
def planIndication (before after : Plan) (shown : Bool) : Bool :=
  if before.isEmpty == after.isEmpty then shown else after.isEmpty

/-- CRP's new state, with its plan report to SSCH (R61, R68). -/
def State.withCrp (s : State) (c : Crp) : State :=
  (s.setCrp c).setSsch { s.ssch with planEmpty := planIndication s.crp.plan c.plan s.ssch.planEmpty }

/-- An LFS report at CRP, with the profile the active bank names as check profile (R50). -/
def State.cadenceLfs (s : State) (frame time : Word) : State :=
  let t := s.withCrp (s.crp.takeLfs s.activeEntry frame time)
  if s.crp.stallsAt s.activeEntry time then t.raise .stall else t

/-- TBC's report of a format-changing commit (R54, R133). -/
def State.reportFormatChange (s : State) (frame : Option Word) : State :=
  s.withCrp (s.crp.invalidate (frame.isSome && decide (frame = s.crp.newest)))

/-- The coupling delay in whole microseconds (R62). -/
def couplingTerm (lineTime : Nat) : Nat := Config.couplingLines * lineTime / 1000

/-- The lag of a fresh scan (R62). -/
def lagOf (t0 lfsTime : Word) (lineTime : Nat) : Nat := (t0 - lfsTime).toNat + couplingTerm lineTime

/-- LAG_HIGH is raised (R62). -/
def lagHigh (lag threshold : Nat) : Bool := threshold != 0 && decide (threshold < lag)

end Sys2Proof.Machine
end

