-- ==== Sys2Proof/Machine/Tone.lean ====
section
/-! DEFINITION. The output path (R106, R107, R120 to R122, R124): tone curves, regions and their precedence, the
overlay line budget, blending and the peak cap. -/

namespace Sys2Proof.Machine

/-- A 10-bit code from a number. -/
def code10 (n : Nat) : BitVec 10 := BitVec.ofNat 10 n

/-- The 12-bit value between two points of a curve (R107 step 2). -/
def interpolate (low high f : Nat) : Nat := (low * (16 - f) + high * f + 8) / 16

/-- A channel code through a curve (R107). -/
def Curve.apply (curve : Curve) (x : BitVec 10) : BitVec 10 :=
  let i := x.toNat / 16
  have h : i < 64 := by have := x.isLt; omega
  let y12 := interpolate curve[i].toNat curve[i + 1].toNat (x.toNat % 16)
  code10 (min ((y12 + 2) / 4) 1023)

/-- A game pixel through the three curves of a bank (R106 step 1, R107). -/
def Bank.tone (b : Bank) (p : GamePixel) : GamePixel :=
  { red := b.red.apply p.red, green := b.green.apply p.green, blue := b.blue.apply p.blue }

/-! ### Regions -/

/-- Whether a region covers some pixel of line y of an active area (R120). -/
def Region.coversLine (r : Region) (width lines y : Nat) : Bool :=
  decide (1 ≤ r.level) && decide (r.destX < width) && decide (0 < r.width * r.zoom)
    && decide (r.destY ≤ y) && decide (y < r.destY + r.height * r.zoom) && decide (y < lines)

/-- Whether a region that covers line y covers column x of it (R120). -/
def Region.coversColumn (r : Region) (width x : Nat) : Bool :=
  decide (r.destX ≤ x) && decide (x < r.destX + r.width * r.zoom) && decide (x < width)

/-- The plane line of a region for output line y (R120). -/
def Region.planeLine (r : Region) (y : Nat) : Nat := r.sourceY + (y - r.destY) / r.zoom

/-- The plane column of a region for panel column x (R120). -/
def Region.planeColumn (r : Region) (x : Nat) : Nat := r.sourceX + (x - r.destX) / r.zoom

/-- The regions in precedence order, highest first: a higher level before a lower one, and within a level a lower
index first (R121). -/
def Bank.precedence (b : Bank) : List Region :=
  b.regions.toList.insertionSort fun x y => y.level ≤ x.level

/-- Building the line set (R122): the set so far, and the regions that are left in precedence order. The answer is
the whole set and the regions admitted. -/
def admitRegions (y : Nat) : List Region → List Nat → List Nat × List Region
  | [], set => (set, [])
  | r :: rest, set =>
    if r.planeLine y ∈ set then
      ((admitRegions y rest set).1, r :: (admitRegions y rest set).2)
    else if set.length < 4 then
      ((admitRegions y rest (set ++ [r.planeLine y])).1, r :: (admitRegions y rest (set ++ [r.planeLine y])).2)
    else admitRegions y rest set

/-- The line set and the admitted regions of output line y, both empty when the front content is EMPTY (R122). -/
def overlayBudget (image : Bool) (b : Bank) (width lines y : Nat) : List Nat × List Region :=
  if image then admitRegions y (b.precedence.filter (·.coversLine width lines y)) [] else ([], [])

/-! ### Blending -/

/-- An 8-bit colour value as a 10-bit code (R121, "Expansion"). -/
def expand (v : Byte) : Nat := v.toNat * 4 + v.toNat / 64

/-- The alpha a region gives a plane pixel (R121, "Alpha"). -/
def Region.alphaFor (r : Region) (p : OverlayPixel) : Nat :=
  if r.flat then r.globalAlpha else (p.alpha.toNat * r.globalAlpha + 127) / 255

/-- One channel blended (R121, "Blend"). -/
def blendChannel (ov alpha base : Nat) : Nat := (ov * alpha + base * (255 - alpha) + 127) / 255

/-- A plane pixel of a region blended over a base pixel (R121). -/
def Region.blend (r : Region) (p : OverlayPixel) (base : GamePixel) : GamePixel :=
  let a := r.alphaFor p
  { red := code10 (blendChannel (expand p.red) a base.red.toNat)
    green := code10 (blendChannel (expand p.green) a base.green.toNat)
    blue := code10 (blendChannel (expand p.blue) a base.blue.toNat) }

/-- A drawn region over column x of its line (R121); it changes nothing where it does not cover the column. -/
def blendOver (width x : Nat) (drawn : Region × List OverlayPixel) (base : GamePixel) : GamePixel :=
  if drawn.1.coversColumn width x then
    match drawn.2[drawn.1.planeColumn x]? with
    | some p => drawn.1.blend p base
    | none => base
  else base

/-- A channel lowered to the peak output code (R124). -/
def capCode (peak : Nat) (c : BitVec 10) : BitVec 10 := code10 (min c.toNat peak)

/-- A pixel capped at the peak output code (R124). -/
def capPixel (peak : Nat) (p : GamePixel) : GamePixel :=
  { red := capCode peak p.red, green := capCode peak p.green, blue := capCode peak p.blue }

/-- The regions drawn on output line y with the plane line each uses: the admitted ones whose plane line is in the
cache (R121, R31), highest precedence first. -/
def drawnRegions (y : Nat) (admitted : List Region) (cache : List (Nat × List OverlayPixel)) :
    List (Region × List OverlayPixel) :=
  admitted.filterMap fun r => (cache.lookup (r.planeLine y)).map fun line => (r, line)

/-- One pixel of the output path: tone-mapped, blended from the lowest precedence to the highest, capped (R106). -/
def outputPixel (b : Bank) (drawn : List (Region × List OverlayPixel)) (peak width x : Nat) (p : GamePixel) :
    GamePixel :=
  capPixel peak (drawn.foldr (blendOver width x) (b.tone p))

/-- A line of the output path (R106). -/
def outputPixels (b : Bank) (drawn : List (Region × List OverlayPixel)) (peak width : Nat)
    (source : List GamePixel) : List GamePixel :=
  source.mapIdx (outputPixel b drawn peak width)

end Sys2Proof.Machine
end

