-- ==== Sys2Proof/Machine/Banks.lean ====
section
/-! DEFINITION. The Table Bank Controller (chapter 8) and the table commands of chapter 7. -/

namespace Sys2Proof.Machine

/-- Whether taking the shadow bank changes the format: width, active lines or line time (R129 step 5, R133). -/
def State.formatChanges (s : State) : Bool :=
  let old := (s.pru.table[s.tbc.active.profile]).profile
  let new := (s.pru.table[s.tbc.shadow.profile]).profile
  old.width != new.width || old.lines != new.lines || old.lineTime != new.lineTime

/-- TBC takes a commit, but for its report to CRP (R129 steps 1 to 4). -/
def State.takeCommit (marker : Half) (s : State) : State :=
  (s.setTbc { active := s.tbc.shadow, shadow := s.tbc.shadow, commitPending := none, lastMarker := marker }).raise
    .commitTaken

/-- A commit taken with no scan: at its acceptance in STANDBY, or at OFF (R128, R131). TBC's report of a format change
reaches CRP at once. With an LFS at the same instant R54 lets CRP take either report first, whichever arrival was taken
first; the model keeps the order of the queue (log 48; at OFF, log 37). -/
def State.commitWithoutScan (marker : Half) (s : State) : State :=
  if s.formatChanges then (s.takeCommit marker).reportFormatChange none else s.takeCommit marker

/-- The pending commit, if any, taken when the scheduler reaches OFF (R131). -/
def State.commitAtOff (s : State) : State :=
  match s.tbc.commitPending with
  | some marker => s.commitWithoutScan marker
  | none => s

/-- A change of the shadow bank (R126, "Writing the shadow bank"). -/
def State.setShadow (b : Bank) (s : State) : State := s.setTbc { s.tbc with shadow := b }

/-- A run of point values stored in a curve, each lowered to 4095 (R109). -/
def setPoints : Curve → Nat → List Half → Curve
  | curve, _, [] => curve
  | curve, first, v :: rest =>
    setPoints (if h : first < 65 then curve.set first (BitVec.ofNat 12 (min v.toNat 4095)) h else curve)
      (first + 1) rest

/-- The curve of a channel: 0 red, 1 green, 2 blue (R109). -/
def Bank.curve (b : Bank) (channel : Nat) : Curve :=
  if channel = 0 then b.red else if channel = 1 then b.green else b.blue

def Bank.setCurve (b : Bank) (channel : Nat) (curve : Curve) : Bank :=
  if channel = 0 then { b with red := curve }
  else if channel = 1 then { b with green := curve }
  else { b with blue := curve }

/-- WRITE_TONE_POINTS decided (R109). -/
def writeTonePointsEffect (tag channel first : Byte) (points : List Half) (s : State) : State :=
  if 2 < channel.toNat ∨ 65 < first.toNat + points.length then s.addReply tag 0x30 .badValue []
  else if s.tbc.commitPending.isSome then s.addReply tag 0x30 .commitPending []
  else
    let curve := setPoints (s.tbc.shadow.curve channel.toNat) first.toNat points
    let status := if points.any fun v => decide (4095 < v.toNat) then Status.clamped else Status.ok
    (s.setShadow (s.tbc.shadow.setCurve channel.toNat curve)).addReply tag 0x30 status []

/-- The bank a byte names: 0 active, 1 shadow (R110, R119). -/
def Tbc.bank (t : Tbc) (code : Byte) : Bank := if code.toNat = 0 then t.active else t.shadow

/-- `count` points of a curve from an index on (R110). -/
def Curve.points (curve : Curve) (first count : Nat) : List Nat :=
  ((curve.toList.drop first).take count).map (·.toNat)

/-- READ_TONE_POINTS decided (R110). -/
def readTonePointsEffect (tag bank channel first count : Byte) (s : State) : State :=
  if 1 < bank.toNat ∨ 2 < channel.toNat ∨ count.toNat = 0 ∨ 12 < count.toNat ∨ 65 < first.toNat + count.toNat then
    s.addReply tag 0x31 .badValue []
  else
    s.addReply tag 0x31 .ok ([channel, first, count]
      ++ (((s.tbc.bank bank).curve channel.toNat).points first.toNat count.toNat).flatMap (toLe 2))

/-- SET_FILL decided (R111). A code above 1023 is BAD_VALUE also while a commit is pending: R111 gives its two refusals no
order, and the order of R109 is taken, the model's choice (log 51). -/
def setFillEffect (tag : Byte) (red green blue : Half) (s : State) : State :=
  if 1023 < red.toNat ∨ 1023 < green.toNat ∨ 1023 < blue.toNat then s.addReply tag 0x34 .badValue []
  else if s.tbc.commitPending.isSome then s.addReply tag 0x34 .commitPending []
  else
    (s.setShadow { s.tbc.shadow with
      fill := { red := code10 red.toNat, green := code10 green.toNat, blue := code10 blue.toNat } }).addReply
        tag 0x34 .ok []

/-- WRITE_REGION decided (R118). -/
def writeRegionEffect (tag : Byte) (r : RegionRequest) (s : State) : State :=
  if !regionInRange r then s.addReply tag 0x32 .badValue []
  else if s.tbc.commitPending.isSome then s.addReply tag 0x32 .commitPending []
  else
    (s.setShadow { s.tbc.shadow with
      regions := s.tbc.shadow.regions.set (Fin.ofNat 8 r.index.toNat).val (regionOf r)
        (Fin.ofNat 8 r.index.toNat).isLt }).addReply tag 0x32 .ok []

/-- READ_REGION decided (R119). -/
def readRegionEffect (tag bank index : Byte) (s : State) : State :=
  if 1 < bank.toNat ∨ 7 < index.toNat then s.addReply tag 0x33 .badValue []
  else
    s.addReply tag 0x33 .ok ([bank, index]
      ++ ((s.tbc.bank bank).regions[(Fin.ofNat 8 index.toNat)]).bytes)

/-- SELECT_PROFILE decided (R127). -/
def selectProfileEffect (tag index : Byte) (s : State) : State :=
  if 3 < index.toNat then s.addReply tag 0x35 .badValue []
  else if s.tbc.commitPending.isSome then s.addReply tag 0x35 .commitPending []
  else (s.setShadow { s.tbc.shadow with profile := entryIndex index }).addReply tag 0x35 .ok []

/-- DISCARD_SHADOW decided (R132). -/
def discardShadowEffect (tag : Byte) (s : State) : State :=
  if s.tbc.commitPending.isSome then s.addReply tag 0x37 .commitPending []
  else (s.setShadow s.tbc.active).addReply tag 0x37 .ok []

end Sys2Proof.Machine
end

