-- ==== Sys2Proof/Machine/Arbiter.lean ====
section
/-! DEFINITION. The requests the four requesters keep at MARB (R24, R94, R123) and the grant (R24, R26 to R28). -/

namespace Sys2Proof.Machine

/-- The lines received of a slot (R10). For a FILLING slot every write buffer entry for the slot counts, also one of a
capture abandoned before whose transfer is still in progress. -/
def Capu.received (c : Capu) (i : SlotId) : Nat :=
  match c.slots[i].state with
  | .free => 0
  | .filling => c.slots[i].linesWritten + c.buffer.countP fun e => e.slot == i
  | .complete => c.slots[i].lines

/-- The lines of a slot that the live link has delivered (R28): of a FILLING slot those written and those of its own
capture in the write buffer, so that an entry left by an abandoned capture delivers none (log 23). -/
def Capu.delivered (c : Capu) (i : SlotId) : Nat :=
  match c.slots[i].state with
  | .free => 0
  | .filling =>
    c.slots[i].linesWritten + c.buffer.countP fun e => e.slot == i && decide (c.slots[i].frame = some e.frame)
  | .complete => c.slots[i].lines

/-- A line of a slot has come: it is counted in lines received (R10, R94), and the live link has delivered it (R28). -/
def Capu.hasLine (c : Capu) (i : SlotId) (line : Nat) : Bool :=
  decide (line < c.received i) && decide (line < c.delivered i)

/-! ### Which lines a scan reads -/

/-- The read window: the next line to be output and the three after it, up to the last line (R94). -/
def Scan.window (sc : Scan) : List Nat :=
  [sc.nextOut, sc.nextOut + 1, sc.nextOut + 2, sc.nextOut + 3].filter (· < sc.lines)

/-- The patch source a line gets when it is chosen now: the latest slot when it is not the scan source and has the
format in force, otherwise the fill colour (R98). -/
def Scan.patchSource (sc : Scan) (c : Capu) : Option SlotId :=
  match c.latest with
  | some i =>
    if sc.scanSource ≠ some i ∧ c.slots[i].width = sc.width ∧ c.slots[i].lines = sc.lines then some i else none
  | none => none

/-- The patch source already chosen for a line; none is the fill colour (R98). -/
def Scan.choice (sc : Scan) (line : Nat) : Option SlotId := (sc.choices.lookup line).join

/-- Choosing the patch source of the patched lines that have entered the read window (R98). -/
def Scan.withChoices (sc : Scan) (c : Capu) : Scan :=
  match sc.patchFrom with
  | none => sc
  | some k =>
    let kept := sc.choices.filter fun x => sc.nextOut ≤ x.1
    let entered := sc.window.filter fun n => k ≤ n && (kept.lookup n).isNone
    { sc with choices := kept ++ entered.map fun n => (n, sc.patchSource c) }

/-- The slot line n is read from, when it is read from a slot (R92, R98). -/
def Scan.slotFor (sc : Scan) (line : Nat) : Option SlotId :=
  match sc.patchFrom with
  | none =>
    match sc.source with
    | .slot i => some i
    | .liveStream => none
    | .fillColour => none
  | some k => if k ≤ line then sc.choice line else none

/-- Whether a line of the read window can be read: an own line once it has come, a patch line always (R28, R94). -/
def Scan.readable (sc : Scan) (c : Capu) (line : Nat) : Bool :=
  match sc.slotFor line with
  | none => false
  | some i => sc.patchFrom.isSome || c.hasLine i line

/-- The requester a transfer belongs to. -/
inductive Requester where
  | captureWrite
  | scanRead
  | overlayRead
  | overlayWrite
  deriving DecidableEq, Repr

def Transfer.requester : Transfer → Requester
  | .captureWrite _ _ => .captureWrite
  | .scanRead _ _ _ => .scanRead
  | .overlayRead _ _ _ => .overlayRead
  | .overlayWrite _ _ => .overlayWrite

/-- Whether a requester's transfer is in progress. -/
def Marb.busy (m : Marb) (r : Requester) : Bool :=
  match m.transfer with
  | none => false
  | some t => t.requester == r

/-- CAPU's next request: the head of its buffer (R14, R24). -/
def State.captureDesire (s : State) : Option (SlotId × Nat) :=
  if s.marb.captureWrite.isSome || s.marb.busy .captureWrite then none
  else s.capu.buffer.head?.map fun e => (e.slot, e.line)

/-- SENG's next request: the lowest line of the read window that is not in the buffer and can be read (R24, R94). -/
def State.scanDesire (s : State) : Option (SlotId × Nat) :=
  if s.marb.scanRead.isSome || s.marb.busy .scanRead then none
  else match s.seng.scan with
  | none => none
  | some sc =>
    if 4 ≤ s.seng.readAhead.length then none
    else
      (sc.window.find? fun n => !(s.seng.readAhead.any (·.line == n)) && sc.readable s.capu n).bind fun n =>
        (sc.slotFor n).map fun i => (i, n)

/-- The line set of an output line of the scan in flight (R122). -/
def State.lineSet (s : State) (sc : Scan) (y : Nat) : List Nat :=
  (overlayBudget s.ocap.frontImage s.tbc.active sc.width sc.lines y).1

/-- OCMP's next request: the first line of the target's set that is not in the cache (R24, R123). -/
def State.overlayReadDesire (s : State) : Option (Plane × Nat) :=
  if s.marb.overlayRead.isSome || s.marb.busy .overlayRead then none
  else match s.seng.scan, s.ocmp.target with
  | some sc, some y =>
    ((s.lineSet sc y).find? fun n => (s.ocmp.cache.lookup n).isNone).map fun n => (s.ocap.front, n)
  | _, _ => none

/-- OCAP's next request: the head of its buffer (R32, R24). -/
def State.overlayWriteDesire (s : State) : Option (Plane × Nat) :=
  if s.marb.overlayWrite.isSome || s.marb.busy .overlayWrite then none
  else s.ocap.buffer.head?.map fun e => (e.plane, e.line)

/-- The requesters make the requests they want; each then waits (R24). -/
def State.makeRequests (s : State) : State :=
  s.setMarb { s.marb with
    captureWrite := s.marb.captureWrite.or s.captureDesire
    scanRead := s.marb.scanRead.or s.scanDesire
    overlayRead := s.marb.overlayRead.or s.overlayReadDesire
    overlayWrite := s.marb.overlayWrite.or s.overlayWriteDesire }

/-! ### The grant -/

/-- A scan read is eligible when the capture write buffer holds no entry for its line (R28). -/
def State.scanReadEligible (s : State) (request : SlotId × Nat) : Bool :=
  !(s.capu.buffer.any fun e => e.slot == request.1 && e.line == request.2)

/-- The waiting scan read, when it is eligible (R28). -/
def State.eligibleScanRead (s : State) : Option (SlotId × Nat) := s.marb.scanRead.filter s.scanReadEligible

/-- MARB can grant: no transfer in progress, maintenance state NONE, not in LOADING (R24, R26, R34). -/
def State.canGrant (s : State) : Bool :=
  s.marb.transfer.isNone && s.marb.maintenance == .none && !s.dctl.isLoading

/-- The capture write at the head becomes the transfer in progress (R24). -/
def State.grantCaptureWrite (s : State) (r : SlotId × Nat) : State :=
  s.setMarb { s.marb with transfer := some (.captureWrite r.1 r.2), captureWrite := none }

def State.grantScanRead (s : State) (r : SlotId × Nat) : State :=
  s.setMarb { s.marb with transfer := some (.scanRead r.1 r.2 true), scanRead := none }

def State.grantOverlayRead (s : State) (r : Plane × Nat) : State :=
  s.setMarb { s.marb with transfer := some (.overlayRead r.1 r.2 true), overlayRead := none }

/-- The head entry of OCAP's buffer becomes the transfer in progress; the transfer carries it, since a discard takes
it out of the buffer (log 24). -/
def State.grantOverlayWrite (s : State) : State :=
  match s.ocap.buffer with
  | e :: _ => s.setMarb { s.marb with transfer := some (.overlayWrite e true), overlayWrite := none }
  | [] => s.setMarb { s.marb with overlayWrite := none }

/-- The overlay read or, after it, the overlay write is granted (R27). -/
def State.grantOverlay (s : State) : State :=
  match s.marb.overlayRead with
  | some r => s.grantOverlayRead r
  | none => if s.marb.overlayWrite.isSome then s.grantOverlayWrite else s

/-- The grant decision (R27): the first eligible waiting request in the order capture write, scan read, overlay read,
overlay write. -/
def State.grant (s : State) : State :=
  match s.marb.captureWrite with
  | some r => s.grantCaptureWrite r
  | none =>
    match s.eligibleScanRead with
    | some r => s.grantScanRead r
    | none => s.grantOverlay

/-- The grant when an overlay read reached the idle port before the scan read made in the same step (R24, R27). -/
def State.grantOverlayReadFirst (s : State) : State :=
  match s.marb.captureWrite, s.marb.overlayRead with
  | none, some r => s.grantOverlayRead r
  | _, _ => s.grant

/-- The requesters make their requests and an idle port grants one (R24). Where SENG and OCMP both make a request in
this step at an idle port, which arrives first is free (R27, log 14). -/
def State.serve (s : State) : State :=
  let t := s.makeRequests
  if t.canGrant then
    if s.scanDesire.isSome && s.overlayReadDesire.isSome then
      if Config.overlayReadFirst s.free then t.drawn.grantOverlayReadFirst else t.drawn.grant
    else t.grant
  else t

end Sys2Proof.Machine
end

