-- ==== Sys2Proof/Machine/Overlay.lean ====
section
/-! DEFINITION. The Overlay Capture (R112 to R117) and the overlay line cache of the Overlay Compositor (R123). -/

namespace Sys2Proof.Machine

/-- The other plane. -/
def Plane.other : Plane → Plane
  | .a => .b
  | .b => .a

/-- The back plane: the one that is not the front plane (R112). -/
def Ocap.backPlane (o : Ocap) : Plane := o.front.other

/-- The transfer in progress once the entry it carries has left the buffer by a discard (R33, R116, log 24). -/
def Transfer.unbuffered : Transfer → Transfer
  | .overlayWrite e _ => .overlayWrite e false
  | .captureWrite i n => .captureWrite i n
  | .scanRead i n w => .scanRead i n w
  | .overlayRead p n w => .overlayRead p n w

/-- The entry at the head of the overlay write buffer belongs to the frame now filling. -/
def Ocap.headCurrent (o : Ocap) : Bool :=
  match o.buffer with
  | e :: _ => e.current
  | [] => false

/-- The frame's back frame is given up: the back state becomes IDLE, the frame's entries leave the buffer, a waiting
write request for one of them is withdrawn and a write in progress goes on uncounted (R116, R33). -/
def State.dropBackFrame (s : State) : State :=
  let head := s.ocap.headCurrent
  (s.setMarb { s.marb with
      overlayWrite := if head then none else s.marb.overlayWrite
      transfer := if head then s.marb.transfer.map Transfer.unbuffered else s.marb.transfer }).setOcap
    { s.ocap with back := .idle, buffer := s.ocap.buffer.filter fun e => !e.current }

/-- An overlay frame is discarded: OVERLAY_DISCARDED is raised, what it wrote is given up when it had begun a new
back frame, and the phase becomes the one given (R116). -/
def State.discardOverlay (begun : Bool) (phase : OverlayPhase) (s : State) : State :=
  let t := if begun then s.dropBackFrame else s
  (t.setOcap { t.ocap with phase := phase, lineOpen := false }).raise .overlayDiscarded

/-- Line 0 begins a new back frame (R114, R115). -/
def State.beginBackFrame (s : State) : State :=
  s.setOcap { s.ocap with
    phase := .arriving, linesSeen := 0, lineOpen := true, back := .filling, backWritten := 0
    buffer := s.ocap.buffer.map fun e => { e with current := false } }

/-- An overlay frame start taken (R114). -/
def State.overlayFrameStart (s : State) : State :=
  match s.ocap.link with
  | .down => s
  | .locked =>
    match s.ocap.phase with
    | .closed => s.setOcap { s.ocap with phase := .blanking }
    | .blanking => s.discardOverlay false .blanking
    | .arriving => s.discardOverlay true .blanking
    | .counted => s.setOcap { s.ocap with phase := .blanking }

/-- An overlay line end that passes its pixel count: the line enters the write buffer, or meets a full one (R32). The
lines seen rise by one after either (R114). After a full buffer the phase is the CLOSED of the discard (R116), at the
540th line too (log 40). -/
def State.overlayLinePasses (pixels : List OverlayPixel) (s : State) : State :=
  if 2 ≤ s.ocap.buffer.length then
    (s.setOcap { s.ocap with linesSeen := s.ocap.linesSeen + 1 }).discardOverlay true .closed
  else
    s.setOcap { s.ocap with
      buffer := s.ocap.buffer ++
        [{ plane := s.ocap.backPlane, line := s.ocap.linesSeen, pixels := pixels, current := true }]
      linesSeen := s.ocap.linesSeen + 1
      lineOpen := false
      phase := if s.ocap.linesSeen + 1 = Config.planeLines then .counted else .arriving }

/-- An overlay line end taken (R114). -/
def State.overlayLineEnd (pixels : List OverlayPixel) (s : State) : State :=
  match s.ocap.link with
  | .down => s
  | .locked =>
    match s.ocap.phase with
    | .closed => s
    | .blanking => s
    | .counted => s
    | .arriving =>
      if s.ocap.lineOpen then
        if pixels.length = Config.planeWidth then s.overlayLinePasses pixels else s.discardOverlay true .closed
      else s

/-- The end of an overlay write at OCAP: the entry leaves the buffer and is counted when it belongs to the frame now
filling; the 540th makes the back plane ready (R115). -/
def Ocap.writeEnded (o : Ocap) : Ocap :=
  match o.buffer with
  | [] => o
  | e :: rest =>
    if e.current ∧ o.back = BackState.filling then
      { o with buffer := rest, backWritten := o.backWritten + 1,
               back := if o.backWritten + 1 = Config.planeLines then BackState.ready else BackState.filling }
    else { o with buffer := rest }

/-- The planes swap at a scan start when the back plane is ready (R117). -/
def Ocap.atScanStart (o : Ocap) : Ocap :=
  match o.back with
  | .ready => { o with front := o.front.other, frontImage := true, back := .idle }
  | .filling => o
  | .idle => o

/-- A return window is in progress: the one last opened has not ended by a loss or a reset, and its overlay frame's
active lines are still arriving, also when the frame has been discarded after its line 0 (R159, R161, log 16). -/
def State.windowInProgress (s : State) : Bool :=
  s.rct.sending && decide (s.ocap.linesSeen < Config.planeLines)
    && (s.ocap.phase == .arriving || s.ocap.phase == .closed)

/-- RCT takes a loss of the overlay link: the reply queue is emptied, and a window in progress ends there, with the
packets that had gone, whose number is free (R161, log 16). -/
def State.returnLost (inProgress : Bool) (s : State) : State :=
  if inProgress then s.drawn.setRct { queue := [], lane := s.rct.lane.take (Config.packetsSent s.free) }
  else s.setRct { queue := [], lane := s.rct.lane }

/-- A loss of the overlay link taken: the frame in flight is discarded as R113 says, the link is DOWN, and RCT takes
the loss (R113, R161). -/
def State.overlayLossTaken (s : State) : State :=
  let t := match s.ocap.phase with
    | .closed => s
    | .blanking => s.discardOverlay false .closed
    | .arriving => s.discardOverlay true .closed
    | .counted => if s.ocap.back = BackState.filling then s.discardOverlay true .closed else s
  (t.setOcap { t.ocap with link := .down, phase := .closed, lineOpen := false }).returnLost s.windowInProgress

/-- A lock of the overlay link taken (R113). -/
def State.overlayLockTaken (s : State) : State :=
  s.setOcap { s.ocap with link := .locked, phase := .closed }

/-! ### The overlay line cache -/

/-- A read in progress becomes unwanted when its scan ends (R33, R102, R123). -/
def Transfer.unwanted : Transfer → Transfer
  | .scanRead i n _ => .scanRead i n false
  | .overlayRead p n _ => .overlayRead p n false
  | .captureWrite i n => .captureWrite i n
  | .overlayWrite e b => .overlayWrite e b

/-- At an output time the next line becomes the target; entries and a waiting request outside its set go (R123). When
no later line remains there is no target and nothing is asked for (log 32). -/
def State.advanceTarget (sc : Scan) (y : Nat) (s : State) : State :=
  if y + 1 < sc.lines then
    let set := s.lineSet sc (y + 1)
    (s.setOcmp { target := some (y + 1), cache := s.ocmp.cache.filter fun c => decide (c.1 ∈ set) }).setMarb
      { s.marb with overlayRead := s.marb.overlayRead.filter fun r => decide (r.2 ∈ set) }
  else (s.setOcmp { s.ocmp with target := none }).setMarb { s.marb with overlayRead := none }

/-- A plane line that has been read enters the cache when it is in the target's line set (R123). -/
def State.cachePlaneLine (line : Nat) (pixels : List OverlayPixel) (s : State) : State :=
  match s.seng.scan, s.ocmp.target with
  | some sc, some y =>
    if line ∈ s.lineSet sc y then s.setOcmp { s.ocmp with cache := s.ocmp.cache ++ [(line, pixels)] } else s
  | _, _ => s

/-- The output path of the scan in flight for output line y (R106, R31). -/
def State.composeLine (sc : Scan) (y : Nat) (source : List GamePixel) (s : State) : List GamePixel :=
  let admitted := (overlayBudget s.ocap.frontImage s.tbc.active sc.width sc.lines y).2
  outputPixels s.tbc.active (drawnRegions y admitted s.ocmp.cache) s.pru.limits.peak sc.width source

end Sys2Proof.Machine
end

