-- ==== Sys2Proof/Machine/Records.lean ====
section
/-! DEFINITION. The Frame Record Log (chapter 10). -/

namespace Sys2Proof.Machine

/-- The cursor after the oldest record has left a full ring (R148 step 1, R150). -/
def Frl.cursorAfterDrop (f : Frl) : Option Half :=
  match f.ring.head?, f.cursor with
  | some oldest, some c => if oldest.sequence = c then some (c + 1) else some c
  | _, c => c

/-- A record is added (R148). -/
def Frl.add (f : Frl) (r : FrameRecord) : Frl :=
  if Config.ringSize ≤ f.ring.length then
    { ring := f.ring.drop 1 ++ [r], next := r.sequence + 1, cursor := f.cursorAfterDrop }
  else { ring := f.ring ++ [r], next := r.sequence + 1, cursor := f.cursor }

/-- A held record by its sequence number (R146, R151). -/
def Frl.find (f : Frl) (sequence : Half) : Option FrameRecord := f.ring.find? (·.sequence = sequence)

/-- The records waiting to be streamed: from the cursor to the newest (R150). -/
def Frl.waiting (f : Frl) : List FrameRecord :=
  match f.cursor with
  | none => []
  | some c => f.ring.drop (f.ring.length - (f.next - c).toNat)

/-- The records taken into a window with `room` places left (R150, R160). -/
def Frl.taken (f : Frl) (room : Nat) : List FrameRecord := f.waiting.take room

/-- The cursor after a window (R150). -/
def Frl.afterWindow (f : Frl) (room : Nat) : Frl :=
  { f with cursor := f.cursor.map (· + BitVec.ofNat 16 (f.taken room).length) }

/-- RECORD_STREAM decided (R149). -/
def recordStreamEffect (tag switch : Byte) (s : State) : State :=
  if 1 < switch.toNat then s.addReply tag 0x50 .badValue []
  else if switch.toNat = 0 then (s.setFrl { s.frl with cursor := none }).addReply tag 0x50 .ok []
  else if s.frl.cursor.isSome then s.addReply tag 0x50 .ok []
  else (s.setFrl { s.frl with cursor := some s.frl.next }).addReply tag 0x50 .ok []

/-- FETCH_RECORD decided (R151). -/
def fetchRecordEffect (tag : Byte) (sequence : Half) (s : State) : State :=
  match s.frl.find sequence with
  | some r => s.addReply tag 0x51 .ok r.body
  | none => s.addReply tag 0x51 .notHeld []

end Sys2Proof.Machine
end

