-- ==== Sys2Proof/Machine/Statistics.lean ====
section
/-! DEFINITION. The Zone Statistics Unit (chapter 9). -/

namespace Sys2Proof.Machine

/-- The luma of a pixel (R134). -/
def luma (p : GamePixel) : Nat := (2 * p.red.toNat + 5 * p.green.toNat + p.blue.toNat + 4) / 8

/-- Which of `parts` even parts of `size` a coordinate lies in: the last part whose first coordinate is not above it
(R135). -/
def partOf (parts size x : Nat) : Nat := ((List.range parts).filter fun k => decide (k * size / parts ≤ x)).length - 1

/-- The zone of a pixel (R135). -/
def zoneAt (width lines x y : Nat) : Nat := 8 * partOf 6 lines y + partOf 8 width x

/-- A pixel taken into the accumulators of its zone (R139). -/
def ZoneAcc.take (a : ZoneAcc) (threshold y : Nat) : ZoneAcc :=
  { maximum := max a.maximum y, sum := a.sum + y, count := a.count + 1,
    bright := if threshold ≤ y then min (a.bright + 1) 65535 else a.bright }

/-- A pixel at column x of line y taken (R139): one outside the range of zones is not accumulated. -/
def takePixel (cfg : StatsConfig) (width lines y : Nat) (accs : Vector ZoneAcc 48) (pixel : GamePixel × Nat) :
    Vector ZoneAcc 48 :=
  let z := zoneAt width lines pixel.2 y
  if h : z < 48 then
    if cfg.first ≤ z ∧ z ≤ cfg.last then accs.set z (accs[z].take cfg.threshold (luma pixel.1)) h else accs
  else accs

/-- An output line of the scan being measured (R134, R139). -/
def Zsu.takeLine (z : Zsu) (width lines y : Nat) (pixels : List GamePixel) : Zsu :=
  match z.state with
  | .measuring =>
    { z with accumulators := pixels.zipIdx.foldl (takePixel z.config width lines y) z.accumulators }
  | .armed => z
  | .disabled => z

/-- The accumulators of the configured zones cleared (R139, R142). -/
def Zsu.cleared (z : Zsu) : Vector ZoneAcc 48 :=
  z.accumulators.mapIdx fun i a => if z.config.first ≤ i ∧ i ≤ z.config.last then ZoneAcc.zero else a

/-- A scan of this kind qualifies for measurement (R139). -/
def StatsConfig.qualifies (cfg : StatsConfig) (k : Kind) : Bool :=
  !cfg.freshOnly || k == .live || k == .deferred

/-- A scan start at ZSU (R139). -/
def Zsu.atScanStart (z : Zsu) (k : Kind) : Zsu :=
  match z.state with
  | .armed => if z.config.qualifies k then { z with state := .measuring, accumulators := z.cleared } else z
  | .measuring => z
  | .disabled => z

/-- The result of a zone (R140 step 1). -/
def ZoneAcc.result (a : ZoneAcc) (zone : Nat) : ZoneResult :=
  { zone := zone, maximum := a.maximum, mean := (2 * a.sum + a.count) / (2 * a.count), bright := a.bright }

/-- The zone results of the configured range, in zone order (R140 step 2). -/
def Zsu.results (z : Zsu) : List ZoneResult :=
  (z.accumulators.toList.zipIdx.filter fun a => decide (z.config.first ≤ a.2 ∧ a.2 ≤ z.config.last)).map
    fun a => a.1.result a.2

/-- The measured scan ends: its set is posted (R140, R144). -/
def Zsu.complete (z : Zsu) (sequence : Half) : Zsu :=
  { z with
    state := if z.config.continuous then .armed else .disabled
    held := some { sequence := sequence, first := z.config.first, last := z.config.last, results := z.results,
                   position := 1, overrun := z.held.isSome } }

/-- A scan end reported to ZSU, with its events (R140, R141, R144). -/
def State.statsScanEnd (cut : Bool) (sequence : Half) (s : State) : State :=
  match s.zsu.state with
  | .measuring =>
    if cut then s.setZsu { s.zsu with state := .armed, accumulators := s.zsu.cleared }
    else
      let t := (s.setZsu (s.zsu.complete sequence)).raise .statsReady
      if s.zsu.held.isSome then t.raise .statsOverrun else t
  | .armed => s
  | .disabled => s

/-- STATS_CONFIG decided (R137). -/
def statsConfigEffect (tag : Byte) (r : StatsRequest) (s : State) : State :=
  if !statsInRange r then s.addReply tag 0x40 .badValue []
  else if s.zsu.state ≠ .disabled then s.addReply tag 0x40 .wrongState []
  else (s.setZsu { s.zsu with config := statsOf r }).addReply tag 0x40 .ok []

/-- STATS_START decided (R138). -/
def statsStartEffect (tag : Byte) (s : State) : State :=
  if s.zsu.state ≠ .disabled then s.addReply tag 0x41 .wrongState []
  else (s.setZsu { s.zsu with state := .armed }).addReply tag 0x41 .ok []

/-- STATS_STOP decided (R142). -/
def statsStopEffect (tag : Byte) (s : State) : State :=
  match s.zsu.state with
  | .disabled => s.addReply tag 0x42 .wrongState []
  | .armed => (s.setZsu { s.zsu with state := .disabled }).addReply tag 0x42 .ok []
  | .measuring =>
    (s.setZsu { s.zsu with state := .disabled, accumulators := s.zsu.cleared }).addReply tag 0x42 .ok []

/-- How many packets of the held set are taken into a window with `room` places left (R143). -/
def Zsu.packetsFor (z : Zsu) (room : Nat) : Nat :=
  match z.held with
  | none => 0
  | some h => min room (h.packetCount + 1 - h.position)

/-- The packets taken (R143). -/
def Zsu.packets (z : Zsu) (room : Nat) : List (List Byte) :=
  match z.held with
  | none => []
  | some h => (List.range (z.packetsFor room)).map fun k => h.packet (h.position + k)

/-- The send buffer after the packets have been taken: EMPTY after the last (R143). -/
def Zsu.afterWindow (z : Zsu) (room : Nat) : Zsu :=
  match z.held with
  | none => z
  | some h =>
    if h.packetCount < h.position + z.packetsFor room then { z with held := none }
    else { z with held := some { h with position := h.position + z.packetsFor room } }

end Sys2Proof.Machine
end

