-- ==== Sys2Proof/Machine/Engine.lean ====
section
/-! DEFINITION. The Scan Engine (chapter 6) and the reports it takes from LRX and CAPU, and the life of a slot in the
Capture Unit (R12 to R18). -/

namespace Sys2Proof.Machine

/-! ### Patching -/

/-- The scan in flight is switched to patching from its next line; a scan already patching is not switched again. The
entries of the own source leave the read-ahead buffer (R95). -/
def State.switchToPatching (s : State) : State :=
  match s.seng.scan with
  | none => s
  | some sc =>
    if sc.patchFrom.isSome then s
    else
      s.setSeng { s.seng with
        scan := some (Scan.withChoices { sc with patchFrom := some sc.nextLine } s.capu)
        readAhead := [] }

/-- A scan that shows this frame fresh. -/
def Scan.showsFresh (sc : Scan) (frame : Word) : Bool :=
  (sc.kind == .live || sc.kind == .deferred) && decide (sc.frame = some frame)

/-- A malformation at this line leaves the scan a line without its source: the line is below the active line count
(R95), or the scan is LIVE and has not produced its last line, which then never comes (R9 item 4, log 36). -/
def Scan.losesLine (sc : Scan) (line : Nat) : Bool :=
  decide (line < sc.lines) || (sc.kind == .live && decide (sc.nextLine < sc.lines))

/-- SENG takes a malformation report: a fresh scan of the frame that loses a line is switched to patching (R9, R95). -/
def State.engineMalformed (frame : Word) (line : Nat) (s : State) : State :=
  match s.seng.scan with
  | none => s
  | some sc => if sc.showsFresh frame ∧ sc.losesLine line then s.switchToPatching else s

/-- SENG takes an abandonment report: a DEFERRED scan that reads the slot is switched (R95). -/
def State.engineAbandoned (slot : SlotId) (s : State) : State :=
  match s.seng.scan with
  | none => s
  | some sc => if sc.kind = .deferred ∧ sc.scanSource = some slot then s.switchToPatching else s

/-- SSCH clears its pending frame when a malformation or an abandonment names it (R74). -/
def State.clearPending (frame : Word) (s : State) : State :=
  match s.ssch.pending with
  | none => s
  | some p => if p.frame = frame then s.setSsch { s.ssch with pending := none } else s

/-! ### The life of a slot -/

/-- The buffer after an abandonment: the slot's waiting entries leave it; an entry whose transfer is in progress stays
at the head until the transfer ends (R17 step 1). -/
def Capu.withoutSlot (c : Capu) (i : SlotId) (inProgress : Bool) : List CaptureEntry :=
  if inProgress then c.buffer.take 1 ++ (c.buffer.drop 1).filter (·.slot ≠ i) else c.buffer.filter (·.slot ≠ i)

/-- CAPU undoes a capture (R17 steps 1 to 3). -/
def State.undoCapture (i : SlotId) (s : State) : State :=
  (s.setMarb { s.marb with captureWrite := s.marb.captureWrite.filter fun r => decide (r.1 ≠ i) }).setCapu
    { slots := s.capu.slots.set i.val SlotRecord.emptied i.isLt
      fill := none
      latest := s.capu.latest
      buffer := s.capu.withoutSlot i (s.marb.busy .captureWrite) }

/-- A capture is abandoned and reported to SSCH and SENG (R17). -/
def State.abandonCapture (i : SlotId) (s : State) : State :=
  let t := s.undoCapture i
  let u := match s.capu.slots[i].frame with
    | some frame => t.clearPending frame
    | none => t
  u.engineAbandoned i

/-- The fill when it captures this frame (R14, R16, R17). -/
def Capu.fillFor (c : Capu) (frame : Word) : Option SlotId :=
  c.fill.filter fun i => decide (c.slots[i].frame = some frame)

/-- The record of a slot that has lost its last reason to be held is emptied (R16, R18). -/
def Capu.release (c : Capu) (i : SlotId) : Capu :=
  { c with slots := c.slots.set i.val SlotRecord.emptied i.isLt }

/-- The old latest is released at a completion unless it is the scan source (R16). -/
def Capu.releaseOld (c : Capu) (old scanSource : Option SlotId) : Capu :=
  match old with
  | none => c
  | some j => if scanSource = some j then c else c.release j

/-- A capture completes at its frame end (R16). -/
def Capu.complete (c : Capu) (i : SlotId) (scanSource : Option SlotId) : Capu :=
  ({ c with slots := c.slots.set i.val { c.slots[i] with state := .complete } i.isLt
            fill := none, latest := some i }).releaseOld (c.latest.filter (· ≠ i)) scanSource

/-- Frame end at CAPU (R16). -/
def State.captureFrameEnd (frame : Word) (s : State) : State :=
  match s.capu.fillFor frame with
  | some i => s.setCapu (s.capu.complete i s.scanSource)
  | none => s

/-- The scan source is let go at a scan end or a cut-short end (R18). -/
def Capu.releaseSource (c : Capu) (source : Option SlotId) : Capu :=
  match source with
  | none => c
  | some i => if c.fill = some i ∨ c.latest = some i then c else c.release i

/-- A slot is free when it is not the fill, not the latest and not the scan source (R11). -/
def Capu.isFree (c : Capu) (scanSource : Option SlotId) (i : SlotId) : Bool :=
  decide (c.fill ≠ some i) && decide (c.latest ≠ some i) && decide (scanSource ≠ some i)

/-- The lowest-indexed free slot (R12). -/
def Capu.lowestFree (c : Capu) (scanSource : Option SlotId) : Option SlotId :=
  [(0 : SlotId), 1, 2].find? (c.isFree scanSource)

/-- The lowest free slot becomes FILLING for a new frame (R12). -/
def State.allocate (frame : Word) (width lines : Nat) (s : State) : State :=
  match s.capu.lowestFree s.scanSource with
  | none => s
  | some i =>
    s.setCapu { s.capu with
      slots := s.capu.slots.set i.val
        { state := .filling, frame := some frame, linesWritten := 0, width := width, lines := lines } i.isLt
      fill := some i }

/-- A line handed on at CAPU: appended to the write buffer, or, when the buffer is full, the capture is abandoned
with cause OVERFLOW (R14, R15). -/
def State.captureLine (frame : Word) (line : Nat) (pixels : List GamePixel) (s : State) : State :=
  match s.capu.fillFor frame with
  | none => s
  | some i =>
    if s.capu.buffer.length < 4 then
      s.setCapu { s.capu with
        buffer := s.capu.buffer ++ [{ slot := i, frame := frame, line := line, pixels := pixels }] }
    else (s.abandonCapture i).raise .captureAbandoned

/-- The end of a capture write at CAPU: the entry leaves the buffer and is counted while its slot belongs to the same
capture (R14). -/
def Capu.writeEnded (c : Capu) : Capu :=
  match c.buffer with
  | [] => c
  | e :: rest =>
    let r := c.slots[e.slot]
    if r.state ≠ .free ∧ r.frame = some e.frame then
      { c with buffer := rest
               slots := c.slots.set e.slot.val { r with linesWritten := r.linesWritten + 1 } e.slot.isLt }
    else { c with buffer := rest }

/-! ### Lines -/

/-- SENG uses a line handed on when a LIVE scan that is not patching is coupled to its frame: the line is produced and
leaves one coupling delay after its line start (R92, R93). -/
def State.engineLine (frame : Word) (line lineStart : Nat) (pixels : List GamePixel) (s : State) : State :=
  match s.seng.scan with
  | none => s
  | some sc =>
    if sc.kind = .live ∧ sc.frame = some frame ∧ sc.patchFrom = none ∧ sc.nextLine = line ∧ line < sc.lines then
      let due := lineStart + Config.couplingLines * sc.lineTime
      s.setSeng { s.seng with
        scan := some { sc with nextLine := line + 1, timingBase := due, timingFrom := line + 1 }
        pipeline := s.seng.pipeline ++ [{ line := line, due := due, pixels := pixels }]
        previous := some pixels }
    else s

/-- A line of the fill colour. -/
def Scan.fillLine (sc : Scan) : List GamePixel := List.replicate sc.width sc.fill

/-- When the next output line leaves, or, after the last line, when the scan ends (R93, log 17): a line of the pipeline
at its coupled output time; a line of a LIVE scan not yet handed on has none; any other in own timing. -/
def State.outputDue (s : State) (sc : Scan) : Option Nat :=
  match s.seng.pipeline with
  | p :: _ => some p.due
  | [] =>
    if sc.kind = .live ∧ sc.patchFrom = none ∧ sc.nextOut < sc.lines then none
    else some (sc.timingBase + (sc.nextOut + 1 - sc.timingFrom) * sc.lineTime)

/-- The source pixels of an output line, and whether the line counts as patched (R92, R99, R100). -/
structure Produced where
  pixels : List GamePixel
  patched : Bool
  deriving DecidableEq, Repr

/-- A slot line at its output time: from the read-ahead buffer, or, when it is late, the pixels of the previous line,
or the fill colour for line 0 (R30, R99). -/
def Seng.slotLine (g : Seng) (sc : Scan) (slot : SlotId) (line : Nat) (patching : Bool) : Produced :=
  match g.readAhead.find? fun e => e.slot == slot && e.line == line with
  | some e => { pixels := e.pixels, patched := patching }
  | none => { pixels := g.previous.getD sc.fillLine, patched := true }

/-- The line SENG produces at the output time of a line that is not in the pipeline (R92, R98, R99). -/
def Seng.produce (g : Seng) (sc : Scan) (line : Nat) : Produced :=
  match sc.patchFrom, sc.slotFor line with
  | none, some i => g.slotLine sc i line false
  | none, none => { pixels := sc.fillLine, patched := false }
  | some _, some i => g.slotLine sc i line true
  | some _, none => { pixels := sc.fillLine, patched := true }

/-- The output time of line n of a DEFERRED scan finds that the line has not yet come to a FILLING slot (R28, R96). -/
def State.overtakes (s : State) (sc : Scan) : Bool :=
  match sc.scanSource with
  | none => false
  | some i =>
    sc.kind == .deferred && sc.patchFrom.isNone && s.capu.slots[i].state == .filling
      && !s.capu.hasLine i sc.nextOut

/-- A late line's waiting request is withdrawn (R30, R99). -/
def Marb.withdrawScanRead (m : Marb) (slot : Option SlotId) (line : Nat) : Marb :=
  { m with scanRead := m.scanRead.filter fun r => !(slot == some r.1 && r.2 == line) }

/-- What follows an output line's leaving: the patched count, LINES_PATCHED, the output path, the statistics, the read
window, the patch choices, and OCMP's next target (R92, R94, R98, R100, R106, R123, R134). -/
def State.emitLine (sc : Scan) (made : Produced) (fromPipeline : Bool) (s : State) : State :=
  let n := sc.nextOut
  let out := s.composeLine sc n made.pixels
  let reported := made.patched && !sc.patchReported
  let next : Scan := { sc with
    nextOut := n + 1
    nextLine := if fromPipeline then sc.nextLine else n + 1
    patched := if made.patched then sc.patched + 1 else sc.patched
    patchReported := sc.patchReported || made.patched }
  let t := (s.setPanel { s.panel with line := some (n, out) }).setZsu (s.zsu.takeLine sc.width sc.lines n out)
  let u := (t.setMarb (t.marb.withdrawScanRead (sc.slotFor n) n)).setSeng { t.seng with
    scan := some (next.withChoices t.capu)
    pipeline := if fromPipeline then t.seng.pipeline.drop 1 else t.seng.pipeline
    readAhead := t.seng.readAhead.filter fun e => decide (n < e.line)
    previous := if fromPipeline then t.seng.previous else some made.pixels }
  let v := u.advanceTarget sc n
  if reported then v.raise .linesPatched else v

/-- The output time of a line of the scan in flight (R92, R93, R96, R99). At an overtake the patch read of the line is
requested at the switch, before the line leaves; the line itself is late, and its request, if it still waits, is
withdrawn (R94, R96, R99). -/
def State.outputLine (sc : Scan) (s : State) : State :=
  match s.seng.pipeline with
  | p :: _ => s.emitLine sc { pixels := p.pixels, patched := false } true
  | [] =>
    if s.overtakes sc then
      let t := s.switchToPatching.serve
      match t.seng.scan with
      | some sc' => t.emitLine sc' (t.seng.produce sc' sc'.nextOut) false
      | none => t
    else s.emitLine sc (s.seng.produce sc sc.nextOut) false

/-- A slot line that has been read enters the read-ahead buffer when it is still wanted: in the read window, and from
the slot the line is taken from (R25, R94). -/
def State.keepSlotLine (slot : SlotId) (line : Nat) (s : State) : State :=
  match s.seng.scan with
  | none => s
  | some sc =>
    if line ∈ sc.window ∧ sc.slotFor line = some slot ∧ s.seng.readAhead.length < 4 then
      s.setSeng { s.seng with
        readAhead := s.seng.readAhead ++
          [{ slot := slot, line := line, pixels := s.mem.readSlotLine slot line sc.width }] }
    else s

/-! ### The record -/

/-- The frame record of a scan (R101, R147). -/
def Scan.record (sc : Scan) : FrameRecord :=
  { sequence := sc.sequence, kind := sc.kind, cause := sc.cause, startTime := sc.startTime,
    interval := sc.interval, frame := sc.frame, lag := sc.lag, overtaken := sc.overtaken, patched := sc.patched,
    profile := sc.profile, marker := sc.marker, estimate := sc.estimate, multiplier := sc.multiplier }

/-- SENG's own side of a scan end or a cut-short end: waiting reads withdrawn, reads in progress unwanted, the buffers
emptied, no scan in flight, the panel output state BLANKING; OCMP empties its cache (R102, R103, R123). At a cut-short end the
lines of a LIVE scan that were handed on and have not left do not leave (log 43). -/
def State.clearEngine (s : State) : State :=
  (((s.setMarb { s.marb with scanRead := none, overlayRead := none,
                             transfer := s.marb.transfer.map Transfer.unwanted }).setSeng
    { s.seng with scan := none, pipeline := [], readAhead := [], previous := none, output := .blanking }).setOcmp
    { target := none, cache := [] })

/-- A scan ends or is cut short, up to the report to SSCH (R102, R103, R18, R140, R141, R148). -/
def State.engineScanEnd (cut : Bool) (sc : Scan) (s : State) : State :=
  let t := (s.setFrl (s.frl.add sc.record)).setCapu (s.capu.releaseSource sc.scanSource)
  (t.statsScanEnd cut sc.sequence).clearEngine

end Sys2Proof.Machine
end

