-- ==== Sys2Proof/Machine/Scheduler.lean ====
section
/-! DEFINITION. The Scan Scheduler (chapter 5): scan starts with what each block does at one, the timers, plan points,
scan ends, START and STOP. -/

namespace Sys2Proof.Machine

/-- The five ways a scan starts (R69), with what each carries. -/
inductive StartReason where
  | arrival (frame : Word)
  | chase (p : PendingFrame)
  | plan (point : Word) (remaining : Nat)
  | deadline
  | freeRun
  deriving DecidableEq, Repr

/-- What a scan shows: the answer of R70 and R71. -/
structure Shown where
  kind : Kind
  cause : Cause
  source : Source
  scanSource : Option SlotId
  frame : Option Word
  deriving DecidableEq, Repr

/-- A scan of the fill colour (R70, R71). -/
def Shown.fillScan (cause : Cause) : Shown :=
  { kind := .fill, cause := cause, source := .fillColour, scanSource := none, frame := none }

/-- The latest slot when it has the format in force, the source of a REPEAT (R71). -/
def State.repeatSource (s : State) : Option SlotId :=
  s.capu.latest.filter fun i =>
    decide (s.capu.slots[i].width = s.activeEntry.profile.width ∧
      s.capu.slots[i].lines = s.activeEntry.profile.lines)

/-- A REPEAT of the latest slot, or the FILL scan that replaces it (R70, R71). -/
def State.shownRepeat (cause : Cause) (s : State) : Shown :=
  match s.repeatSource with
  | some i =>
    { kind := .repeated, cause := cause, source := .slot i, scanSource := some i, frame := s.capu.slots[i].frame }
  | none => Shown.fillScan cause

/-- A DEFERRED scan of the pending frame (R70). A pending frame always has a slot (R74); where there were none the
scan would have no source (log 29). -/
def State.shownDeferred (p : PendingFrame) (s : State) : Shown :=
  match s.capu.slotOf p.frame with
  | some i =>
    { kind := .deferred, cause := .chase, source := .slot i, scanSource := some i, frame := some p.frame }
  | none =>
    { kind := .deferred, cause := .chase, source := .fillColour, scanSource := none, frame := some p.frame }

/-- The kept loss action is FILL (R70, R79). -/
def Ssch.lossFills (x : Ssch) : Bool :=
  match x.kept with
  | some k => k.lossAction == .fill
  | none => false

/-- Kind, cause, source and frame of a scan (R70, R71), in the state after any commit taken at its start. -/
def State.shown (r : StartReason) (s : State) : Shown :=
  match r with
  | .arrival frame =>
    { kind := .live, cause := .arrival, source := .liveStream, scanSource := none, frame := some frame }
  | .chase p => s.shownDeferred p
  | .plan _ _ => s.shownRepeat .plan
  | .deadline => s.shownRepeat .deadline
  | .freeRun => if s.ssch.lossFills then Shown.fillScan .freeRun else s.shownRepeat .freeRun

/-- A fresh scan is LIVE or DEFERRED (00_scope.md "Terms"). -/
def Kind.isFresh : Kind → Bool
  | .live => true
  | .deferred => true
  | .repeated => false
  | .fill => false

/-! ### What each block does at a scan start -/

/-- TBC takes the pending commit (R130), but for its report to CRP. -/
def State.commitAtStart (s : State) : State :=
  match s.tbc.commitPending with
  | some marker => s.takeCommit marker
  | none => s

/-- The commit taken at this start changes the format (R133). -/
def State.startChangesFormat (s : State) : Bool := s.tbc.commitPending.isSome && s.formatChanges

/-- CRP acts on the report of a fresh scan: a new plan, and LAG_HIGH (R56 to R58, R62). The raised point becomes
absent (R77). -/
def State.freshReport (lfsTime : Word) (s : State) : State :=
  let p := s.activeEntry.profile
  let t := s.withCrp { s.crp with plan := makePlan s.crp.estimate p s.pacingTime s.microseconds, raised := none }
  if lagHigh (lagOf s.pacingTime lfsTime p.lineTime) p.lagThreshold then t.raise .lagHigh else t

/-- The LFS report and, when the commit changed the format, TBC's report of it, in the order that is free (R54,
log 12). -/
def State.liveReports (frame : Word) (changed : Bool) (s : State) : State :=
  if changed then
    if Config.commitReportFirst s.free then
      (s.drawn.reportFormatChange (some frame)).cadenceLfs frame s.pacingTime
    else (s.drawn.cadenceLfs frame s.pacingTime).reportFormatChange (some frame)
  else s.cadenceLfs frame s.pacingTime

/-- TBC's report of a format change that carries no frame number (R54). -/
def State.reportWithoutFrame (changed : Bool) (s : State) : State :=
  if changed then s.reportFormatChange none else s

/-- CRP at a scan start, in the state after any commit was taken: its reports for a LIVE or DEFERRED scan, the new
plan and the lag; TBC's report for the others; and SSCH's plan withdrawal when a commit was taken on a plan point
with repeats remaining (R54, R56, R77, log 13). An LFS taken at the same instant after a start that is not LIVE may
reach CRP before these reports, or after (R54, R56, log 37): `State.lfsBeforeStart` gives the other order. At a
LIVE start TBC's report of a format-changing commit comes before SSCH's scan report, so that the plan and the record then
have E INVALID and m 1: R54 and R56 give the two no order, and the order is the model's choice (log 47). An LFS that
SSCH took in HOLD at the instant of the MIN expiry has its report before TBC's report of a format-changing commit taken
at the DEFERRED start that follows, so that the last LFS time ends absent: R54 lets either be first, and the order is
the model's choice (log 49). -/
def State.cadenceAtStart (r : StartReason) (changed committed : Bool) (s : State) : State :=
  match r with
  | .arrival frame => (s.liveReports frame changed).freshReport s.pacingTime
  | .chase p => (s.reportWithoutFrame changed).freshReport p.lfsTime
  | .plan point remaining =>
    let t := s.reportWithoutFrame changed
    if committed && decide (1 ≤ remaining) then t.withCrp (t.crp.withdraw point) else t
  | .deadline => s.reportWithoutFrame changed
  | .freeRun => s.reportWithoutFrame changed

/-- The kept profile of a scan (R66). -/
def Profile.kept (p : Profile) : Kept :=
  { pminEff := p.pminEff, pmaxEff := p.pmaxEff, freeRun := p.freeRun, lossAction := p.lossAction }

/-- SSCH at a scan start (R66, R67, R69, R72). -/
def State.schedulerAtStart (r : StartReason) (fresh : Bool) (s : State) : State :=
  let k := s.activeEntry.profile.kept
  s.setSsch { s.ssch with
    state := .scan
    lastStart := some s.pacingTime
    kept := some k
    runStarted := true
    pending := match r with
      | .chase _ => none
      | .arrival _ => s.ssch.pending
      | .plan _ _ => s.ssch.pending
      | .deadline => s.ssch.pending
      | .freeRun => s.ssch.pending
    overtaken := if fresh then 0 else s.ssch.overtaken
    min := .running (s.microseconds + k.pminEff)
    deadline := .running (s.microseconds + k.pmaxEff)
    freeRun := .running (s.microseconds + k.freeRun) }

/-- The LFS time of the frame a fresh scan shows (R62). -/
def StartReason.lfsTime (now : Word) : StartReason → Option Word
  | .arrival _ => some now
  | .chase p => some p.lfsTime
  | .plan _ _ => none
  | .deadline => none
  | .freeRun => none

/-- The interval from the previous scan start of the same run (R69). -/
def State.intervalAtStart (s : State) : Option Word :=
  if s.ssch.runStarted then s.ssch.lastStart.map fun last => s.pacingTime - last else none

/-- The scan record SENG sets up (R90, R101). `before` is the state SSCH decided the start in, `crp` what CRP gives
for the record (R63); the state is the one after any commit was taken and CRP acted. -/
def State.newScan (s : State) (r : StartReason) (sh : Shown) (before : State) (crp : Crp) : Scan :=
  let p := s.activeEntry.profile
  { kind := sh.kind, cause := sh.cause, sequence := s.seng.sequence, startTime := s.pacingTime
    interval := before.intervalAtStart, frame := sh.frame, profile := s.tbc.active.profile
    width := p.width, lines := p.lines, lineTime := p.lineTime, fill := s.tbc.active.fill
    source := sh.source, scanSource := sh.scanSource, nextLine := 0, patchFrom := none, patched := 0
    patchReported := false
    overtaken := if sh.kind.isFresh then some before.ssch.overtaken else none
    lag := (r.lfsTime s.pacingTime).map fun t => lagOf s.pacingTime t p.lineTime
    estimate := crp.estimate, multiplier := crp.plan.multiplier, marker := before.tbc.commitPending
    nextOut := 0, choices := [], timingBase := s.clock + (Config.couplingLines - 1) * p.lineTime, timingFrom := 0
    reports := { clock := s.clock, before := before.crp, after := s.crp, changed := before.startChangesFormat } }

/-- The slot of a DEFERRED scan holds a capture of the format in force (R97). -/
def Scan.sourceFits (sc : Scan) (c : Capu) : Bool :=
  match sc.scanSource with
  | some i => decide (c.slots[i].width = sc.width) && decide (c.slots[i].lines = sc.lines)
  | none => false

/-- A DEFERRED scan whose slot holds another format is patched from line 0 at its start (R97). -/
def Scan.formatPatched (sc : Scan) (c : Capu) : Scan :=
  if sc.kind = .deferred ∧ sc.sourceFits c = false then Scan.withChoices { sc with patchFrom := some 0 } c else sc

/-- SENG and OCMP at a scan start: the sequence number is taken, the scan set up, the header sent, line 0 made the
target (R90, R91, R97, R123). -/
def State.engineAtStart (sc : Scan) (s : State) : State :=
  ((s.setSeng { sequence := s.seng.sequence + 1, scan := some (sc.formatPatched s.capu), pipeline := [],
                readAhead := [], previous := none, output := .scanning }).setPanel
    { header := some (scanHeader sc.kind sc.sequence sc.interval sc.profile), line := none }).setOcmp
    { target := some 0, cache := [] }

/-- OCAP and ZSU at a scan start (R117, R139). -/
def State.imageAtStart (k : Kind) (s : State) : State :=
  (s.setOcap s.ocap.atScanStart).setZsu (s.zsu.atScanStart k)

/-- A scan starts (R69). The record's E and m are those CRP holds when the start's own reports have been taken; an LFS
at the same instant may reach CRP before them and change both (R56, R63, log 37). That is an LFS SSCH takes after the
start. One that SSCH took before it, such as an LFS in OFF before a START that starts a scan at once, has reached CRP,
and a REPEAT or FILL record carries the E after its interval: R63 lets it carry either, and the order is the model's
choice (log 50). -/
def State.startScan (r : StartReason) (s : State) : State :=
  let a := s.commitAtStart
  let sh := a.shown r
  let b := a.cadenceAtStart r s.startChangesFormat s.tbc.commitPending.isSome
  let crp := if sh.kind.isFresh then b.crp else a.crp
  let c := b.schedulerAtStart r sh.kind.isFresh
  (c.imageAtStart sh.kind).engineAtStart (c.newScan r sh s crp)

/-! ### Timers -/

/-- A timer is EXPIRED. -/
def Timer.isExpired : Timer → Bool
  | .expired _ => true
  | .running _ => false
  | .idle => false

/-- A RUNNING timer whose time has run (R67). -/
def Timer.isDue (t : Timer) (now : Nat) : Bool :=
  match t with
  | .running due => decide (due ≤ now)
  | .expired _ => false
  | .idle => false

/-- A timer's time has run: it becomes EXPIRED (R67). -/
def Timer.expire : Timer → Timer
  | .running due => .expired due
  | .expired due => .expired due
  | .idle => .idle

/-- An EXPIRED timer that is active in OPEN is taken: DEADLINE with the link LOCKED and the plan indication EMPTY,
FREE-RUN with the link DOWN (R67, R78, R79). -/
def State.takeOpen (s : State) : State :=
  match s.lrx.link with
  | .locked => if s.ssch.planEmpty && s.ssch.deadline.isExpired then s.startScan .deadline else s
  | .down => if s.ssch.freeRun.isExpired then s.startScan .freeRun else s

/-- A MIN expiry taken in HOLD (R75). -/
def State.takeMin (s : State) : State :=
  match s.ssch.pending with
  | some p => s.startScan (.chase p)
  | none => (s.setSsch { s.ssch with state := .opened }).takeOpen

/-- Every EXPIRED timer that is active is taken (R67). -/
def State.takeActive (s : State) : State :=
  match s.ssch.state with
  | .hold => if s.ssch.min.isExpired then s.takeMin else s
  | .opened => s.takeOpen
  | .scan => s
  | .off => s

/-- The time of MIN has run (R67, R75). -/
def State.minExpires (s : State) : State :=
  if s.ssch.min.isDue s.microseconds then (s.setSsch { s.ssch with min := s.ssch.min.expire }).takeActive else s

/-- The time of DEADLINE has run (R67, R78). -/
def State.deadlineExpires (s : State) : State :=
  if s.ssch.deadline.isDue s.microseconds then
    (s.setSsch { s.ssch with deadline := s.ssch.deadline.expire }).takeActive
  else s

/-- The time of FREE-RUN has run (R67, R79). -/
def State.freeRunExpires (s : State) : State :=
  if s.ssch.freeRun.isDue s.microseconds then
    (s.setSsch { s.ssch with freeRun := s.ssch.freeRun.expire }).takeActive
  else s

/-! ### Plan points -/

/-- SSCH takes a repeat due (R68, R76, R77). A repeat due with none remaining that finds OPEN makes the indication EMPTY,
so a DEADLINE already EXPIRED could be taken there (R68); the repeat due starts the scan, with cause PLAN (log 39). -/
def State.repeatDue (point : Word) (remaining : Nat) (s : State) : State :=
  let t := s.setSsch { s.ssch with planEmpty := s.ssch.planEmpty || remaining == 0 }
  match s.ssch.state with
  | .opened => t.startScan (.plan point remaining)
  | .hold => if 1 ≤ remaining then t.withCrp (t.crp.withdraw point) else t
  | .scan => t
  | .off => t

/-- CRP raises the next plan point and advances the plan (R59, R77). The repeat due of the last point is itself the
report that the plan is empty (R61). -/
def State.planPoint (point : Word) (s : State) : State :=
  (s.setCrp { s.crp with plan := s.crp.plan.advance, raised := some point }).repeatDue point
    (s.crp.plan.remaining - 1)

/-- The plan timer's time has run (R59). -/
def Plan.isDue (p : Plan) (now : Nat) : Bool :=
  match p.timer with
  | some due => decide (due ≤ now)
  | none => false

/-- The plan timer expires at the next plan point (R59). -/
def State.planTimerExpires (s : State) : State :=
  match s.crp.plan.next with
  | some point => if s.crp.plan.isDue s.microseconds then s.planPoint point else s
  | none => s

/-! ### Scan end, OFF -/

/-- The scheduler reaches OFF (R85, R131, R105, R86). -/
def State.reachOff (s : State) : State :=
  let a := s.setSsch { s.ssch with state := .off, stopRequested := false, pending := none, overtaken := 0 }
  let b := (a.withCrp a.crp.clearPlan).commitAtOff
  (b.setSeng { b.seng with output := .idle }).setDctl .standby

/-- SSCH takes a scan end: HOLD, or OFF when stop-requested is SET (R80). -/
def State.afterScanEnd (s : State) : State :=
  if s.ssch.stopRequested then s.reachOff else (s.setSsch { s.ssch with state := .hold }).takeActive

/-- An output time (R93): a line of the scan leaves, or, one line time after the last, the scan ends (R102, log 17).
An output time that is not due changes nothing (log 3). -/
def State.outputTime (s : State) : State :=
  match s.seng.scan with
  | none => s
  | some sc =>
    match s.outputDue sc with
    | none => s
    | some due =>
      if due ≤ s.clock then
        if sc.nextOut < sc.lines then s.outputLine sc else (s.engineScanEnd false sc).afterScanEnd
      else s

/-! ### START -/

/-- The fuse engine is locking (R81). -/
def Engine.isLocking : Engine → Bool
  | .locking _ _ => true
  | .programming _ _ _ _ => false
  | .idle => false

/-- SSCH leaves OFF (R66, R67, R82). -/
def State.leaveOff (s : State) : State :=
  match s.ssch.lastStart with
  | none =>
    let k := s.activeEntry.profile.kept
    s.setSsch { s.ssch with
      state := .opened, runStarted := false, kept := some k, min := .expired s.microseconds
      deadline := .running (s.microseconds + k.pmaxEff), freeRun := .running (s.microseconds + k.freeRun) }
  | some _ =>
    s.setSsch { s.ssch with
      state := if s.ssch.min.isExpired then .opened else .hold, runStarted := false }

/-- START's own scan keeps the profile kept before it, for a COMMIT at the same instant (R131, log 52). -/
def State.markOpening (k : Option Kept) (s : State) : State :=
  s.setSeng { s.seng with scan := s.seng.scan.map fun sc => { sc with opening := k } }

/-- START accepted (R82, R105). A timer that is EXPIRED and active is taken at once, in START's own step; a COMMIT of the
same instant that is taken after START is still taken at the start of that scan (R131): `State.commitAtOpening`. -/
def State.startRun (s : State) : State :=
  let t := s.leaveOff
  (((t.setDctl .running).setSeng { t.seng with output := .blanking }).takeActive).markOpening t.ssch.kept

/-- START decided (R81, R82). -/
def startEffect (tag : Byte) (s : State) : State :=
  if s.dctl ≠ .standby then s.addReply tag 0x01 .wrongState []
  else if s.lfb.engine.isLocking then s.addReply tag 0x01 .fuseBusy []
  else if s.activeEntry.state ≠ .valid then s.addReply tag 0x01 .badProfile []
  else (s.startRun.addReply tag 0x01 .ok []).serve

/-! ### COMMIT -/

/-- The scan that START itself started at this very instant, with the profile kept before it (R82, R131). -/
def State.openingNow (s : State) : Option (Scan × Kept) :=
  (s.seng.scan.filter fun sc => sc.reports.clock == s.clock).bind fun sc => sc.opening.map fun k => (sc, k)

/-- The state START's scan starts in, made again at the same instant: OPEN with no scan started in this run, the kept
profile and the sequence number of before, the scan source let go and the engine empty. -/
def State.beforeOpening (sc : Scan) (k : Kept) (s : State) : State :=
  let t := (s.setCapu (s.capu.releaseSource sc.scanSource)).clearEngine
  (t.setSeng { t.seng with sequence := t.seng.sequence - 1 }).setSsch
    { t.ssch with state := .opened, kept := some k, runStarted := false }

/-- What START's own scan was started by: DEADLINE or FREE-RUN (R82). -/
def Scan.openingReason (sc : Scan) : StartReason := if sc.cause = .freeRun then .freeRun else .deadline

/-- A COMMIT at the instant of a START that started a scan: the commit becomes pending and is taken at that scan's
start, the first of the run, whose record carries the marker (R131). The start is that of `State.startScan`, taken again
with the commit pending (log 52). -/
def State.commitAtOpening (marker : Half) (sc : Scan) (k : Kept) (s : State) : State :=
  let t := s.beforeOpening sc k
  (t.setTbc { t.tbc with commitPending := some marker }).startScan sc.openingReason

/-- COMMIT accepted in RUNNING: it waits for the next scan start; at the instant of START that is the start of START's
own scan (R128, R130, R131). -/
def commitInRun (tag : Byte) (marker : Half) (s : State) : State :=
  match s.openingNow with
  | some (sc, k) => ((s.commitAtOpening marker sc k).addReply tag 0x36 .ok []).serve
  | none => (s.setTbc { s.tbc with commitPending := some marker }).addReply tag 0x36 .ok []

/-- COMMIT decided (R128). -/
def commitEffect (tag : Byte) (marker : Half) (s : State) : State :=
  if s.tbc.commitPending.isSome then s.addReply tag 0x36 .commitPending []
  else if (s.pru.table[s.tbc.shadow.profile]).state ≠ .valid then s.addReply tag 0x36 .badProfile []
  else if s.dctl = .running then commitInRun tag marker s
  else (s.commitWithoutScan marker).addReply tag 0x36 .ok []

/-! ### STOP and RESET_CADENCE -/

/-- The scan's last line has left, so that its end is due (R93, R102, log 17). -/
def State.endDue (s : State) (sc : Scan) : Bool :=
  decide (sc.lines ≤ sc.nextOut) && (s.outputDue sc).any fun due => decide (due ≤ s.clock)

/-- A forced stop: SENG cuts the scan short and SSCH takes its end (R84, R103, log 20). A request that finds no scan in
flight is ignored; that is so when SENG has ended the scan, whose last line has left, before the request reaches it,
and SSCH then takes the scan's own end (R103): whether it has, is free (log 44). -/
def State.forceStop (s : State) : State :=
  match s.seng.scan with
  | some sc =>
    if s.endDue sc then
      if Config.scanEndedFirst s.free then (s.drawn.engineScanEnd false sc).afterScanEnd
      else (s.drawn.engineScanEnd true sc).afterScanEnd
    else (s.engineScanEnd true sc).afterScanEnd
  | none => s

/-- STOP decided (R83, R84). -/
def stopEffect (tag : Byte) (s : State) : State :=
  match s.ssch.state with
  | .off => s.addReply tag 0x02 .wrongState []
  | .hold => (s.reachOff.addReply tag 0x02 .ok []).serve
  | .opened => (s.reachOff.addReply tag 0x02 .ok []).serve
  | .scan =>
    if s.ssch.stopRequested then (s.forceStop.addReply tag 0x02 .ok []).serve
    else (s.setSsch { s.ssch with stopRequested := true }).addReply tag 0x02 .ok []

/-- RESET_CADENCE decided (R55): DEADLINE may become active and be taken (R68). -/
def resetCadenceEffect (tag : Byte) (s : State) : State :=
  (((s.withCrp (s.crp.invalidate false)).takeActive).addReply tag 0x20 .ok []).serve

/-! ### The rows -/

/-- MIN_EXPIRY (R75). -/
def execMinExpiry (dt : Nat) (s : State) : Host.Outcome State Fault Refusal :=
  .next (arrival dt (fun t => t.minExpires.serve) s)

/-- DEADLINE_EXPIRY (R78). -/
def execDeadlineExpiry (dt : Nat) (s : State) : Host.Outcome State Fault Refusal :=
  .next (arrival dt (fun t => t.deadlineExpires.serve) s)

/-- FREE_RUN_EXPIRY (R79). -/
def execFreeRunExpiry (dt : Nat) (s : State) : Host.Outcome State Fault Refusal :=
  .next (arrival dt (fun t => t.freeRunExpires.serve) s)

/-- PLAN_TIMER_EXPIRY (R59). -/
def execPlanTimerExpiry (dt : Nat) (s : State) : Host.Outcome State Fault Refusal :=
  .next (arrival dt (fun t => t.planTimerExpires.serve) s)

/-- OUTPUT_TIME (R93). -/
def execOutputTime (dt : Nat) (s : State) : Host.Outcome State Fault Refusal :=
  .next (arrival dt (fun t => t.outputTime.serve) s)

end Sys2Proof.Machine
end

