-- ==== Sys2Proof/Machine/Live.lean ====
section
/-! DEFINITION. The Live Receiver (chapter 1): the live link, frame starts, the format check, and the Live Port's
arrivals. -/

namespace Sys2Proof.Machine

/-- The check state becomes CLOSED (R6, R9). -/
def State.closeCheck (s : State) : State := s.setLrx { s.lrx with check := .closed }

/-- CAPU abandons the capture of a frame when its slot is still the fill (R9, R13). -/
def State.abandonFrame (frame : Word) (s : State) : State :=
  match s.capu.fillFor frame with
  | some i => s.abandonCapture i
  | none => s

/-- A frame is declared malformed at line k (R9). -/
def State.malformed (frame : Word) (k : Nat) (s : State) : State :=
  (((s.closeCheck.raise .malformedFrame).abandonFrame frame).clearPending frame).engineMalformed frame k

/-- A frame still ARRIVING is declared malformed at its first line not yet handed on; otherwise nothing (R2, R4
step 1). -/
def State.cutArriving (s : State) : State :=
  match s.lrx.check with
  | .arriving f => s.malformed f.frame f.linesSeen
  | .counted _ => s
  | .closed => s

/-- A lock arrival taken in DOWN (R1, R53, R79). -/
def State.lockTaken (s : State) : State :=
  let t := (s.setLrx { s.lrx with link := .locked }).raise .liveLock
  (t.withCrp (t.crp.invalidate false)).takeActive

/-- A loss arrival taken in LOCKED (R2, R53, R79). -/
def State.lossTaken (s : State) : State :=
  let t := s.cutArriving
  let u := (t.setLrx { t.lrx with link := .down, check := .closed }).raise .liveLoss
  (u.withCrp (u.crp.invalidate false)).takeActive

/-- The live link state follows a lock condition (R1, R2, R3). -/
def State.followLiveLock (s : State) : State :=
  match s.lrx.link, s.pins.liveLock with
  | .down, true => s.lockTaken
  | .locked, false => s.lossTaken
  | .down, false => s
  | .locked, true => s

/-! ### Frame starts -/

/-- An LFS taken in HOLD or SCAN makes the frame pending (R74). -/
def pendFrame (x : Ssch) (frame time : Word) : Ssch :=
  { x with pending := some { frame := frame, lfsTime := time }
           overtaken := if x.pending.isSome then min (x.overtaken + 1) 255 else x.overtaken }

/-- The scan in flight that is not LIVE, started at this very instant with CRP untouched since: an LFS taken now may
reach CRP before that start's reports (R54, R56, R63, log 37). -/
def State.startedNow (s : State) : Option Scan :=
  s.seng.scan.filter fun sc => sc.kind != .live && sc.reports.clock == s.clock && decide (sc.reports.after = s.crp)

/-- CRP where an LFS report is taken before the reports of the start of `sc`. With a format change the report of it then
removes the LFS time again (R54); a DEFERRED scan's plan is made from the E after the interval (R56). -/
def State.crpBeforeStart (sc : Scan) (frame : Word) (s : State) : Crp :=
  let c := if sc.reports.changed then { s.crp with newest := some frame }
    else s.crp.takeLfs s.activeEntry frame s.pacingTime
  if sc.kind = .deferred then
    { c with plan := makePlan c.estimate s.activeEntry.profile s.pacingTime s.microseconds }
  else c

/-- The record of a scan whose start reported after the LFS: a DEFERRED one carries the E and m of the plan just made,
another the E after the interval and the m as it stood (R63). -/
def Scan.recordAfterLfs (sc : Scan) (found final : Crp) : Scan :=
  if sc.kind = .deferred then { sc with estimate := final.estimate, multiplier := final.plan.multiplier }
  else { sc with estimate := found.estimate }

/-- An LFS report that reaches CRP before the reports of the start of `sc`, taken at the same instant (R54, R56, R63,
log 37). -/
def State.lfsBeforeStart (sc : Scan) (frame : Word) (s : State) : State :=
  let found := sc.reports.before.takeLfs s.activeEntry frame s.pacingTime
  let final := s.crpBeforeStart sc frame
  let t := (s.withCrp final).setSeng { s.seng with scan := some (sc.recordAfterLfs found final) }
  if sc.reports.before.stallsAt s.activeEntry s.pacingTime then t.raise .stall else t

/-- CRP takes the LFS report of a frame that finds a scan in flight; at the instant of that scan's start the order of
the two is free (log 37). -/
def State.cadenceInScan (frame : Word) (s : State) : State :=
  match s.startedNow with
  | some sc =>
    if Config.lfsReportFirst s.free then s.drawn.lfsBeforeStart sc frame
    else s.drawn.cadenceLfs frame s.pacingTime
  | none => s.cadenceLfs frame s.pacingTime

/-- SSCH makes a frame the pending one at its LFS (R74). -/
def State.pend (frame : Word) (s : State) : State := s.setSsch (pendFrame s.ssch frame s.pacingTime)

/-- SSCH and CRP take the LFS report (R50, R73, R74). -/
def State.reportLfs (frame : Word) (s : State) : State :=
  match s.ssch.state with
  | .opened => s.startScan (.arrival frame)
  | .hold => (s.cadenceLfs frame s.pacingTime).pend frame
  | .scan => (s.cadenceInScan frame).pend frame
  | .off => s.cadenceLfs frame s.pacingTime

/-- CAPU resolves the previous capture (R13). -/
def State.resolveCapture (s : State) : State :=
  match s.capu.fill with
  | some i => s.abandonCapture i
  | none => s

/-- The check profile is latched and the check state opened, and CAPU allocates a slot, when the profile the active
bank names is VALID; otherwise the frame is unchecked (R4 steps 5 and 6, R5, R12). -/
def State.openFrame (frame : Word) (s : State) : State :=
  let e := s.activeEntry
  if e.state = .valid then
    let t := s.allocate frame e.profile.width e.profile.lines
    t.setLrx { t.lrx with
      check := .arriving
        { frame := frame, profile := s.tbc.active.profile, width := e.profile.width, lines := e.profile.lines,
          lineTime := e.profile.lineTime, linesSeen := 0, lineOpen := true, lineStart := s.clock } }
  else s

/-- An LFS is taken (R4). -/
def State.takeLfs (s : State) : State :=
  let a := s.cutArriving
  let frame := a.lrx.frameCounter + 1
  let b := a.setLrx { a.lrx with frameCounter := frame, check := .closed }
  ((b.reportLfs frame).resolveCapture).openFrame frame

/-! ### Lines -/

/-- The period check (R7). -/
def periodAccepted (period lineTime : Nat) : Bool :=
  decide (64 * (period - lineTime) ≤ lineTime) && decide (64 * (lineTime - period) ≤ lineTime)

/-- The longest accepted period (R7). -/
def longestPeriod (lineTime : Nat) : Nat := lineTime + lineTime / 64

/-- A line start in ARRIVING (R6, R7). -/
def State.arrivingLineStart (f : FrameCheck) (s : State) : State :=
  if f.lineOpen then s.malformed f.frame f.linesSeen
  else if f.linesSeen = 0 ∨ periodAccepted (s.clock - f.lineStart) f.lineTime = true then
    s.setLrx { s.lrx with check := .arriving { f with lineOpen := true, lineStart := s.clock } }
  else s.malformed f.frame f.linesSeen

/-- A line start taken (R6 to R8). -/
def State.takeLineStart (s : State) : State :=
  match s.lrx.check with
  | .closed => s
  | .arriving f => s.arrivingLineStart f
  | .counted f => s.malformed f.frame f.lines

/-- A line that passes its checks is handed to CAPU and to SENG (R6, R14, R92). -/
def State.handOn (f : FrameCheck) (pixels : List GamePixel) (s : State) : State :=
  (s.captureLine f.frame f.linesSeen pixels).engineLine f.frame f.linesSeen f.lineStart pixels

/-- The check state after a line has been handed on; the last line is the frame end (R6, R8, R16). -/
def State.countLine (f : FrameCheck) (s : State) : State :=
  let g : FrameCheck := { f with linesSeen := f.linesSeen + 1, lineOpen := false }
  if g.linesSeen = f.lines then (s.setLrx { s.lrx with check := .counted g }).captureFrameEnd f.frame
  else s.setLrx { s.lrx with check := .arriving g }

/-- A line end taken with the pixels since its line start (R6). -/
def State.takeLineEnd (pixels : List GamePixel) (s : State) : State :=
  match s.lrx.check with
  | .closed => s
  | .counted _ => s
  | .arriving f =>
    if f.lineOpen then
      if pixels.length = f.width then (s.handOn f pixels).countLine f else s.malformed f.frame f.linesSeen
    else s

/-- A blanking start taken (R6, R8). -/
def State.takeBlanking (s : State) : State :=
  match s.lrx.check with
  | .closed => s
  | .arriving f => s.malformed f.frame f.linesSeen
  | .counted _ => s.closeCheck

/-- The line that has not started: with line n − 1 still open its number is one above the lines seen (R7). -/
def FrameCheck.overdueLine (f : FrameCheck) : Nat := if f.lineOpen then f.linesSeen + 1 else f.linesSeen

/-- The line-overdue expiry (R7): the frame is malformed at the line that has not started. An expiry whose time has not
run, or in another phase, changes nothing (log 3). -/
def State.lineOverdue (s : State) : State :=
  match s.lrx.check with
  | .closed => s
  | .counted _ => s
  | .arriving f =>
    if f.lineStart + longestPeriod f.lineTime ≤ s.clock then s.malformed f.frame f.overdueLine else s

/-! ### The rows -/

/-- The link receiver's lock condition, which the lock and loss arrivals report (R3, log 5). -/
def State.setLiveLock (level : Bool) (s : State) : State := s.setPins { s.pins with liveLock := level }

/-- An arrival of the Live Port that LRX takes while the link is LOCKED (R2, R4). -/
def State.whenLocked (act : State → State) (s : State) : State :=
  match s.lrx.link with
  | .down => s
  | .locked => act s

/-- LOCK_ARRIVAL (R1). -/
def execLockArrival (dt : Nat) (s : State) : Host.Outcome State Fault Refusal :=
  .next (arrivalOutsideLoading dt (fun t => t.followLiveLock.serve) (s.setLiveLock true))

/-- LOSS_ARRIVAL (R2). -/
def execLossArrival (dt : Nat) (s : State) : Host.Outcome State Fault Refusal :=
  .next (arrivalOutsideLoading dt (fun t => t.followLiveLock.serve) (s.setLiveLock false))

/-- LFS (R4). -/
def execLfs (dt : Nat) (s : State) : Host.Outcome State Fault Refusal :=
  .next (arrivalOutsideLoading dt (State.whenLocked fun t => t.takeLfs.serve) s)

/-- LINE_START (R6, R7, R8). -/
def execLineStart (dt : Nat) (s : State) : Host.Outcome State Fault Refusal :=
  .next (arrivalOutsideLoading dt (State.whenLocked fun t => t.takeLineStart.serve) s)

/-- LINE_END (R6, R8). -/
def execLineEnd (dt : Nat) (pixels : List GamePixel) (s : State) : Host.Outcome State Fault Refusal :=
  .next (arrivalOutsideLoading dt (State.whenLocked fun t => (t.takeLineEnd pixels).serve) s)

/-- BLANKING_START (R6, R8). -/
def execBlankingStart (dt : Nat) (s : State) : Host.Outcome State Fault Refusal :=
  .next (arrivalOutsideLoading dt (State.whenLocked fun t => t.takeBlanking.serve) s)

/-- LINE_OVERDUE_EXPIRY (R7). -/
def execLineOverdueExpiry (dt : Nat) (s : State) : Host.Outcome State Fault Refusal :=
  .next (arrivalOutsideLoading dt (State.whenLocked fun t => t.lineOverdue.serve) s)

end Sys2Proof.Machine
end

