-- ==== Sys2Proof/Machine/Port.lean ====
section
/-! DEFINITION. The memory port (chapter 2): the end of a transfer and the maintenance arrivals. -/

namespace Sys2Proof.Machine

/-- The line of a transfer has a place in the layout of R22. -/
def State.transferInLayout (s : State) : Transfer → Bool
  | .captureWrite _ line =>
    match s.capu.buffer with
    | e :: _ => slotLineInLayout line e.pixels.length
    | [] => true
  | .scanRead _ line wanted =>
    match s.seng.scan with
    | some sc => !wanted || slotLineInLayout line sc.width
    | none => true
  | .overlayRead _ line wanted => !wanted || planeLineInLayout line 0
  | .overlayWrite e _ => planeLineInLayout e.line e.pixels.length

/-- The end of a capture write: the line is in memory, and CAPU takes its entry from the buffer (R14, R25). -/
def State.captureWriteEnds (i : SlotId) (line : Nat) (s : State) : State :=
  match s.capu.buffer with
  | e :: _ => (s.setMem (s.mem.writeSlotLine i line e.pixels)).setCapu s.capu.writeEnded
  | [] => s

/-- The end of an overlay write: the line is in memory, and OCAP takes its entry from the buffer unless a discard
already did (R25, R33, R115, R116). -/
def State.overlayWriteEnds (e : OverlayEntry) (buffered : Bool) (s : State) : State :=
  let t := s.setMem (s.mem.writePlaneLine e.plane e.line e.pixels)
  if buffered then t.setOcap t.ocap.writeEnded else t

/-- The requester acts on the end of its transfer (R25). -/
def State.transferActs (x : Transfer) (s : State) : State :=
  match x with
  | .captureWrite i line => s.captureWriteEnds i line
  | .scanRead i line wanted => if wanted then s.keepSlotLine i line else s
  | .overlayRead p line wanted => if wanted then s.cachePlaneLine line (s.mem.readPlaneLine p line) else s
  | .overlayWrite e buffered => s.overlayWriteEnds e buffered

/-- The port is free: maintenance that is due begins, and otherwise MARB makes a grant decision over the requests made
at this end (R25, R26, R27). The next request of the requester whose transfer ended, OCMP's and OCAP's too, reaches MARB
before the decision (log 38). -/
def State.portFreed (s : State) : State :=
  let t := (s.setMarb { s.marb with transfer := none }).makeRequests
  match t.marb.maintenance with
  | .due => t.setMarb { t.marb with maintenance := .active }
  | .none => if t.canGrant then t.grant else t
  | .active => t

/-- The transfer in progress ends (R25); with none in progress nothing does (log 42). -/
def State.transferEnds (s : State) : Host.Outcome State Fault Refusal :=
  match s.marb.transfer with
  | none => .next s
  | some x => if s.transferInLayout x then .next (s.transferActs x).portFreed else .fault .noSuchLine

/-- Maintenance due (R26). -/
def State.maintenanceDue (s : State) : State :=
  match s.marb.maintenance with
  | .none => s.setMarb { s.marb with maintenance := if s.marb.transfer.isNone then .active else .due }
  | .due => s
  | .active => s

/-- Maintenance end (R26, R27); outside ACTIVE it is ignored (R26). No grant is made in LOADING (R34). -/
def State.maintenanceEnds (s : State) : State :=
  match s.marb.maintenance with
  | .active =>
    let t := s.setMarb { s.marb with maintenance := .none }
    if t.canGrant then t.grant else t
  | .none => s
  | .due => s

/-- MAINTENANCE_DUE (R26). -/
def execMaintenanceDue (dt : Nat) (s : State) : Host.Outcome State Fault Refusal :=
  .next (arrival dt State.maintenanceDue s)

/-- MAINTENANCE_END (R26, R27). -/
def execMaintenanceEnd (dt : Nat) (s : State) : Host.Outcome State Fault Refusal :=
  .next (arrival dt State.maintenanceEnds s)

/-- TRANSFER_END (R25). While the reset line is asserted no transfer is in progress (R34). -/
def execTransferEnd (dt : Nat) (s : State) : Host.Outcome State Fault Refusal :=
  if s.pins.reset then .next s else (s.elapse dt).transferEnds

end Sys2Proof.Machine
end

