-- ==== Sys2Proof/Machine/Return.lean ====
section
/-! DEFINITION. The return window (R159, R160), the arrivals of the Overlay Port (R113 to R116), and the event commands
(R171, R172). -/

namespace Sys2Proof.Machine

/-- A notice is due (R169). -/
def Evu.noticeDue (v : Evu) : Bool := v.sources.toList.any (·.qualifies v.noticeThreshold)

/-- The notice of a window, when one is due (R160 step 2, R169). -/
def State.windowNotice (s : State) : List (List Byte) :=
  if s.evu.noticeDue then [noticePacket s.evu s.tbc.lastMarker s.pacingTime] else []

/-- The replies a window takes (R160 step 1). -/
def State.windowReplies (s : State) : List (List Byte) := (s.rct.queue.take Config.windowPlaces).map Reply.packet

/-- The places left for statistics packets (R160 step 3). -/
def State.roomForStats (s : State) : Nat :=
  Config.windowPlaces - s.windowReplies.length - s.windowNotice.length

/-- The places left for records (R160 step 4). -/
def State.roomForRecords (s : State) : Nat := s.roomForStats - s.zsu.packetsFor s.roomForStats

/-- The packets of a window, in its fill order (R160). -/
def State.windowPackets (s : State) : List (List Byte) :=
  s.windowReplies ++ s.windowNotice ++ s.zsu.packets s.roomForStats
    ++ (s.frl.taken s.roomForRecords).map FrameRecord.packet

/-- A return window opens: its contents leave their sources (R159, R160, R143, R150, R169). -/
def State.openWindow (s : State) : State :=
  (((s.setRct { queue := s.rct.queue.drop Config.windowPlaces, lane := s.windowPackets, sending := true }).setEvu
    s.evu.markNoticed).setZsu (s.zsu.afterWindow s.roomForStats)).setFrl (s.frl.afterWindow s.roomForRecords)

/-- An overlay line start taken (R114, R115, R159). -/
def State.overlayLineStart (s : State) : State :=
  match s.ocap.link with
  | .down => s
  | .locked =>
    match s.ocap.phase with
    | .closed => s
    | .blanking => s.beginBackFrame.openWindow
    | .arriving =>
      if s.ocap.lineOpen then s.discardOverlay true .closed
      else s.setOcap { s.ocap with lineOpen := true }
    | .counted => s.discardOverlay true .closed

/-- The overlay link state follows its lock condition (R112, R113). -/
def State.followOverlayLock (s : State) : State :=
  match s.ocap.link, s.pins.overlayLock with
  | .down, true => s.overlayLockTaken
  | .locked, false => s.overlayLossTaken
  | .down, false => s
  | .locked, true => s

/-- The overlay link's lock condition, which its lock and loss arrivals report (R112, log 5). -/
def State.setOverlayLock (level : Bool) (s : State) : State := s.setPins { s.pins with overlayLock := level }

/-- OVERLAY_LOCK (R113). -/
def execOverlayLock (dt : Nat) (s : State) : Host.Outcome State Fault Refusal :=
  .next (arrivalOutsideLoading dt State.followOverlayLock (s.setOverlayLock true))

/-- OVERLAY_LOSS (R113). -/
def execOverlayLoss (dt : Nat) (s : State) : Host.Outcome State Fault Refusal :=
  .next (arrivalOutsideLoading dt (fun t => t.followOverlayLock.serve) (s.setOverlayLock false))

/-- OVERLAY_FRAME_START (R114). -/
def execOverlayFrameStart (dt : Nat) (s : State) : Host.Outcome State Fault Refusal :=
  .next (arrivalOutsideLoading dt (fun t => t.overlayFrameStart.serve) s)

/-- OVERLAY_LINE_START (R114, R115, R159). -/
def execOverlayLineStart (dt : Nat) (s : State) : Host.Outcome State Fault Refusal :=
  .next (arrivalOutsideLoading dt (fun t => t.overlayLineStart.serve) s)

/-- OVERLAY_LINE_END (R114, R32). -/
def execOverlayLineEnd (dt : Nat) (pixels : List OverlayPixel) (s : State) : Host.Outcome State Fault Refusal :=
  .next (arrivalOutsideLoading dt (fun t => (t.overlayLineEnd pixels).serve) s)

/-! ### Event commands -/

/-- EVENT_CONFIG decided (R171). -/
def eventConfigEffect (tag source level route : Byte) (s : State) : State :=
  if h : source.toNat < 14 then
    if 7 < level.toNat ∨ 2 < route.toNat then s.addReply tag 0x60 .badValue []
    else
      (s.setEvu { s.evu with
        sources := s.evu.sources.set source.toNat
          { s.evu.sources[source.toNat] with level := level.toNat, route := routeOf route } h }).addReply
            tag 0x60 .ok []
  else s.addReply tag 0x60 .badValue []

/-- SET_THRESHOLDS decided (R171). -/
def setThresholdsEffect (tag notice attention : Byte) (s : State) : State :=
  if 7 < notice.toNat ∨ 7 < attention.toNat then s.addReply tag 0x61 .badValue []
  else
    (s.setEvu { s.evu with
      noticeThreshold := notice.toNat, attentionThreshold := attention.toNat }).addReply tag 0x61 .ok []

/-- CLEAR_EVENTS decided (R172). -/
def clearEventsEffect (tag : Byte) (set : Half) (s : State) : State :=
  if set.getLsbD 14 || set.getLsbD 15 then s.addReply tag 0x62 .badValue []
  else (s.setEvu (s.evu.clear set)).addReply tag 0x62 .ok []

/-- The reply payload of READ_EVENTS (R164, R171). -/
def Evu.payload (v : Evu) : List Byte :=
  halfBytes (v.setOf (·.pending)) ++ halfBytes (v.setOf (·.noticed)) ++ [byte (v.highest (·.pending))]

/-- READ_EVENTS decided (R171). -/
def readEventsEffect (tag : Byte) (s : State) : State := s.addReply tag 0x63 .ok s.evu.payload

/-- STATUS decided (R158). -/
def statusEffect (tag : Byte) (s : State) : State := s.addReply tag 0x03 .ok s.statusPayload

end Sys2Proof.Machine
end

