-- ==== Sys2Proof/Machine/Fuses.lean ====
section
/-! DEFINITION. The Limit Fuse Bank (R173 to R175). -/

namespace Sys2Proof.Machine

/-- The fuse engine is IDLE (R173). -/
def Engine.isIdle : Engine → Bool
  | .idle => true
  | .programming _ _ _ _ => false
  | .locking _ _ => false

/-- The fuse word a byte names, for a word up to 7. -/
def wordIndex (b : Byte) : Fin 8 := Fin.ofNat 8 b.toNat

/-- The reply payload that carries a fuse word (R164). -/
def fusePayload (word : Fin 8) (value : Half) : List Byte := byte word.val :: halfBytes value

/-- FUSE_READ decided (R173). A word above 7 is refused BAD_VALUE also while the engine is not IDLE: R173 gives its two
refusals no order (log 45). -/
def fuseReadEffect (tag word : Byte) (s : State) : State :=
  if 7 < word.toNat then s.addReply tag 0x70 .badValue []
  else if !s.lfb.engine.isIdle then s.addReply tag 0x70 .fuseBusy []
  else s.addReply tag 0x70 .ok (fusePayload (wordIndex word) s.lfb.words[wordIndex word])

/-- FUSE_PROGRAM decided (R174). An accepted one owes its reply until it ends (R155). -/
def fuseProgramEffect (tag word : Byte) (value : Half) (s : State) : State :=
  if 6 < word.toNat then s.addReply tag 0x71 .badValue []
  else if !s.lfb.engine.isIdle then s.addReply tag 0x71 .fuseBusy []
  else if s.lfb.locked then s.addReply tag 0x71 .fuseLocked []
  else if !s.pins.fprog then s.addReply tag 0x71 .fuseDisabled []
  else
    s.setLfb { s.lfb with engine := .programming tag (wordIndex word) value (s.clock + Config.fuseTime) }

/-- The lock check over W0 to W6 (R175 check 5). -/
def lockable (w : Vector Half 8) : Bool :=
  w[0] != 0 && w[1] != 0 && w[2] != 0 && w[3] != 0 && w[4] != 0 && w[5] != 0 && w[6] != 0
    && decide (w[0].toNat ≤ w[1].toNat)

/-- FUSE_LOCK decided (R175). An accepted one owes its reply until it ends (R155). -/
def fuseLockEffect (tag : Byte) (s : State) : State :=
  if s.dctl ≠ .standby then s.addReply tag 0x72 .wrongState []
  else if !s.lfb.engine.isIdle then s.addReply tag 0x72 .fuseBusy []
  else if s.lfb.locked then s.addReply tag 0x72 .fuseLocked []
  else if !s.pins.fprog then s.addReply tag 0x72 .fuseDisabled []
  else if !lockable s.lfb.words then s.addReply tag 0x72 .badLimits []
  else s.setLfb { s.lfb with engine := .locking tag (s.clock + Config.fuseTime) }

/-- A word with more of its bits set: a fuse bit, once set, is never cleared (R173). -/
def Lfb.setBits (f : Lfb) (word : Fin 8) (bits : Half) : Lfb :=
  { f with words := f.words.set word.val (f.words[word] ||| bits) word.isLt }

/-- A fuse program has run its full time (R174). -/
def State.programEnds (tag : Byte) (word : Fin 8) (value : Half) (s : State) : State :=
  let f := s.lfb.setBits word value
  ((s.setLfb { f with engine := .idle }).raise .fuseDone).addReply tag 0x71 .ok (fusePayload word f.words[word])

/-- A fuse lock has run its full time: W7 is set, the bank is LOCKED, the limits are taken and the Profile Table
revalidated, and then the engine is IDLE, FUSE_DONE raised and OK replied (R175, R35, R47). -/
def State.lockEnds (tag : Byte) (s : State) : State :=
  let t := (s.setLfb { s.lfb with words := s.lfb.words.set 7 0xFFFF, locked := true }).takeLockedLimits
  ((t.setLfb { t.lfb with engine := .idle }).raise .fuseDone).addReply tag 0x72 .ok []

/-- FPROG falls during a program: some of the requested bits are set, which ones is free (R174, log 11). -/
def State.programInterrupted (tag : Byte) (word : Fin 8) (value : Half) (s : State) : State :=
  let f := s.lfb.setBits word (value &&& Config.fuseBitsSet s.free)
  ((s.drawn.setLfb { f with engine := .idle }).raise .fuseDone).addReply tag 0x71 .fuseInterrupted
    (fusePayload word f.words[word])

/-- FPROG falls during a lock: W7 stays 0 (R175). -/
def State.lockInterrupted (tag : Byte) (s : State) : State :=
  ((s.setLfb { s.lfb with engine := .idle }).raise .fuseDone).addReply tag 0x72 .fuseInterrupted []

/-- The end of a fuse program; one that is not due changes nothing (R174, log 3). -/
def State.fuseProgramEnd (s : State) : State :=
  match s.lfb.engine with
  | .programming tag word value due => if due ≤ s.clock then s.programEnds tag word value else s
  | .idle => s
  | .locking _ _ => s

/-- The end of a fuse lock; one that is not due changes nothing (R175, log 3). -/
def State.fuseLockEnd (s : State) : State :=
  match s.lfb.engine with
  | .locking tag due => if due ≤ s.clock then s.lockEnds tag else s
  | .idle => s
  | .programming _ _ _ _ => s

/-- FPROG falls (R174, R175). -/
def State.fprogFalls (s : State) : State :=
  match s.lfb.engine with
  | .programming tag word value _ => s.programInterrupted tag word value
  | .locking tag _ => s.lockInterrupted tag
  | .idle => s

/-- The level of the FPROG line (R174, log 4). -/
def State.setFprog (level : Bool) (s : State) : State := s.setPins { s.pins with fprog := level }

/-- The level of the FPROG line that a fuse command brings with it: where the line was high and comes low, it has
fallen, and an operation in flight stops there, before the command is decided; nothing of the fall depends on the time
(R174, R175, log 4). While the reset line is asserted only the level changes. -/
def State.fprogLevel (level : Bool) (s : State) : State :=
  if level || s.pins.reset || !s.pins.fprog then s.setFprog level else (s.setFprog level).fprogFalls

/-- FUSE_PROGRAM_END (R174). -/
def execFuseProgramEnd (dt : Nat) (s : State) : Host.Outcome State Fault Refusal :=
  .next (arrival dt State.fuseProgramEnd s)

/-- FUSE_LOCK_END (R175). -/
def execFuseLockEnd (dt : Nat) (s : State) : Host.Outcome State Fault Refusal :=
  .next (arrival dt State.fuseLockEnd s)

/-- FPROG_FALL (R174, R175). -/
def execFprogFall (dt : Nat) (s : State) : Host.Outcome State Fault Refusal :=
  .next (arrival dt State.fprogFalls (s.setFprog false))

end Sys2Proof.Machine
end

