-- ==== Sys2Proof/Machine/Device.lean ====
section
/-! DEFINITION. Device Control (R176, R177): the reset line, the end of LOADING, and SOFT_RESET. -/

namespace Sys2Proof.Machine

/-- A write transfer cut short by a reset leaves part of its line in memory; which part is free (R34, log 10). -/
def State.cutTransfer (s : State) : State :=
  match s.marb.transfer with
  | some (.captureWrite i line) =>
    match s.capu.buffer with
    | e :: _ =>
      if slotLineInLayout line e.pixels.length then
        s.drawn.setMem (s.mem.storePart s.free (slotLineAddress i line) (e.pixels.flatMap GamePixel.bytes))
      else s
    | [] => s
  | some (.overlayWrite e _) =>
    if planeLineInLayout e.line e.pixels.length then
      s.drawn.setMem
        (s.mem.storePart s.free (planeLineAddress e.plane e.line) (e.pixels.flatMap OverlayPixel.bytes))
    else s
  | some (.scanRead _ _ _) => s
  | some (.overlayRead _ _ _) => s
  | none => s

/-- A fuse operation ended by the reset line: no reply and no event; an interrupted program leaves a free subset of
its bits (R175, log 11). -/
def State.cutFuses (s : State) : State :=
  match s.lfb.engine with
  | .programming _ word value _ =>
    s.drawn.setLfb { s.lfb.setBits word (value &&& Config.fuseBitsSet s.free) with engine := .idle }
  | .locking _ _ => s.setLfb { s.lfb with engine := .idle }
  | .idle => s

/-- LFB reads the fuse words in LOADING: LOCKED when W7 is not 0 (R173). -/
def State.readFuses (s : State) : State := s.setLfb { s.lfb with locked := s.lfb.words[7] != 0 }

/-- Every block but DCTL, EVU's lines and the fuse words in the state the reset line gives it, with the link states
given; the clock, the pins, the limits in force, the fuse words, the memory and the free values are kept (R21, R34, R37,
R49, R65, R89, R112, R125, R136, R146, R157, R167). A return window in progress ends with the reset, and the lane holds
none of its packets (log 41). -/
def State.resetBlocks (live overlay : Link) (s : State) : State :=
  { s with
    lrx := { Lrx.initial with link := live }, capu := Capu.initial, marb := Marb.initial
    pru := { limits := s.pru.limits, table := Vector.replicate 4 ProfileEntry.blank }
    crp := Crp.initial, ssch := Ssch.initial, seng := Seng.initial, panel := PanelPort.initial
    ocap := { Ocap.initial with link := overlay }, ocmp := Ocmp.initial, tbc := Tbc.initial, zsu := Zsu.initial
    frl := Frl.initial, rct := Rct.initial, evu := Evu.initial }

/-- The reset line asserted (R176): whatever was in flight is cut short, every block takes its reset state, and the
pacing clock is held at 0. -/
def State.assertReset (s : State) : State :=
  let t := (s.cutTransfer.cutFuses).resetBlocks .down .down
  ((t.setClock 0).setPins { t.pins with reset := true }).setDctl (.loading Config.loadingTime none)

/-- The reset line released (R176, R173): the pacing clock counts from 0 and the device is in LOADING. -/
def State.releaseReset (s : State) : State :=
  (((s.setClock 0).setPins { s.pins with reset := false }).setDctl (.loading Config.loadingTime none)).readFuses

/-- The SOFT_RESET reply that is owed joins the queue (R155, R177). -/
def State.payOwed (owed : Option Byte) (s : State) : State :=
  match owed with
  | some tag => s.addReply tag 0x04 .ok []
  | none => s

/-- At the end of LOADING the owed reply joins the queue and OCAP follows its link. Where the link was lost, which is
taken first is free (R161, R177, log 15). -/
def State.overlayAtLoadingEnd (owed : Option Byte) (s : State) : State :=
  if owed.isSome && s.ocap.link == .locked && !s.pins.overlayLock then
    if Config.lossBeforeReply s.free then (s.drawn.followOverlayLock).payOwed owed
    else (s.drawn.payOwed owed).followOverlayLock
  else (s.payOwed owed).followOverlayLock

/-- LOADING ends (R176, R35, R3, R112). -/
def State.endLoading (owed : Option Byte) (s : State) : State :=
  let t := (s.setPru { s.pru with limits := limitsAtLoading s.lfb.words }).setDctl .standby
  ((t.overlayAtLoadingEnd owed).followLiveLock).serve

/-- The end of LOADING, when it is due (R176, log 3). -/
def State.loadingEnds (s : State) : State :=
  match s.dctl with
  | .loading due owed => if due ≤ s.clock then s.endLoading owed else s
  | .standby => s
  | .running => s

/-- SOFT_RESET decided (R177). Outside STANDBY it is refused WRONG_STATE also while the fuse engine is not IDLE: R177 gives
its two refusals no order (log 46). -/
def softResetEffect (tag : Byte) (s : State) : State :=
  if s.dctl ≠ .standby then s.addReply tag 0x04 .wrongState []
  else if !s.lfb.engine.isIdle then s.addReply tag 0x04 .fuseBusy []
  else
    ((s.cutTransfer.resetBlocks s.lrx.link s.ocap.link).setDctl
      (.loading (s.clock + Config.loadingTime) (some tag))).readFuses

/-- RESET_ASSERT (R176). -/
def execResetAssert (dt : Nat) (s : State) : Host.Outcome State Fault Refusal :=
  .next (s.elapse dt).assertReset

/-- RESET_RELEASE (R176). A release of a line that is not asserted changes nothing but the time (log 42). -/
def execResetRelease (dt : Nat) (s : State) : Host.Outcome State Fault Refusal :=
  if s.pins.reset then .next s.releaseReset else .next (s.elapse dt)

/-- LOADING_END (R176). -/
def execLoadingEnd (dt : Nat) (s : State) : Host.Outcome State Fault Refusal :=
  .next (arrival dt State.loadingEnds s)

end Sys2Proof.Machine
end

