-- ==== Sys2Proof/Machine/Control.lean ====
section
/-! DEFINITION. The Control Channel Receiver (R153 to R155): which slots are taken, what CCR decides itself, and the
rows of the control commands, each the effect its owning block gives it. -/

namespace Sys2Proof.Machine

/-- CCR takes the slots of an overlay frame in phase BLANKING, with the overlay link LOCKED (R153). -/
def State.slotTaken (s : State) : Bool := s.ocap.link == .locked && s.ocap.phase == .blanking

/-- Step 3 of R154: with a reply place free the packet goes on, and otherwise it is dropped. -/
def State.withPlace (act : State → State) (s : State) : State :=
  if s.placesInUse < Config.replyPlaces then act s else s.raise .controlPacketBad

/-- A slot arrives whose packet passes steps 1, 2, 4 and 5 of R154: step 3 decides whether the command is dispatched. -/
def commandSlot (dt : Nat) (effect : State → State) (s : State) : Host.Outcome State Fault Refusal :=
  .next (arrivalOutsideLoading dt (fun t => if t.slotTaken then t.withPlace effect else t) s)

/-- The effect of a dispatched command, decided by its owning block (R155). -/
def commandEffect (tag : Byte) : Command → State → State
  | .start => startEffect tag
  | .stop => stopEffect tag
  | .status => statusEffect tag
  | .softReset => softResetEffect tag
  | .writeProfile r => writeProfileEffect tag r
  | .readProfile index => readProfileEffect tag index
  | .resetCadence => resetCadenceEffect tag
  | .writeTonePoints channel first points => writeTonePointsEffect tag channel first points
  | .readTonePoints bank channel first count => readTonePointsEffect tag bank channel first count
  | .writeRegion r => writeRegionEffect tag r
  | .readRegion bank index => readRegionEffect tag bank index
  | .setFill red green blue => setFillEffect tag red green blue
  | .selectProfile index => selectProfileEffect tag index
  | .commit marker => commitEffect tag marker
  | .discardShadow => discardShadowEffect tag
  | .statsConfig r => statsConfigEffect tag r
  | .statsStart => statsStartEffect tag
  | .statsStop => statsStopEffect tag
  | .recordStream switch => recordStreamEffect tag switch
  | .fetchRecord seq => fetchRecordEffect tag seq
  | .eventConfig source level route => eventConfigEffect tag source level route
  | .setThresholds notice attention => setThresholdsEffect tag notice attention
  | .clearEvents set => clearEventsEffect tag set
  | .readEvents => readEventsEffect tag
  | .fuseRead word => fuseReadEffect tag word
  | .fuseProgram word value => fuseProgramEffect tag word value
  | .fuseLock => fuseLockEffect tag

/-- What CCR does with a slot's packet (R154). A packet that dispatches a command has that command's effect, with the
FPROG line as it stands (log 22). -/
def State.decidePacket (reading : PacketReading) (s : State) : State :=
  match reading with
  | .notWhole => s
  | .ignored => s
  | .badCheck => s.raise .controlPacketBad
  | .badCommand tag code => s.withPlace (State.addReply tag code .badCommand [])
  | .badLength tag code => s.withPlace (State.addReply tag code .badLength [])
  | .dispatched tag c => s.withPlace (commandEffect tag c)

/-- CONTROL_PACKET (R154). -/
def execControlPacket (dt : Nat) (bytes : List Byte) (s : State) : Host.Outcome State Fault Refusal :=
  .next (arrivalOutsideLoading dt (fun t => if t.slotTaken then t.decidePacket (readPacket bytes) else t) s)

/-- START, code 01h (R81, R82). -/
def execStart (dt : Nat) (tag : Byte) (s : State) : Host.Outcome State Fault Refusal :=
  commandSlot dt (startEffect tag) s

/-- STOP, code 02h (R83 to R85). -/
def execStop (dt : Nat) (tag : Byte) (s : State) : Host.Outcome State Fault Refusal :=
  commandSlot dt (stopEffect tag) s

/-- STATUS, code 03h (R158). -/
def execStatus (dt : Nat) (tag : Byte) (s : State) : Host.Outcome State Fault Refusal :=
  commandSlot dt (statusEffect tag) s

/-- SOFT_RESET, code 04h (R177). -/
def execSoftReset (dt : Nat) (tag : Byte) (s : State) : Host.Outcome State Fault Refusal :=
  commandSlot dt (softResetEffect tag) s

/-- WRITE_PROFILE, code 10h (R39). -/
def execWriteProfile (dt : Nat) (tag : Byte) (req : ProfileRequest) (s : State) :
    Host.Outcome State Fault Refusal :=
  commandSlot dt (writeProfileEffect tag req) s

/-- READ_PROFILE, code 11h (R46). -/
def execReadProfile (dt : Nat) (tag index : Byte) (s : State) : Host.Outcome State Fault Refusal :=
  commandSlot dt (readProfileEffect tag index) s

/-- RESET_CADENCE, code 20h (R55). -/
def execResetCadence (dt : Nat) (tag : Byte) (s : State) : Host.Outcome State Fault Refusal :=
  commandSlot dt (resetCadenceEffect tag) s

/-- WRITE_TONE_POINTS, code 30h (R109). -/
def execWriteTonePoints (dt : Nat) (tag channel first : Byte) (points : List Half) (s : State) :
    Host.Outcome State Fault Refusal :=
  commandSlot dt (writeTonePointsEffect tag channel first points) s

/-- READ_TONE_POINTS, code 31h (R110). -/
def execReadTonePoints (dt : Nat) (tag bank channel first count : Byte) (s : State) :
    Host.Outcome State Fault Refusal :=
  commandSlot dt (readTonePointsEffect tag bank channel first count) s

/-- WRITE_REGION, code 32h (R118). -/
def execWriteRegion (dt : Nat) (tag : Byte) (req : RegionRequest) (s : State) :
    Host.Outcome State Fault Refusal :=
  commandSlot dt (writeRegionEffect tag req) s

/-- READ_REGION, code 33h (R119). -/
def execReadRegion (dt : Nat) (tag bank index : Byte) (s : State) : Host.Outcome State Fault Refusal :=
  commandSlot dt (readRegionEffect tag bank index) s

/-- SET_FILL, code 34h (R111). -/
def execSetFill (dt : Nat) (tag : Byte) (red green blue : Half) (s : State) :
    Host.Outcome State Fault Refusal :=
  commandSlot dt (setFillEffect tag red green blue) s

/-- SELECT_PROFILE, code 35h (R127). -/
def execSelectProfile (dt : Nat) (tag index : Byte) (s : State) : Host.Outcome State Fault Refusal :=
  commandSlot dt (selectProfileEffect tag index) s

/-- COMMIT, code 36h (R128). -/
def execCommit (dt : Nat) (tag : Byte) (marker : Half) (s : State) : Host.Outcome State Fault Refusal :=
  commandSlot dt (commitEffect tag marker) s

/-- DISCARD_SHADOW, code 37h (R132). -/
def execDiscardShadow (dt : Nat) (tag : Byte) (s : State) : Host.Outcome State Fault Refusal :=
  commandSlot dt (discardShadowEffect tag) s

/-- STATS_CONFIG, code 40h (R137). -/
def execStatsConfig (dt : Nat) (tag : Byte) (req : StatsRequest) (s : State) :
    Host.Outcome State Fault Refusal :=
  commandSlot dt (statsConfigEffect tag req) s

/-- STATS_START, code 41h (R138). -/
def execStatsStart (dt : Nat) (tag : Byte) (s : State) : Host.Outcome State Fault Refusal :=
  commandSlot dt (statsStartEffect tag) s

/-- STATS_STOP, code 42h (R142). -/
def execStatsStop (dt : Nat) (tag : Byte) (s : State) : Host.Outcome State Fault Refusal :=
  commandSlot dt (statsStopEffect tag) s

/-- RECORD_STREAM, code 50h (R149). -/
def execRecordStream (dt : Nat) (tag switch : Byte) (s : State) : Host.Outcome State Fault Refusal :=
  commandSlot dt (recordStreamEffect tag switch) s

/-- FETCH_RECORD, code 51h (R151). -/
def execFetchRecord (dt : Nat) (tag : Byte) (seq : Half) (s : State) : Host.Outcome State Fault Refusal :=
  commandSlot dt (fetchRecordEffect tag seq) s

/-- EVENT_CONFIG, code 60h (R171). -/
def execEventConfig (dt : Nat) (tag source level route : Byte) (s : State) :
    Host.Outcome State Fault Refusal :=
  commandSlot dt (eventConfigEffect tag source level route) s

/-- SET_THRESHOLDS, code 61h (R171). -/
def execSetThresholds (dt : Nat) (tag notice attention : Byte) (s : State) :
    Host.Outcome State Fault Refusal :=
  commandSlot dt (setThresholdsEffect tag notice attention) s

/-- CLEAR_EVENTS, code 62h (R172). -/
def execClearEvents (dt : Nat) (tag : Byte) (set : Half) (s : State) : Host.Outcome State Fault Refusal :=
  commandSlot dt (clearEventsEffect tag set) s

/-- READ_EVENTS, code 63h (R171). -/
def execReadEvents (dt : Nat) (tag : Byte) (s : State) : Host.Outcome State Fault Refusal :=
  commandSlot dt (readEventsEffect tag) s

/-- FUSE_READ, code 70h (R173). -/
def execFuseRead (dt : Nat) (tag word : Byte) (s : State) : Host.Outcome State Fault Refusal :=
  commandSlot dt (fuseReadEffect tag word) s

/-- FUSE_PROGRAM, code 71h (R174), with the level of the FPROG line as it arrives (log 4). -/
def execFuseProgram (dt : Nat) (tag word : Byte) (value : Half) (fprog : Bool) (s : State) :
    Host.Outcome State Fault Refusal :=
  commandSlot dt (fuseProgramEffect tag word value) (s.fprogLevel fprog)

/-- FUSE_LOCK, code 72h (R175), with the level of the FPROG line as it arrives (log 4). -/
def execFuseLock (dt : Nat) (tag : Byte) (fprog : Bool) (s : State) : Host.Outcome State Fault Refusal :=
  commandSlot dt (fuseLockEffect tag) (s.fprogLevel fprog)

end Sys2Proof.Machine
end

