-- ==== Sys2Proof/Machine/Dispatch.lean ====
section
/-! DEFINITION. One arm for each row of spec/opcode_table.json, each a call of that row's meaning. -/

namespace Sys2Proof.Machine

def exec (i : Instr) (s : State) : Host.Outcome State Fault Refusal :=
  match i with
  | .resetAssert dt => Sys2Proof.Machine.execResetAssert dt s
  | .resetRelease dt => Sys2Proof.Machine.execResetRelease dt s
  | .loadingEnd dt => Sys2Proof.Machine.execLoadingEnd dt s
  | .lockArrival dt => Sys2Proof.Machine.execLockArrival dt s
  | .lossArrival dt => Sys2Proof.Machine.execLossArrival dt s
  | .lfs dt => Sys2Proof.Machine.execLfs dt s
  | .lineStart dt => Sys2Proof.Machine.execLineStart dt s
  | .lineEnd dt pixels => Sys2Proof.Machine.execLineEnd dt pixels s
  | .blankingStart dt => Sys2Proof.Machine.execBlankingStart dt s
  | .lineOverdueExpiry dt => Sys2Proof.Machine.execLineOverdueExpiry dt s
  | .maintenanceDue dt => Sys2Proof.Machine.execMaintenanceDue dt s
  | .maintenanceEnd dt => Sys2Proof.Machine.execMaintenanceEnd dt s
  | .transferEnd dt => Sys2Proof.Machine.execTransferEnd dt s
  | .minExpiry dt => Sys2Proof.Machine.execMinExpiry dt s
  | .deadlineExpiry dt => Sys2Proof.Machine.execDeadlineExpiry dt s
  | .freeRunExpiry dt => Sys2Proof.Machine.execFreeRunExpiry dt s
  | .planTimerExpiry dt => Sys2Proof.Machine.execPlanTimerExpiry dt s
  | .outputTime dt => Sys2Proof.Machine.execOutputTime dt s
  | .overlayLock dt => Sys2Proof.Machine.execOverlayLock dt s
  | .overlayLoss dt => Sys2Proof.Machine.execOverlayLoss dt s
  | .overlayFrameStart dt => Sys2Proof.Machine.execOverlayFrameStart dt s
  | .overlayLineStart dt => Sys2Proof.Machine.execOverlayLineStart dt s
  | .overlayLineEnd dt pixels => Sys2Proof.Machine.execOverlayLineEnd dt pixels s
  | .controlPacket dt bytes => Sys2Proof.Machine.execControlPacket dt bytes s
  | .start dt tag => Sys2Proof.Machine.execStart dt tag s
  | .stop dt tag => Sys2Proof.Machine.execStop dt tag s
  | .status dt tag => Sys2Proof.Machine.execStatus dt tag s
  | .softReset dt tag => Sys2Proof.Machine.execSoftReset dt tag s
  | .writeProfile dt tag req => Sys2Proof.Machine.execWriteProfile dt tag req s
  | .readProfile dt tag index => Sys2Proof.Machine.execReadProfile dt tag index s
  | .resetCadence dt tag => Sys2Proof.Machine.execResetCadence dt tag s
  | .writeTonePoints dt tag channel first points => Sys2Proof.Machine.execWriteTonePoints dt tag channel first points s
  | .readTonePoints dt tag bank channel first count => Sys2Proof.Machine.execReadTonePoints dt tag bank channel first count s
  | .writeRegion dt tag req => Sys2Proof.Machine.execWriteRegion dt tag req s
  | .readRegion dt tag bank index => Sys2Proof.Machine.execReadRegion dt tag bank index s
  | .setFill dt tag red green blue => Sys2Proof.Machine.execSetFill dt tag red green blue s
  | .selectProfile dt tag index => Sys2Proof.Machine.execSelectProfile dt tag index s
  | .commit dt tag marker => Sys2Proof.Machine.execCommit dt tag marker s
  | .discardShadow dt tag => Sys2Proof.Machine.execDiscardShadow dt tag s
  | .statsConfig dt tag req => Sys2Proof.Machine.execStatsConfig dt tag req s
  | .statsStart dt tag => Sys2Proof.Machine.execStatsStart dt tag s
  | .statsStop dt tag => Sys2Proof.Machine.execStatsStop dt tag s
  | .recordStream dt tag switch => Sys2Proof.Machine.execRecordStream dt tag switch s
  | .fetchRecord dt tag seq => Sys2Proof.Machine.execFetchRecord dt tag seq s
  | .eventConfig dt tag source level route => Sys2Proof.Machine.execEventConfig dt tag source level route s
  | .setThresholds dt tag notice attention => Sys2Proof.Machine.execSetThresholds dt tag notice attention s
  | .clearEvents dt tag set => Sys2Proof.Machine.execClearEvents dt tag set s
  | .readEvents dt tag => Sys2Proof.Machine.execReadEvents dt tag s
  | .fuseRead dt tag word => Sys2Proof.Machine.execFuseRead dt tag word s
  | .fuseProgram dt tag word value fprog => Sys2Proof.Machine.execFuseProgram dt tag word value fprog s
  | .fuseLock dt tag fprog => Sys2Proof.Machine.execFuseLock dt tag fprog s
  | .fuseProgramEnd dt => Sys2Proof.Machine.execFuseProgramEnd dt s
  | .fuseLockEnd dt => Sys2Proof.Machine.execFuseLockEnd dt s
  | .fprogFall dt => Sys2Proof.Machine.execFprogFall dt s

end Sys2Proof.Machine
end

