-- ==== Sys2Proof/Safety.lean ====
section
/-! DEFINITION. The words the statements use: when the part takes an arrival, what a packet in a slot is, the shape of
an answer, and the invariants of the machine. -/

namespace Sys2Proof.Machine

/-! ### When arrivals are taken -/

/-- The reset line is released and the device is not in LOADING (R176). -/
abbrev State.awake (s : State) : Prop := s.pins.reset = false ∧ s.dctl.isLoading = false

/-- Live Port arrivals are taken (R2 to R4). -/
abbrev State.hearsLive (s : State) : Prop := s.awake ∧ s.lrx.link = .locked

/-- Overlay Port arrivals are taken (R112, R113). -/
abbrev State.hearsOverlay (s : State) : Prop := s.awake ∧ s.ocap.link = .locked

/-- Control packet slots are taken (R153). -/
abbrev State.takesSlots (s : State) : Prop := s.hearsOverlay ∧ s.ocap.phase = .blanking

/-- Control packet slots are taken and a reply place is free (R153, R154 step 3). -/
abbrev State.takesCommand (s : State) : Prop := s.takesSlots ∧ s.placesInUse < 16

/-- `dt` nanoseconds later, with nothing else changed. -/
def State.after (dt : Nat) (s : State) : State := { s with clock := s.clock + dt }

/-- Nothing but the clock and the reply queue changes: one reply joins the queue (R155). -/
def State.answered (dt : Nat) (tag code : Byte) (status : Status) (payload : List Byte) (s : State) : State :=
  { s with
    clock := s.clock + dt
    rct := { s.rct with queue := s.rct.queue ++
      [{ tag := tag, code := code, status := status, payload := payload }] } }

/-- The pacing clock `dt` nanoseconds later, in microseconds without its wrap. -/
def State.microsAfter (dt : Nat) (s : State) : Nat := (s.clock + dt) / 1000

/-- The pacing clock `dt` nanoseconds later. -/
def State.timeAfter (dt : Nat) (s : State) : Word := BitVec.ofNat 32 ((s.clock + dt) / 1000)

/-! ### Output lines, scan ends and OFF, in the words of their rules -/

/-- What the leaving of the scan's next output line leaves, before the port is served: the line is on the panel through
the output path, and the statistics take it as it left; the scan moves to the line after it, keeping its timing, and the
patch choices of its read window are made; a patched line is counted, the first of them raising LINES_PATCHED; a line of
the pipeline leaves it, and any other line's pixels are the previous line; read-ahead entries at or below the line are
discarded, and a waiting scan read of it is withdrawn; the line after it, if there is one, becomes the overlay target,
with the cached lines and the waiting overlay read outside its set let go (R30, R33, R92, R94, R98, R99, R100, R106,
R123, R134). -/
def State.lineLeft (sc : Scan) (pixels : List GamePixel) (patched coupled : Bool) (s : State) : State :=
  let n := sc.nextOut
  let out := s.composeLine sc n pixels
  let moved : Scan := { sc with
    nextOut := n + 1, nextLine := if coupled then sc.nextLine else n + 1
    patched := if patched then sc.patched + 1 else sc.patched, patchReported := sc.patchReported || patched }
  { s with
    panel := { s.panel with line := some (n, out) }
    zsu := s.zsu.takeLine sc.width sc.lines n out
    seng := { s.seng with
      scan := some (moved.withChoices s.capu)
      pipeline := if coupled then s.seng.pipeline.tail else s.seng.pipeline
      readAhead := s.seng.readAhead.filter fun e => decide (n < e.line)
      previous := if coupled then s.seng.previous else some pixels }
    marb := { s.marb with
      scanRead := s.marb.scanRead.filter fun r => !decide (sc.slotFor n = some r.1 ∧ r.2 = n)
      overlayRead := if n + 1 < sc.lines then
        s.marb.overlayRead.filter fun r => decide (r.2 ∈ s.lineSet sc (n + 1)) else none }
    ocmp := if n + 1 < sc.lines then
        { target := some (n + 1), cache := s.ocmp.cache.filter fun c => decide (c.1 ∈ s.lineSet sc (n + 1)) }
      else { s.ocmp with target := none }
    evu := if patched = true ∧ sc.patchReported = false then s.evu.raise .linesPatched else s.evu }

/-- What a scan end, or a cut-short end, leaves before the scheduler takes it: the record is in the log; the scan source
is let go unless it is the fill or the latest; waiting reads are withdrawn and a read in progress is unwanted; no scan is
in flight, the engine's buffers are empty (cut short, LIVE lines that have not left with them: log 43) and the panel
output is BLANKING; the overlay line cache is empty; and a measurement of the scan posts its set, or, cut short, is given
up (R18, R33, R102, R103, R123, R140, R141, R144, R148). -/
def State.scanOver (cut : Bool) (sc : Scan) (s : State) : State :=
  let set : HeldSet :=
    { sequence := sc.sequence, first := s.zsu.config.first, last := s.zsu.config.last, results := s.zsu.results,
      position := 1, overrun := s.zsu.held.isSome }
  { s with
    frl := s.frl.add
      { sequence := sc.sequence, kind := sc.kind, cause := sc.cause, startTime := sc.startTime,
        interval := sc.interval, frame := sc.frame, lag := sc.lag, overtaken := sc.overtaken, patched := sc.patched,
        profile := sc.profile, marker := sc.marker, estimate := sc.estimate, multiplier := sc.multiplier }
    capu := match sc.scanSource with
      | none => s.capu
      | some i =>
        if s.capu.fill = some i ∨ s.capu.latest = some i then s.capu
        else { s.capu with slots := s.capu.slots.set i.val SlotRecord.emptied i.isLt }
    marb := { s.marb with
      scanRead := none, overlayRead := none
      transfer := s.marb.transfer.map fun x => match x with
        | .scanRead i n _ => .scanRead i n false
        | .overlayRead p n _ => .overlayRead p n false
        | .captureWrite i n => .captureWrite i n
        | .overlayWrite e buffered => .overlayWrite e buffered }
    seng := { s.seng with scan := none, pipeline := [], readAhead := [], previous := none, output := .blanking }
    ocmp := { target := none, cache := [] }
    zsu := match s.zsu.state, cut with
      | .disabled, _ => s.zsu
      | .armed, _ => s.zsu
      | .measuring, true =>
        { s.zsu with
          state := .armed
          accumulators := s.zsu.accumulators.mapIdx fun z a =>
            if s.zsu.config.first ≤ z ∧ z ≤ s.zsu.config.last then ZoneAcc.zero else a }
      | .measuring, false =>
        { s.zsu with state := if s.zsu.config.continuous then .armed else .disabled, held := some set }
    evu :=
      if cut = false ∧ s.zsu.state = .measuring then
        if s.zsu.held.isSome then (s.evu.raise .statsReady).raise .statsOverrun else s.evu.raise .statsReady
      else s.evu }

/-- What the scheduler's reaching OFF leaves: stop-requested CLEAR, no pending frame, the overtaken count 0; the plan
cleared; a pending commit taken, which invalidates E when it changes the format; the panel output IDLE and the device in
STANDBY. The last scan start, the kept profile and the timers keep their values (R54, R60, R61, R85, R105, R131). -/
def State.offReached (s : State) : State :=
  let quiet : Crp := { s.crp with
    plan := { spacing := 0, multiplier := 1, next := none, remaining := 0, timer := none }, raised := none }
  let off : State := { s with
    ssch := { s.ssch with
      state := .off, stopRequested := false, pending := none, overtaken := 0
      planEmpty := if s.crp.plan.remaining = 0 then s.ssch.planEmpty else true }
    crp := quiet, seng := { s.seng with output := .idle }, dctl := .standby }
  let old := s.pru.table[s.tbc.active.profile].profile
  let new := s.pru.table[s.tbc.shadow.profile].profile
  match s.tbc.commitPending with
  | none => off
  | some marker => { off with
      tbc := { active := s.tbc.shadow, shadow := s.tbc.shadow, commitPending := none, lastMarker := marker }
      evu := s.evu.raise .commitTaken
      crp := if old.width = new.width ∧ old.lines = new.lines ∧ old.lineTime = new.lineTime then quiet
        else { quiet with estimate := none, stalled := false, lastLfs := none } }

/-! ### Packets -/

/-- The number in a field of `k` bytes that starts at an offset, little-endian (chapter 11, "Packet layouts"). -/
def field (p : List Byte) (start k : Nat) : Nat := fromLe ((p.drop start).take k)

/-- A packet the part sends: 32 bytes whose sum modulo 256 is 0 (R162). -/
abbrev isPacket (p : List Byte) : Prop := p.length = 32 ∧ byteSum p = 0

/-- A number is the source set of the sources that meet a test: bit n for source n, and no other bit (R163). -/
def isSourceSet (v : Evu) (test : SourceState → Prop) (set : Nat) : Prop :=
  ∀ k : Nat, set.testBit k = true ↔ ∃ h : k < 14, test v.sources[k]

/-- A number is the highest level among the sources that meet a test, 0 when none does (R165, R164). -/
def isHighest (v : Evu) (test : SourceState → Prop) (level : Nat) : Prop :=
  (∀ x ∈ v.sources.toList, test x → x.level ≤ level)
    ∧ (level = 0 ∨ ∃ x ∈ v.sources.toList, test x ∧ x.level = level)

/-- The 32 bytes of a slot whose kind and check byte are a control packet's (R154 steps 1 and 2), with the header
fields of R162. -/
abbrev isControlPacket (bytes : List Byte) (tag code length : Byte) : Prop :=
  bytes.length = 32 ∧ bytes.take 4 = [0xC1, tag, code, length] ∧ byteSum bytes = 0

/-- The payload lengths a command code accepts, none for a code that names no command (R163). -/
def acceptedLengths (code : Nat) : Option (List Nat) :=
  if code ∈ [0x01, 0x02, 0x03, 0x04, 0x20, 0x37, 0x41, 0x42, 0x63, 0x72] then some [0]
  else if code ∈ [0x11, 0x35, 0x50, 0x70] then some [1]
  else if code ∈ [0x33, 0x36, 0x51, 0x61, 0x62] then some [2]
  else if code ∈ [0x60, 0x71] then some [3]
  else if code = 0x31 then some [4]
  else if code ∈ [0x34, 0x40] then some [6]
  else if code = 0x32 then some [17]
  else if code = 0x10 then some [23]
  else if code = 0x30 then some [4, 6, 8, 10, 12, 14, 16, 18, 20, 22, 24, 26]
  else none

/-! ### Invariants -/

/-- The memory keeps its canonical form, inside the device (R22). -/
abbrev MemoryInv (s : State) : Prop := s.mem.wf

/-- The upper bounds of R40 that every stored profile keeps, whatever its entry's state. -/
abbrev Profile.inBounds (p : Profile) : Prop :=
  p.width ≤ 3840 ∧ p.lines ≤ 2160 ∧ p.weight ≤ 16 ∧ p.pmax ≤ 65535 ∧ p.pmaxEff ≤ 65535 ∧ p.stallLimit ≤ 2000000
    ∧ p.maxMultiplier ≤ 8

/-- A stored profile agrees with the limits in force and its window is not empty (R42 to R44). -/
abbrev Profile.inWindow (p : Profile) (l : Limits) : Prop :=
  p.width ≤ l.maxWidth ∧ p.lines ≤ l.maxLines ∧ l.minLineTime ≤ p.lineTime
    ∧ l.floor ≤ p.pmin ∧ p.pmin ≤ p.pminEff ∧ scanTerm p.lines p.minBlank p.lineTime ≤ p.pminEff
    ∧ p.pminEff ≤ p.pmaxEff ∧ p.pmaxEff ≤ l.ceiling ∧ p.pmaxEff ≤ p.stallLimit
    ∧ p.pminEff ≤ p.freeRun ∧ p.freeRun ≤ p.pmaxEff

/-- Every entry keeps the bounds, every VALID entry agrees with the limits in force, and no entry is VALID in LOADING
(R37, R40, R42 to R44, R47). -/
abbrev ProfileInv (s : State) : Prop :=
  (∀ i : Fin 4, s.pru.table[i].profile.inBounds)
    ∧ (∀ i : Fin 4, s.pru.table[i].state = .valid → s.pru.table[i].profile.inWindow s.pru.limits)
    ∧ (s.dctl.isLoading = true → ∀ i : Fin 4, s.pru.table[i].state ≠ .valid)

/-- E is at most 2,000,000 µs (R51); a plan's multiplier is 1 to 8 (R57); fewer repeats remain than the multiplier; and
the plan has a next point and a running timer exactly while a repeat remains (R49, R58, R59). -/
abbrev CadenceInv (s : State) : Prop :=
  (∀ e, s.crp.estimate = some e → e ≤ 2000000)
    ∧ 1 ≤ s.crp.plan.multiplier ∧ s.crp.plan.multiplier ≤ 8 ∧ s.crp.plan.remaining < s.crp.plan.multiplier
    ∧ (s.crp.plan.next.isSome = true ↔ s.crp.plan.remaining ≠ 0)
    ∧ (s.crp.plan.timer.isSome = true ↔ s.crp.plan.remaining ≠ 0)

/-- RUNNING is the scheduler not OFF, a scan is in flight exactly in SCAN, and the panel output is idle in OFF,
scanning in SCAN, and blanking otherwise (R86, R105); in OFF no frame is pending and no commit waits. -/
abbrev SchedulerInv (s : State) : Prop :=
  (s.dctl = .running ↔ s.ssch.state ≠ .off)
    ∧ (s.ssch.state = .scan ↔ s.seng.scan.isSome = true)
    ∧ s.seng.output = (match s.ssch.state with
        | .off => .idle
        | .hold => .blanking
        | .opened => .blanking
        | .scan => .scanning)
    ∧ (s.ssch.state = .off → s.ssch.pending = none ∧ s.tbc.commitPending = none)

/-- The ring holds at most 32 records of consecutive sequence numbers that end just below the next one; the cursor
names a held record or the next; and the next number is that of the scan in flight or of the next scan (R146, R148,
R90). -/
abbrev RecordInv (s : State) : Prop :=
  s.frl.ring.length ≤ 32
    ∧ (∀ k, (h : k < s.frl.ring.length) →
        s.frl.ring[k].sequence + BitVec.ofNat 16 (s.frl.ring.length - k) = s.frl.next)
    ∧ (∀ c, s.frl.cursor = some c → (s.frl.next - c).toNat ≤ s.frl.ring.length)
    ∧ (match s.seng.scan with
        | some sc => sc.sequence = s.frl.next ∧ s.seng.sequence = sc.sequence + 1
        | none => s.seng.sequence = s.frl.next)

/-- At most sixteen reply places are in use (R157). -/
abbrev PlacesInv (s : State) : Prop := s.placesInUse ≤ 16

/-- The slot records agree with the fill, the latest and the scan source: FILLING is the fill, the latest is COMPLETE,
a COMPLETE slot is the latest or the scan source, a FREE record is empty, and the fill captures the newest frame (R10 to
R13, R19). -/
abbrev SlotInv (s : State) : Prop :=
  ∀ i : SlotId,
    (s.capu.slots[i].state = .filling ↔ s.capu.fill = some i)
      ∧ (s.capu.latest = some i → s.capu.slots[i].state = .complete)
      ∧ (s.capu.slots[i].state = .complete → s.capu.latest = some i ∨ s.scanSource = some i)
      ∧ (s.capu.slots[i].state = .free → s.capu.slots[i] = SlotRecord.emptied)
      ∧ (s.capu.fill = some i → s.capu.slots[i].frame = some s.lrx.frameCounter)

/-- The buffers stay within their sizes (R14, R32, R89, R98, R159, R65). -/
abbrev BufferInv (s : State) : Prop :=
  s.capu.buffer.length ≤ 4 ∧ s.ocap.buffer.length ≤ 2 ∧ s.seng.readAhead.length ≤ 4
    ∧ s.rct.lane.length ≤ 24 ∧ s.ssch.overtaken ≤ 255

/-- The overlay line cache holds at most four plane lines, each once and each of the target's line set, and none that
a waiting or a wanted overlay read will bring; no overlay read waits while one is in progress (R24, R122, R123). -/
abbrev CacheInv (s : State) : Prop :=
  s.ocmp.cache.length ≤ 4
    ∧ (s.ocmp.cache.map (·.1)).Nodup
    ∧ (∀ r ∈ s.marb.overlayRead, ∀ c ∈ s.ocmp.cache, c.1 ≠ r.2)
    ∧ (match s.marb.transfer with
        | some (.overlayRead _ line wanted) =>
          s.marb.overlayRead = none ∧ (wanted = true → ∀ c ∈ s.ocmp.cache, c.1 ≠ line)
        | some (.captureWrite _ _) => True
        | some (.scanRead _ _ _) => True
        | some (.overlayWrite _ _) => True
        | none => True)
    ∧ ∀ sc ∈ s.seng.scan, ∀ y ∈ s.ocmp.target, ∀ c ∈ s.ocmp.cache, c.1 ∈ s.lineSet sc y

/-- A fuse operation runs only on an unlocked bank outside LOADING, and one that locks only in STANDBY (R174, R175,
R81). -/
abbrev FuseInv (s : State) : Prop :=
  (s.lfb.engine.isIdle = false → s.lfb.locked = false ∧ s.dctl.isLoading = false)
    ∧ (s.lfb.engine.isLocking = true → s.dctl = .standby)
    ∧ (s.pins.reset = true → s.dctl.isLoading = true)

/-- A region's rectangle lies inside the plane, and its zoom is not 0 (R118). -/
abbrev Region.inPlane (r : Region) : Prop := r.sourceY + r.height ≤ 540 ∧ 1 ≤ r.zoom

/-- Every line the port could be asked for has a place in the layout of R22: the formats latched, the regions, the
buffer entries, the waiting requests and the transfer in progress stay inside it (R22, R24, R40, R118). -/
abbrev LayoutInv (s : State) : Prop :=
  (∀ i : Fin 4, s.pru.table[i].profile.width ≤ 3840 ∧ s.pru.table[i].profile.lines ≤ 2160
      ∧ (s.pru.table[i].state = .valid → 1 ≤ s.pru.table[i].profile.lines))
    ∧ (match s.lrx.check with
        | .arriving f => f.width ≤ 3840 ∧ f.lines ≤ 2160 ∧ f.linesSeen < f.lines
        | .counted _ => True
        | .closed => True)
    ∧ (∀ e ∈ s.capu.buffer, e.line < 2160 ∧ e.pixels.length ≤ 3840)
    ∧ (∀ sc ∈ s.seng.scan, sc.width ≤ 3840 ∧ sc.lines ≤ 2160)
    ∧ (∀ i : Fin 8, s.tbc.active.regions[i].inPlane ∧ s.tbc.shadow.regions[i].inPlane)
    ∧ (∀ e ∈ s.ocap.buffer, e.line < 540 ∧ e.pixels.length ≤ 960)
    ∧ (s.ocap.phase = .arriving → s.ocap.linesSeen < 540)
    ∧ (∀ r ∈ s.marb.captureWrite, r.2 < 2160) ∧ (∀ r ∈ s.marb.scanRead, r.2 < 2160)
    ∧ (∀ r ∈ s.marb.overlayRead, r.2 < 540)
    ∧ (match s.marb.transfer with
        | some (.captureWrite _ line) => line < 2160
        | some (.scanRead _ line _) => line < 2160
        | some (.overlayRead _ line _) => line < 540
        | some (.overlayWrite e _) => e.line < 540 ∧ e.pixels.length ≤ 960
        | none => True)

/-- In OPEN the minimum timer has expired, an expired timer's time has run, and the timer is idle while the reset line
is asserted (R65, R67, R75). -/
abbrev MinInv (s : State) : Prop :=
  (s.ssch.state = .opened → s.ssch.min.isExpired = true)
    ∧ (∀ due, s.ssch.min = .expired due → due ≤ s.microseconds)
    ∧ (s.pins.reset = true → s.ssch.min = .idle)

end Sys2Proof.Machine
end

