-- ==== Sys2Proof/Certificates/Slice0/Obligations.lean ====
section
/-! DEFINITION. The statements for the provers, each a closed proposition over the machine. A statement of a row's effect
gives the whole next state, so that what it does not name is unchanged; `State.after` and `State.answered` change the
clock, and the clock and the reply queue, and nothing else. -/

open Sys2Proof Sys2Proof.Machine

/-! ### The queue and the control channel -/

/-- A step is the front command of the queue run on the state with the queue's rest; with an empty queue the part idles
(the model's choice, log 2). -/
def Obligations.StepTakesFront : Prop :=
  (∀ (c : Instr) (rest : List Instr) (s : State),
    step { s with pending := c :: rest } = exec c { s with pending := rest })
  ∧ ∀ s : State, s.pending = [] → step s = .next s

/-- Every command a packet can carry is written as a packet of 32 bytes that sum to 0 and is read back from it, with
every payload field at every value; and where each field of each payload lies (R154, R162, R163). -/
def Obligations.PacketRoundTrip : Prop :=
  (∀ (tag : Byte) (c : Command), c.wellFormed = true →
    (c.packet tag).length = 32 ∧ byteSum (c.packet tag) = 0 ∧ readPacket (c.packet tag) = .dispatched tag c)
  ∧ ∀ (tag : Byte) (c : Command),
    let p := c.packet tag
    let header : Byte → Byte → List Byte → Prop := fun code length payload =>
      p.take (4 + payload.length) = [0xC1, tag, code, length] ++ payload
    match c with
    | .start => header 0x01 0 []
    | .stop => header 0x02 0 []
    | .status => header 0x03 0 []
    | .softReset => header 0x04 0 []
    | .writeProfile r =>
      header 0x10 23 [r.index] ∧ field p 5 2 = r.width.toNat ∧ field p 7 2 = r.lines.toNat
      ∧ field p 9 2 = r.lineTime.toNat ∧ field p 11 1 = r.minBlank.toNat ∧ field p 12 2 = r.pmin.toNat
      ∧ field p 14 2 = r.pmax.toNat ∧ field p 16 1 = r.weight.toNat ∧ field p 17 4 = r.stallLimit.toNat
      ∧ field p 21 1 = r.maxMultiplier.toNat ∧ field p 22 2 = r.lagThreshold.toNat ∧ field p 24 2 = r.freeRun.toNat
      ∧ field p 26 1 = r.lossAction.toNat
    | .readProfile index => header 0x11 1 [index]
    | .resetCadence => header 0x20 0 []
    | .writeTonePoints channel first points =>
      header 0x30 (BitVec.ofNat 8 (2 + 2 * points.length)) [channel, first]
      ∧ ∀ k, (h : k < points.length) → k < 12 → field p (6 + 2 * k) 2 = points[k].toNat
    | .readTonePoints bank channel first count => header 0x31 4 [bank, channel, first, count]
    | .writeRegion r =>
      header 0x32 17 [r.index, r.level] ∧ field p 6 2 = r.sourceX.toNat ∧ field p 8 2 = r.sourceY.toNat
      ∧ field p 10 2 = r.width.toNat ∧ field p 12 2 = r.height.toNat ∧ field p 14 2 = r.destX.toNat
      ∧ field p 16 2 = r.destY.toNat ∧ field p 18 1 = r.zoom.toNat ∧ field p 19 1 = r.globalAlpha.toNat
      ∧ field p 20 1 = r.alphaMode.toNat
    | .readRegion bank index => header 0x33 2 [bank, index]
    | .setFill red green blue =>
      header 0x34 6 [] ∧ field p 4 2 = red.toNat ∧ field p 6 2 = green.toNat ∧ field p 8 2 = blue.toNat
    | .selectProfile index => header 0x35 1 [index]
    | .commit marker => header 0x36 2 [] ∧ field p 4 2 = marker.toNat
    | .discardShadow => header 0x37 0 []
    | .statsConfig r => header 0x40 6 [r.first, r.last, r.mode, r.trigger] ∧ field p 8 2 = r.threshold.toNat
    | .statsStart => header 0x41 0 []
    | .statsStop => header 0x42 0 []
    | .recordStream switch => header 0x50 1 [switch]
    | .fetchRecord seq => header 0x51 2 [] ∧ field p 4 2 = seq.toNat
    | .eventConfig source level route => header 0x60 3 [source, level, route]
    | .setThresholds notice attention => header 0x61 2 [notice, attention]
    | .clearEvents set => header 0x62 2 [] ∧ field p 4 2 = set.toNat
    | .readEvents => header 0x63 0 []
    | .fuseRead word => header 0x70 1 [word]
    | .fuseProgram word value => header 0x71 3 [word] ∧ field p 5 2 = value.toNat
    | .fuseLock => header 0x72 0 []

/-- A slot that carries a command's packet acts as that command's own row, in every state (the model's choice of rows,
log 22; the FPROG line stands as it is, log 4). -/
def Obligations.PacketIsItsRow : Prop :=
  ∀ (dt : Nat) (tag : Byte) (c : Command) (s : State), c.wellFormed = true →
    exec (.controlPacket dt (c.packet tag)) s = exec (c.toInstr dt tag s.pins.fprog) s

/-- CCR's decision of a slot it takes, step by step, for a slot that dispatches nothing (R154); and the reply places in
use: the replies queued, one for a fuse operation in flight, and one for a SOFT_RESET that LOADING answers (R157). -/
def Obligations.PacketDecided : Prop :=
  (∀ s : State,
    let owedByFuses : Nat := match s.lfb.engine with
      | .idle => 0
      | .programming _ _ _ _ => 1
      | .locking _ _ => 1
    let owedByReset : Nat := match s.dctl with
      | .loading _ (some _) => 1
      | .loading _ none => 0
      | .standby => 0
      | .running => 0
    s.placesInUse = s.rct.queue.length + owedByFuses + owedByReset)
  ∧ ∀ (dt : Nat) (bytes : List Byte) (s : State), s.takesSlots → bytes.length = 32 →
    (bytes.head? ≠ some 0xC1 → exec (.controlPacket dt bytes) s = .next (s.after dt))
    ∧ (bytes.head? = some 0xC1 → byteSum bytes ≠ 0 →
        exec (.controlPacket dt bytes) s = .next ((s.after dt).raise .controlPacketBad))
    ∧ ∀ tag code len, isControlPacket bytes tag code len →
        (16 ≤ s.placesInUse →
          exec (.controlPacket dt bytes) s = .next ((s.after dt).raise .controlPacketBad))
        ∧ (s.placesInUse < 16 → acceptedLengths code.toNat = none →
          exec (.controlPacket dt bytes) s = .next (s.answered dt tag code .badCommand []))
        ∧ (s.placesInUse < 16 → ∀ lengths, acceptedLengths code.toNat = some lengths → len.toNat ∉ lengths →
          exec (.controlPacket dt bytes) s = .next (s.answered dt tag code .badLength []))

/-- Where a control command is not taken: no slot is taken outside a blanking, with the link DOWN or in LOADING; nothing
happens while the reset line is asserted; and with no reply place free the command is dropped and CONTROL_PACKET_BAD
raised (R153, R154 step 3, R176). -/
def Obligations.CommandsNotTaken : Prop :=
  ∀ (dt : Nat) (tag : Byte) (c : Command) (s : State), ¬ s.takesCommand →
    exec (c.toInstr dt tag s.pins.fprog) s
      = .next (if s.pins.reset then s
          else if s.dctl.isLoading = true ∨ s.ocap.link = .down ∨ s.ocap.phase ≠ .blanking then s.after dt
          else (s.after dt).raise .controlPacketBad)

/-! ### Commands that only read -/

/-- The seven commands that read: each changes nothing and answers what it found (R46, R110, R119, R151, R158, R171,
R173). A FUSE_READ of a word above 7 with the fuse engine busy is refused BAD_VALUE, not FUSE_BUSY: R173 gives the two no
order, and this one is the model's choice (log 45). -/
def Obligations.ReadsAnswer : Prop :=
  ∀ (dt : Nat) (tag : Byte) (s : State), s.takesCommand →
    exec (.status dt tag) s = .next (s.answered dt tag 0x03 .ok s.statusPayload)
    ∧ exec (.readEvents dt tag) s = .next (s.answered dt tag 0x63 .ok s.evu.payload)
    ∧ (∀ index : Byte, exec (.readProfile dt tag index) s = .next (
        if h : index.toNat ≤ 3 then s.answered dt tag 0x11 .ok (s.pru.table[index.toNat]'(by omega)).payload
        else s.answered dt tag 0x11 .badValue []))
    ∧ (∀ bank index : Byte, exec (.readRegion dt tag bank index) s = .next (
        if h : bank.toNat ≤ 1 ∧ index.toNat ≤ 7 then
          s.answered dt tag 0x33 .ok ([bank, index] ++
            ((if bank.toNat = 0 then s.tbc.active else s.tbc.shadow).regions[index.toNat]'(by omega)).bytes)
        else s.answered dt tag 0x33 .badValue []))
    ∧ (∀ bank channel first count : Byte, exec (.readTonePoints dt tag bank channel first count) s = .next (
        if bank.toNat ≤ 1 ∧ channel.toNat ≤ 2 ∧ 1 ≤ count.toNat ∧ count.toNat ≤ 12
            ∧ first.toNat + count.toNat ≤ 65 then
          s.answered dt tag 0x31 .ok ([channel, first, count] ++
            (((((if bank.toNat = 0 then s.tbc.active else s.tbc.shadow).curve channel.toNat).toList.drop
              first.toNat).take count.toNat).flatMap fun p => toLe 2 p.toNat))
        else s.answered dt tag 0x31 .badValue []))
    ∧ (∀ seq : Half, exec (.fetchRecord dt tag seq) s = .next (
        match s.frl.ring.find? (fun r => r.sequence = seq) with
        | some r => s.answered dt tag 0x51 .ok r.body
        | none => s.answered dt tag 0x51 .notHeld []))
    ∧ (∀ word : Byte, exec (.fuseRead dt tag word) s = .next (
        if h : word.toNat ≤ 7 then
          if s.lfb.engine = .idle then
            s.answered dt tag 0x70 .ok (word :: halfBytes (s.lfb.words[word.toNat]'(by omega)))
          else s.answered dt tag 0x70 .fuseBusy []
        else s.answered dt tag 0x70 .badValue []))

/-- The layouts of what the part sends. The STATUS payload (R158, R164): one byte each for the states and references, then
the frame counter, E, its validity, m, D, and the rest; an INVALID E reads 0. A record body (R165): every field is read
back from its place, for fields within the ranges of R147. The codes of the reply statuses, states, kinds and causes. A
reply packet (R162): its 32 bytes sum to 0, with A1h, tag, code and status first and the payload filled up with zeros. A
record packet (A4h), a notice (A2h: pending set, newly noticed set, the highest of its levels, marker, time: R165, R169)
and packet n of a statistics set (A3h: R143, R165: number and count of packets, the overrun and result count bits, and
each zone result at its place, then zeros), each of 32 bytes that sum to 0. The scan header (R91, R166): 8 bytes that sum
to 0, an absent interval as FFFFh and a longer one cut to it. And the payloads of READ_PROFILE, READ_REGION and
READ_EVENTS (R164), for fields within their widths. -/
def Obligations.PayloadLayouts : Prop :=
  (fromLe [] = 0 ∧ (∀ b l, fromLe (b :: l) = b.toNat + 256 * fromLe l)
    ∧ byteSum [] = 0 ∧ ∀ b l, byteSum (b :: l) = b + byteSum l)
  ∧ (∀ s : State, s.pendingSlot = (s.ssch.pending.bind fun f => s.capu.slotOf f.frame)
      ∧ s.scanSource = s.seng.scan.bind fun sc => sc.scanSource)
  ∧ (∀ s : State, s.statusPayload.length = 27
      ∧ s.statusPayload.take 11 =
        [s.dctl.code, s.lrx.link.code, s.ocap.link.code, s.ssch.state.code, s.capu.slots[0].state.code,
          s.capu.slots[1].state.code, s.capu.slots[2].state.code, slotCode s.capu.fill, slotCode s.capu.latest,
          slotCode s.pendingSlot, slotCode s.scanSource]
      ∧ fromLe ((s.statusPayload.drop 11).take 4) = s.lrx.frameCounter.toNat
      ∧ (∀ e, s.crp.estimate = some e → e < 16777216 → fromLe ((s.statusPayload.drop 15).take 3) = e)
      ∧ (s.crp.estimate = none → fromLe ((s.statusPayload.drop 15).take 3) = 0)
      ∧ s.statusPayload[18]? = some (if s.crp.estimate.isSome then 1 else 0)
      ∧ (s.crp.plan.multiplier < 256 → s.statusPayload[19]? = some (BitVec.ofNat 8 s.crp.plan.multiplier))
      ∧ (s.crp.plan.spacing < 65536 → fromLe ((s.statusPayload.drop 20).take 2) = s.crp.plan.spacing)
      ∧ s.statusPayload.drop 22 =
        [BitVec.ofNat 8 s.tbc.active.profile.val, if s.tbc.commitPending.isSome then 1 else 0,
          if s.lfb.locked then 1 else 0, s.lfb.engine.code, s.zsu.state.code])
  ∧ (∀ r : FrameRecord, 1 ≤ r.multiplier → r.multiplier ≤ 8 → r.patched < 4096 → r.lag.getD 0 < 16777216 →
      r.overtaken.getD 0 < 256 → r.estimate.getD 0 < 16777216 →
      r.body.length = 27
      ∧ fromLe (r.body.take 2) = r.sequence.toNat
      ∧ fromLe ((r.body.drop 2).take 1) = r.kind.code + 4 * r.cause.code + 32 * (r.multiplier - 1)
      ∧ fromLe ((r.body.drop 4).take 4) = r.startTime.toNat
      ∧ fromLe ((r.body.drop 8).take 4) = (r.interval.getD 0).toNat
      ∧ fromLe ((r.body.drop 12).take 4) = (r.frame.getD 0).toNat
      ∧ fromLe ((r.body.drop 16).take 3) = r.lag.getD 0
      ∧ fromLe ((r.body.drop 19).take 1) = r.overtaken.getD 0
      ∧ fromLe ((r.body.drop 20).take 2) = r.patched + 4096 * r.profile.val
      ∧ fromLe ((r.body.drop 22).take 2) = (r.marker.getD 0).toNat
      ∧ fromLe ((r.body.drop 24).take 3) = r.estimate.getD 0
      ∧ ∀ b : Byte, r.body[3]? = some b →
          b.getLsbD 0 = r.interval.isSome ∧ b.getLsbD 1 = r.frame.isSome ∧ b.getLsbD 2 = r.lag.isSome
            ∧ b.getLsbD 3 = r.overtaken.isSome ∧ b.getLsbD 4 = r.marker.isSome ∧ b.getLsbD 5 = r.estimate.isSome)
  ∧ ([Status.ok, .clamped, .badCommand, .badLength, .badValue, .badProfile, .profileActive, .commitPending, .wrongState,
        .fuseBusy, .fuseLocked, .fuseDisabled, .fuseInterrupted, .badLimits, .notHeld].map Status.code
      = [0x00, 0x01, 0x10, 0x11, 0x12, 0x13, 0x14, 0x15, 0x16, 0x20, 0x21, 0x22, 0x23, 0x24, 0x30]
    ∧ [Device.standby, .running].map Device.code = [1, 2] ∧ [Link.down, .locked].map Link.code = [0, 1]
    ∧ [Sched.off, .hold, .opened, .scan].map Sched.code = [0, 1, 2, 3]
    ∧ [SlotState.free, .filling, .complete].map SlotState.code = [0, 1, 2]
    ∧ [none, some 0, some 1, some 2].map slotCode = [0xFF, 0, 1, 2]
    ∧ [StatsState.disabled, .armed, .measuring].map StatsState.code = [0, 1, 2]
    ∧ Engine.idle.code = 0 ∧ (∀ t w v e, (Engine.programming t w v e).code = 1) ∧ (∀ t e, (Engine.locking t e).code = 2)
    ∧ [Kind.live, .deferred, .repeated, .fill].map Kind.code = [0, 1, 2, 3]
    ∧ [Cause.arrival, .chase, .plan, .deadline, .freeRun].map Cause.code = [0, 1, 2, 3, 4])
  ∧ (∀ r : Reply, isPacket r.packet ∧ r.packet.take 4 = [0xA1, r.tag, r.code, r.status.code]
      ∧ (r.payload.length ≤ 27 →
          (r.packet.drop 4).take 27 = r.payload ++ List.replicate (27 - r.payload.length) 0))
  ∧ (∀ r : FrameRecord, isPacket r.packet ∧ r.packet.take 31 = 0xA4 :: r.body ++ [0, 0, 0])
  ∧ (∀ (v : Evu) (marker : Half) (time : Word),
      let p := noticePacket v marker time
      let newly : SourceState → Prop := fun x =>
        x.pending = true ∧ x.noticed = false ∧ x.route ≠ .attention ∧ v.noticeThreshold < x.level
      isPacket p ∧ field p 0 1 = 0xA2
        ∧ isSourceSet v (fun x => x.pending = true) (field p 1 2) ∧ isSourceSet v newly (field p 3 2)
        ∧ ((∀ x ∈ v.sources.toList, x.level ≤ 7) → isHighest v newly (field p 5 1))
        ∧ field p 6 2 = marker.toNat ∧ field p 8 4 = time.toNat ∧ (p.drop 12).take 19 = List.replicate 19 0)
  ∧ (∀ (h : HeldSet) (place : Nat), 1 ≤ place → place ≤ 12 → h.results.length ≤ 48 →
      let p := h.packet place
      let count := min 4 (h.results.length - 4 * (place - 1))
      isPacket p ∧ field p 0 1 = 0xA3 ∧ field p 1 2 = h.sequence.toNat
        ∧ (h.first < 48 → field p 3 1 = h.first) ∧ (h.last < 48 → field p 4 1 = h.last)
        ∧ field p 5 1 = place + 16 * ((h.results.length + 3) / 4)
        ∧ field p 6 1 = (if h.overrun then 1 else 0) + 2 * count
        ∧ (∀ k z, k < 4 → h.results[4 * (place - 1) + k]? = some z →
            z.zone < 48 → z.maximum < 1024 → z.mean < 1024 → z.bright < 65536 →
            field p (7 + 6 * k) 1 = z.zone ∧ field p (8 + 6 * k) 3 = z.maximum + 1024 * z.mean
              ∧ field p (11 + 6 * k) 2 = z.bright)
        ∧ (p.drop (7 + 6 * count)).take (24 - 6 * count) = List.replicate (24 - 6 * count) 0)
  ∧ (∀ (k : Kind) (sequence : Half) (interval : Option Word) (profile : Fin 4),
      let p := scanHeader k sequence interval profile
      p.length = 8 ∧ byteSum p = 0 ∧ field p 0 1 = 0xB5
        ∧ field p 1 1 = (match k with
          | .live => 0
          | .deferred => 0
          | .repeated => 1
          | .fill => 2)
        ∧ field p 2 2 = sequence.toNat
        ∧ (interval = none → field p 4 2 = 65535)
        ∧ (∀ i, interval = some i → field p 4 2 = min i.toNat 65535)
        ∧ field p 6 1 = profile.val)
  ∧ (∀ e : ProfileEntry, e.payload.length = 27
      ∧ field e.payload 0 1 = (match e.state with
        | .empty => 0
        | .valid => 1
        | .invalid => 2)
      ∧ (e.profile.width < 65536 → field e.payload 1 2 = e.profile.width)
      ∧ (e.profile.lines < 65536 → field e.payload 3 2 = e.profile.lines)
      ∧ (e.profile.lineTime < 65536 → field e.payload 5 2 = e.profile.lineTime)
      ∧ (e.profile.minBlank < 65536 → field e.payload 7 2 = e.profile.minBlank)
      ∧ (e.profile.pmin < 65536 → field e.payload 9 2 = e.profile.pmin)
      ∧ (e.profile.pmax < 65536 → field e.payload 11 2 = e.profile.pmax)
      ∧ (e.profile.weight < 256 → field e.payload 13 1 = e.profile.weight)
      ∧ (e.profile.stallLimit < 16777216 → field e.payload 14 3 = e.profile.stallLimit)
      ∧ (e.profile.maxMultiplier < 256 → field e.payload 17 1 = e.profile.maxMultiplier)
      ∧ (e.profile.lagThreshold < 65536 → field e.payload 18 2 = e.profile.lagThreshold)
      ∧ (e.profile.freeRun < 65536 → field e.payload 20 2 = e.profile.freeRun)
      ∧ field e.payload 22 1 = (match e.profile.lossAction with
        | .repeatLatest => 0
        | .fill => 1)
      ∧ (e.profile.pminEff < 65536 → field e.payload 23 2 = e.profile.pminEff)
      ∧ (e.profile.pmaxEff < 65536 → field e.payload 25 2 = e.profile.pmaxEff))
  ∧ (∀ r : Region, r.bytes.length = 16
      ∧ (r.level < 256 → field r.bytes 0 1 = r.level)
      ∧ (r.sourceX < 65536 → field r.bytes 1 2 = r.sourceX) ∧ (r.sourceY < 65536 → field r.bytes 3 2 = r.sourceY)
      ∧ (r.width < 65536 → field r.bytes 5 2 = r.width) ∧ (r.height < 65536 → field r.bytes 7 2 = r.height)
      ∧ (r.destX < 65536 → field r.bytes 9 2 = r.destX) ∧ (r.destY < 65536 → field r.bytes 11 2 = r.destY)
      ∧ (r.zoom < 256 → field r.bytes 13 1 = r.zoom) ∧ (r.globalAlpha < 256 → field r.bytes 14 1 = r.globalAlpha)
      ∧ field r.bytes 15 1 = if r.flat then 1 else 0)
  ∧ ∀ v : Evu, v.payload.length = 5
      ∧ isSourceSet v (fun x => x.pending = true) (field v.payload 0 2)
      ∧ isSourceSet v (fun x => x.noticed = true) (field v.payload 2 2)
      ∧ ((∀ x ∈ v.sources.toList, x.level ≤ 7) → isHighest v (fun x => x.pending = true) (field v.payload 4 1))

/-! ### The banks -/

/-- SELECT_PROFILE, whole: a payload of another length is refused BAD_LENGTH, an index above 3 BAD_VALUE, a pending commit
COMMIT_PENDING, and otherwise the shadow bank's profile index becomes the index given (R127). -/
def Obligations.SelectProfile : Prop :=
  ∀ (dt : Nat) (tag : Byte) (s : State), s.takesCommand →
    (∀ (bytes : List Byte) (len : Byte), isControlPacket bytes tag 0x35 len → len ≠ 1 →
      exec (.controlPacket dt bytes) s = .next (s.answered dt tag 0x35 .badLength []))
    ∧ ∀ index : Byte, exec (.selectProfile dt tag index) s = .next (
        if h : index.toNat ≤ 3 then
          if s.tbc.commitPending.isSome then s.answered dt tag 0x35 .commitPending []
          else
            { s with
              tbc := { s.tbc with shadow := { s.tbc.shadow with profile := ⟨index.toNat, by omega⟩ } }
              : State }.answered dt tag 0x35 .ok []
        else s.answered dt tag 0x35 .badValue [])

/-- The commands that write the other parts of the shadow bank, and DISCARD_SHADOW (R109, R111, R118, R132).
WRITE_REGION is BAD_VALUE for a field outside its range or a rectangle outside the plane, and else stores the region
field by field. Curve 0 is red, 1 green, 2 blue; and a run of point values stores each value lowered to 4095 at its
place, and leaves every other point as it was. (SET_FILL with a code above 1023 while a commit is pending is BAD_VALUE:
R111 gives its two refusals no order, and the order is the model's choice, log 51.) -/
def Obligations.ShadowWrites : Prop :=
  (∀ (dt : Nat) (tag : Byte) (s : State), s.takesCommand →
      (∀ red green blue : Half, exec (.setFill dt tag red green blue) s = .next (
        if 1023 < red.toNat ∨ 1023 < green.toNat ∨ 1023 < blue.toNat then s.answered dt tag 0x34 .badValue []
        else if s.tbc.commitPending.isSome then s.answered dt tag 0x34 .commitPending []
        else
          { s with
            tbc := { s.tbc with shadow := { s.tbc.shadow with
              fill := { red := BitVec.ofNat 10 red.toNat, green := BitVec.ofNat 10 green.toNat,
                        blue := BitVec.ofNat 10 blue.toNat } } } : State }.answered dt tag 0x34 .ok []))
      ∧ (∀ req : RegionRequest, exec (.writeRegion dt tag req) s = .next (
        if h : req.index.toNat ≤ 7 ∧ req.level.toNat ≤ 7
            ∧ (req.sourceX.toNat ≤ 959 ∧ req.sourceY.toNat ≤ 539 ∧ 1 ≤ req.width.toNat ∧ req.width.toNat ≤ 960
              ∧ 1 ≤ req.height.toNat ∧ req.height.toNat ≤ 540
              ∧ req.sourceX.toNat + req.width.toNat ≤ 960 ∧ req.sourceY.toNat + req.height.toNat ≤ 540)
            ∧ req.destX.toNat ≤ 3839 ∧ req.destY.toNat ≤ 2159
            ∧ (req.zoom.toNat = 1 ∨ req.zoom.toNat = 2 ∨ req.zoom.toNat = 4) ∧ req.alphaMode.toNat ≤ 1 then
          if s.tbc.commitPending.isSome then s.answered dt tag 0x32 .commitPending []
          else
            let stored : Region :=
              { level := req.level.toNat, sourceX := req.sourceX.toNat, sourceY := req.sourceY.toNat
                width := req.width.toNat, height := req.height.toNat, destX := req.destX.toNat
                destY := req.destY.toNat, zoom := req.zoom.toNat, globalAlpha := req.globalAlpha.toNat
                flat := if req.alphaMode.toNat = 1 then true else false }
            { s with
              tbc := { s.tbc with shadow := { s.tbc.shadow with
                regions := s.tbc.shadow.regions.set req.index.toNat stored (by omega) } }
              : State }.answered dt tag 0x32 .ok []
        else s.answered dt tag 0x32 .badValue []))
      ∧ (∀ (channel first : Byte) (points : List Half), exec (.writeTonePoints dt tag channel first points) s = .next (
        if 2 < channel.toNat ∨ 65 < first.toNat + points.length then s.answered dt tag 0x30 .badValue []
        else if s.tbc.commitPending.isSome then s.answered dt tag 0x30 .commitPending []
        else
          { s with
            tbc := { s.tbc with
              shadow := s.tbc.shadow.setCurve channel.toNat
                (setPoints (s.tbc.shadow.curve channel.toNat) first.toNat points) } : State }.answered dt tag 0x30
            (if ∃ v ∈ points, 4095 < v.toNat then .clamped else .ok) []))
      ∧ exec (.discardShadow dt tag) s = .next (
        if s.tbc.commitPending.isSome then s.answered dt tag 0x37 .commitPending []
        else { s with tbc := { s.tbc with shadow := s.tbc.active } : State }.answered dt tag 0x37 .ok []))
  ∧ (∀ (b : Bank) (curve : Curve),
      (b.curve 0 = b.red ∧ b.curve 1 = b.green ∧ b.curve 2 = b.blue)
      ∧ b.setCurve 0 curve = { b with red := curve } ∧ b.setCurve 1 curve = { b with green := curve }
      ∧ b.setCurve 2 curve = { b with blue := curve })
  ∧ ∀ (curve : Curve) (first : Nat) (points : List Half), first + points.length ≤ 65 →
      (∀ k, (h : k < points.length) → (hk : first + k < 65) →
        (setPoints curve first points)[first + k].toNat = min points[k].toNat 4095)
      ∧ ∀ j, (hj : j < 65) → (j < first ∨ first + points.length ≤ j) →
        (setPoints curve first points)[j] = curve[j]

/-- COMMIT: the checks in their order; in RUNNING the commit becomes pending with its marker; in STANDBY it is taken at
once: the active bank becomes the shadow bank, the marker is recorded, COMMIT_TAKEN raised, and a change of width, lines
or line time invalidates E and clears the plan (R128, R129, R54; where an LFS falls at the same instant, the order of
the queue is CRP's too: the model's choice, log 48). In RUNNING at the instant of a START that itself started a scan,
the commit is taken at the start of that scan, the first of the run: the start is taken again from the state before it,
with the commit pending, and the scan, under the same number, carries the marker (R131, read so: log 52). -/
def Obligations.CommitDecided : Prop :=
  ∀ (dt : Nat) (tag : Byte) (marker : Half) (s : State), s.takesCommand →
    (s.tbc.commitPending.isSome = true →
      exec (.commit dt tag marker) s = .next (s.answered dt tag 0x36 .commitPending []))
    ∧ (s.tbc.commitPending = none → s.pru.table[s.tbc.shadow.profile].state ≠ .valid →
      exec (.commit dt tag marker) s = .next (s.answered dt tag 0x36 .badProfile []))
    ∧ (s.tbc.commitPending = none → s.pru.table[s.tbc.shadow.profile].state = .valid →
      (s.dctl = .running →
        (∀ sc, s.seng.scan = some sc → sc.reports.clock = s.clock + dt → sc.opening = none) →
        exec (.commit dt tag marker) s =
          .next ({ s with tbc := { s.tbc with commitPending := some marker } : State }.answered dt tag 0x36 .ok []))
      ∧ (s.dctl = .running →
        ∀ sc k, s.seng.scan = some sc → sc.reports.clock = s.clock + dt → sc.opening = some k →
        let before : State := { s with
          clock := s.clock + dt
          capu := match sc.scanSource with
            | none => s.capu
            | some i =>
              if s.capu.fill = some i ∨ s.capu.latest = some i then s.capu
              else { s.capu with slots := s.capu.slots.set i.val SlotRecord.emptied i.isLt }
          marb := { s.marb with
            scanRead := none, overlayRead := none, transfer := s.marb.transfer.map Transfer.unwanted }
          seng := { sequence := s.seng.sequence - 1, scan := none, pipeline := [], readAhead := [], previous := none
                    output := .blanking }
          ocmp := { target := none, cache := [] }
          ssch := { s.ssch with state := .opened, kept := some k, runStarted := false }
          tbc := { s.tbc with commitPending := some marker } }
        ∃ t sc',
          exec (.commit dt tag marker) s = .next t
          ∧ t = ((before.startScan (if sc.cause = .freeRun then .freeRun else .deadline)).answered 0 tag 0x36 .ok
              []).serve
          ∧ t.seng.scan = some sc' ∧ sc'.marker = some marker ∧ sc'.startTime = s.timeAfter dt
          ∧ sc'.sequence = s.seng.sequence - 1 ∧ t.seng.sequence = s.seng.sequence
          ∧ sc'.profile = s.tbc.shadow.profile ∧ sc'.interval = none
          ∧ t.tbc = { active := s.tbc.shadow, shadow := s.tbc.shadow, commitPending := none, lastMarker := marker }
          ∧ (t.evu.source .commitTaken).pending = true)
      ∧ (s.dctl = .standby →
        let old := s.pru.table[s.tbc.active.profile].profile
        let new := s.pru.table[s.tbc.shadow.profile].profile
        exec (.commit dt tag marker) s = .next (
          if old.width = new.width ∧ old.lines = new.lines ∧ old.lineTime = new.lineTime then
            { s with
              tbc := { active := s.tbc.shadow, shadow := s.tbc.shadow, commitPending := none, lastMarker := marker }
              evu := s.evu.raise .commitTaken : State }.answered dt tag 0x36 .ok []
          else
            { s with
              tbc := { active := s.tbc.shadow, shadow := s.tbc.shadow, commitPending := none, lastMarker := marker }
              evu := s.evu.raise .commitTaken
              crp := { s.crp with
                estimate := none, stalled := false, lastLfs := none, raised := none
                plan := { spacing := 0, multiplier := 1, next := none, remaining := 0, timer := none } }
              ssch := { s.ssch with planEmpty := if s.crp.plan.remaining = 0 then s.ssch.planEmpty else true }
              : State }.answered dt tag 0x36 .ok [])))

/-- The whole machine's rule for the banks: while a commit is pending a step leaves the banks and the marker as they are,
or takes the commit (both banks are then the shadow bank and its marker is the last taken), or resets (R126, R129, R130,
R131). -/
def Obligations.ShadowFrozen : Prop :=
  ∀ (s t : State) (marker : Half), s.tbc.commitPending = some marker → step s = .next t →
    t.tbc = s.tbc
    ∨ t.tbc = { active := s.tbc.shadow, shadow := s.tbc.shadow, commitPending := none, lastMarker := marker }
    ∨ (t.tbc = Tbc.initial ∧ t.dctl.isLoading = true)

/-! ### Profiles and limits -/

/-- WRITE_PROFILE: the five stages in their order, with what each refuses (stage 1 with every range of R40), and the
profile stored: blank lines and periods clamped, the scan term, the effective periods, the stall limit and the free-run
period (R39 to R44). -/
def Obligations.WriteProfile : Prop :=
  ∀ (dt : Nat) (tag : Byte) (r : ProfileRequest) (s : State), s.takesCommand →
    let l := s.pru.limits
    let rows := (r.lines.toNat + 63) / 64
    let blank := max r.minBlank.toNat (max (l.minBlank + rows) (5 + rows))
    let pmin := max r.pmin.toNat l.floor
    let pmax := min r.pmax.toNat l.ceiling
    let term := ((r.lines.toNat + blank) * r.lineTime.toNat + 999) / 1000
    let low := max pmin term
    let stall := max r.stallLimit.toNat pmax
    let freeRun := min (max r.freeRun.toNat low) pmax
    exec (.writeProfile dt tag r) s = .next (
      if h : r.index.toNat ≤ 3
          ∧ (640 ≤ r.width.toNat ∧ r.width.toNat ≤ 3840) ∧ (360 ≤ r.lines.toNat ∧ r.lines.toNat ≤ 2160)
          ∧ (2000 ≤ r.lineTime.toNat ∧ r.lineTime.toNat ≤ 40000) ∧ 1 ≤ r.minBlank.toNat
          ∧ 1 ≤ r.pmin.toNat ∧ 1 ≤ r.pmax.toNat ∧ (1 ≤ r.weight.toNat ∧ r.weight.toNat ≤ 16)
          ∧ (1 ≤ r.stallLimit.toNat ∧ r.stallLimit.toNat ≤ 2000000)
          ∧ (1 ≤ r.maxMultiplier.toNat ∧ r.maxMultiplier.toNat ≤ 8)
          ∧ 1 ≤ r.freeRun.toNat ∧ r.lossAction.toNat ≤ 1 then
        if r.index.toNat = s.tbc.active.profile.val ∧ s.ssch.state ≠ .off then
          s.answered dt tag 0x10 .profileActive []
        else if s.tbc.commitPending.isSome ∧ r.index.toNat = s.tbc.shadow.profile.val then
          s.answered dt tag 0x10 .commitPending []
        else if l.maxWidth < r.width.toNat ∨ l.maxLines < r.lines.toNat ∨ r.lineTime.toNat < l.minLineTime
            ∨ pmax < low then
          s.answered dt tag 0x10 .badProfile []
        else
          let stored : Profile :=
            { width := r.width.toNat, lines := r.lines.toNat, lineTime := r.lineTime.toNat, minBlank := blank,
              pmin := pmin, pmax := pmax, weight := r.weight.toNat, stallLimit := stall,
              maxMultiplier := r.maxMultiplier.toNat, lagThreshold := r.lagThreshold.toNat, freeRun := freeRun,
              lossAction := if r.lossAction.toNat = 0 then .repeatLatest else .fill, pminEff := low, pmaxEff := pmax }
          let pru := { s.pru with table := s.pru.table.set r.index.toNat { state := .valid, profile := stored } (by omega) }
          if blank = r.minBlank.toNat ∧ pmin = r.pmin.toNat ∧ pmax = r.pmax.toNat ∧ stall = r.stallLimit.toNat
              ∧ freeRun = r.freeRun.toNat then
            { s with pru := pru : State }.answered dt tag 0x10 .ok []
          else
            { s with pru := pru, evu := s.evu.raise .panelLimitClamped : State }.answered dt tag 0x10 .clamped []
      else s.answered dt tag 0x10 .badValue [])

/-- In every step from a state with the profile and fuse invariants the profile invariant is kept: every VALID entry has
floor ≤ Pmin_eff ≤ Pmax_eff ≤ ceiling for the limits in force, and no entry is VALID in LOADING (R37, R43, R44, R47). Of
the fuse invariant, which every step keeps (FuseBitsStay), it needs that an asserted reset line finds LOADING. -/
def Obligations.ProfilesKept : Prop :=
  ∀ s t : State, ProfileInv s → FuseInv s → step s = .next t → ProfileInv t

/-- While the device is RUNNING the entry the active bank names stays as it is, field for field, until a commit is taken,
the device leaves RUNNING, or it resets (R41). The limits in force change
only at the end of LOADING and at the completion of a FUSE_LOCK (R35): there they become the fuse words' when the bank is
locked, and the built-in defaults otherwise. -/
def Obligations.InForceFixed : Prop :=
  (∀ s t : State, SchedulerInv s → FuseInv s → s.dctl = .running → step s = .next t → t.dctl = .running →
      t.pru.table[s.tbc.active.profile] = s.pru.table[s.tbc.active.profile])
  ∧ ∀ s t : State, step s = .next t → t.pru.limits ≠ s.pru.limits →
      (s.dctl.isLoading = true ∧ t.dctl.isLoading = false
        ∧ t.pru.limits = if s.lfb.words[7] = 0 then Limits.defaults else limitsOfWords s.lfb.words)
      ∨ (s.lfb.engine.isLocking = true ∧ t.lfb.locked = true ∧ t.pru.limits = limitsOfWords t.lfb.words)

/-! ### Events, statistics, records -/

/-- EVENT_CONFIG, SET_THRESHOLDS and CLEAR_EVENTS (R171, R172); a raise sets the source's pending flag and leaves its
noticed flag, level and route, every other source and both thresholds (R168); and the attention line is asserted exactly
while, outside reset and LOADING, some source is pending with route ATTENTION or BOTH and a level above the attention
threshold (R170). -/
def Obligations.EventCommands : Prop :=
  (∀ (dt : Nat) (tag : Byte) (s : State), s.takesCommand →
      (∀ source level route : Byte, exec (.eventConfig dt tag source level route) s = .next (
        if h : source.toNat < 14 then
          if 7 < level.toNat ∨ 2 < route.toNat then s.answered dt tag 0x60 .badValue []
          else
            { s with
              evu := { s.evu with
                sources := s.evu.sources.set source.toNat
                  { s.evu.sources[source.toNat] with
                    level := level.toNat
                    route := if route = 0 then .notice else if route = 1 then .attention else .both } h }
              : State }.answered dt tag 0x60 .ok []
        else s.answered dt tag 0x60 .badValue []))
      ∧ (∀ notice attention : Byte, exec (.setThresholds dt tag notice attention) s = .next (
        if 7 < notice.toNat ∨ 7 < attention.toNat then s.answered dt tag 0x61 .badValue []
        else
          { s with evu := { s.evu with noticeThreshold := notice.toNat, attentionThreshold := attention.toNat }
            : State }.answered dt tag 0x61 .ok []))
      ∧ ∀ set : Half, ∃ v : Evu,
          exec (.clearEvents dt tag set) s = .next (
            if set.getLsbD 14 = true ∨ set.getLsbD 15 = true then s.answered dt tag 0x62 .badValue []
            else { s with evu := v : State }.answered dt tag 0x62 .ok [])
          ∧ v.noticeThreshold = s.evu.noticeThreshold ∧ v.attentionThreshold = s.evu.attentionThreshold
          ∧ ∀ i : Fin 14, v.sources[i] =
              if set.getLsbD i then { s.evu.sources[i] with pending := false, noticed := false } else s.evu.sources[i])
  ∧ (∀ v : Evu,
      [EventSource.liveLock, .liveLoss, .malformedFrame, .captureAbandoned, .linesPatched, .lagHigh, .stall,
        .commitTaken, .statsReady, .statsOverrun, .controlPacketBad, .fuseDone, .overlayDiscarded,
        .panelLimitClamped].map v.source = v.sources.toList)
  ∧ (∀ (v : Evu) (e : EventSource),
      (v.raise e).source e = { v.source e with pending := true }
      ∧ (∀ e', e' ≠ e → (v.raise e).source e' = v.source e')
      ∧ (v.raise e).noticeThreshold = v.noticeThreshold ∧ (v.raise e).attentionThreshold = v.attentionThreshold)
  ∧ ∀ s : State, s.attention = true ↔
      s.pins.reset = false ∧ s.dctl.isLoading = false
        ∧ ∃ i : Fin 14, s.evu.sources[i].pending = true
            ∧ (s.evu.sources[i].route = .attention ∨ s.evu.sources[i].route = .both)
            ∧ s.evu.attentionThreshold < s.evu.sources[i].level

/-- The whole machine's rule for pending events: a source that is pending stays pending through every step but
CLEAR_EVENTS (or its packet) and the two resets (R168, R172). -/
def Obligations.PendingStays : Prop :=
  ∀ (s t : State) (c : Instr) (rest : List Instr) (i : Fin 14), s.pending = c :: rest → step s = .next t →
    s.evu.sources[i].pending = true →
    t.evu.sources[i].pending = true
    ∨ (∃ dt tag set, c = .clearEvents dt tag set ∧ set.getLsbD i = true)
    ∨ (∃ dt bytes tag set, c = .controlPacket dt bytes ∧ readPacket bytes = .dispatched tag (.clearEvents set)
        ∧ set.getLsbD i = true)
    ∨ t.dctl.isLoading = true

/-- STATS_CONFIG, STATS_START, STATS_STOP and RECORD_STREAM (R137, R138, R142, R149). -/
def Obligations.StatsAndStreamCommands : Prop :=
  ∀ (dt : Nat) (tag : Byte) (s : State), s.takesCommand →
    (∀ r : StatsRequest, exec (.statsConfig dt tag r) s = .next (
      if 47 < r.first.toNat ∨ 47 < r.last.toNat ∨ r.last.toNat < r.first.toNat ∨ 1 < r.mode.toNat
          ∨ 1 < r.trigger.toNat ∨ 1023 < r.threshold.toNat then
        s.answered dt tag 0x40 .badValue []
      else if s.zsu.state = .armed ∨ s.zsu.state = .measuring then s.answered dt tag 0x40 .wrongState []
      else
        { s with
          zsu := { s.zsu with config :=
            { first := r.first.toNat, last := r.last.toNat, continuous := r.mode.toNat == 1,
              freshOnly := r.trigger.toNat == 1, threshold := r.threshold.toNat } }
          : State }.answered dt tag 0x40 .ok []))
    ∧ exec (.statsStart dt tag) s = .next (
      match s.zsu.state with
      | .disabled => { s with zsu := { s.zsu with state := .armed } : State }.answered dt tag 0x41 .ok []
      | .armed => s.answered dt tag 0x41 .wrongState []
      | .measuring => s.answered dt tag 0x41 .wrongState [])
    ∧ exec (.statsStop dt tag) s = .next (
      match s.zsu.state with
      | .disabled => s.answered dt tag 0x42 .wrongState []
      | .armed => { s with zsu := { s.zsu with state := .disabled } : State }.answered dt tag 0x42 .ok []
      | .measuring =>
        { s with zsu := { s.zsu with
            state := .disabled
            accumulators := s.zsu.accumulators.mapIdx fun z a =>
              if s.zsu.config.first ≤ z ∧ z ≤ s.zsu.config.last then ZoneAcc.zero else a }
          : State }.answered dt tag 0x42 .ok [])
    ∧ ∀ switch : Byte, exec (.recordStream dt tag switch) s = .next (
      if 1 < switch.toNat then s.answered dt tag 0x50 .badValue []
      else if switch = 0 then { s with frl := { s.frl with cursor := none } : State }.answered dt tag 0x50 .ok []
      else
        match s.frl.cursor with
        | some _ => s.answered dt tag 0x50 .ok []
        | none => { s with frl := { s.frl with cursor := some s.frl.next } : State }.answered dt tag 0x50 .ok [])

/-- The zone of a pixel: for every pixel of the active area exactly one row r and one column c have it between their
boundaries, and its zone is 8 × r + c (R135). While a scan is measured each pixel of an output line is taken into the
accumulators of its zone, when the configured range holds it: its luma into the maximum and the sum, the pixel count, and
the bright count, which stops at 65535; every other accumulator stays, and outside MEASURING all do (R134, R136, R139). -/
def Obligations.ZoneGrid : Prop :=
  (∀ width lines x y : Nat, 8 ≤ width → 6 ≤ lines → x < width → y < lines →
    ∃ r c : Nat, r < 6 ∧ c < 8 ∧ zoneAt width lines x y = 8 * r + c
      ∧ r * lines / 6 ≤ y ∧ y + 1 ≤ (r + 1) * lines / 6
      ∧ c * width / 8 ≤ x ∧ x + 1 ≤ (c + 1) * width / 8
      ∧ ∀ r' c' : Nat, r' * lines / 6 ≤ y → y + 1 ≤ (r' + 1) * lines / 6 → c' * width / 8 ≤ x →
          x + 1 ≤ (c' + 1) * width / 8 → r' = r ∧ c' = c)
  ∧ ∀ (z : Zsu) (width lines y : Nat),
      z.takeLine width lines y [] = z
      ∧ ∀ (pixels : List GamePixel) (p : GamePixel),
        let before := z.takeLine width lines y pixels
        let after := z.takeLine width lines y (pixels ++ [p])
        let zone := zoneAt width lines pixels.length y
        let luma := (2 * p.red.toNat + 5 * p.green.toNat + p.blue.toNat + 4) / 8
        (z.state ≠ .measuring → after = z)
        ∧ after = { before with accumulators := after.accumulators }
        ∧ (z.state = .measuring → ∀ k : Fin 48,
            let a := before.accumulators[k]
            after.accumulators[k] =
              if k.val = zone ∧ z.config.first ≤ zone ∧ zone ≤ z.config.last then
                { maximum := max a.maximum luma, sum := a.sum + luma, count := a.count + 1
                  bright := if z.config.threshold ≤ luma then min (a.bright + 1) 65535 else a.bright }
              else a)

/-- In every step from a state with the record and scheduler invariants the record invariant is kept: at most 32 records,
of consecutive numbers that run up to the next scan's (R146, R148). And the adding of a record: below 32 it is placed after
the newest; at 32 the oldest alone leaves, and a cursor on it moves on by one; the next number is the record's plus one
(R148). -/
def Obligations.RecordsKept : Prop :=
  (∀ s t : State, SchedulerInv s → RecordInv s → step s = .next t → RecordInv t)
  ∧ ∀ (f : Frl) (r : FrameRecord),
    (f.ring.length < 32 → f.add r = { ring := f.ring ++ [r], next := r.sequence + 1, cursor := f.cursor })
    ∧ ∀ oldest rest, f.ring = oldest :: rest → 32 ≤ f.ring.length →
        (f.add r).ring = rest ++ [r] ∧ (f.add r).next = r.sequence + 1
        ∧ (f.cursor = some oldest.sequence → (f.add r).cursor = some (oldest.sequence + 1))
        ∧ (f.cursor ≠ some oldest.sequence → (f.add r).cursor = f.cursor)

/-- The end of a measured scan posts its set: the zone results of the configured range in zone order with their means, the
send position 1, the overrun mark when a set was still held, STATS_READY and then STATS_OVERRUN, and the state the mode
gives; a cut-short end posts nothing, clears the accumulators of the range and leaves the state ARMED (R140, R141,
R144). -/
def Obligations.StatsSetPosted : Prop :=
  ∀ (q : Half) (s : State), s.zsu.state = .measuring →
    (let set : HeldSet :=
        { sequence := q, first := s.zsu.config.first, last := s.zsu.config.last, results := s.zsu.results,
          position := 1, overrun := s.zsu.held.isSome }
     s.statsScanEnd false q =
      { s with
        zsu := { s.zsu with
          state := if s.zsu.config.continuous = true then .armed else .disabled, held := some set }
        evu := if s.zsu.held.isSome = true then (s.evu.raise .statsReady).raise .statsOverrun
          else s.evu.raise .statsReady })
    ∧ s.statsScanEnd true q =
      { s with
        zsu := { s.zsu with
          state := .armed
          accumulators := s.zsu.accumulators.mapIdx fun z a =>
            if s.zsu.config.first ≤ z ∧ z ≤ s.zsu.config.last then ZoneAcc.zero else a } }
    ∧ (s.zsu.config.first ≤ s.zsu.config.last → s.zsu.config.last ≤ 47 →
        s.zsu.results.length = s.zsu.config.last + 1 - s.zsu.config.first
        ∧ ∀ k, (h : k < s.zsu.results.length) → (hz : s.zsu.config.first + k < 48) →
            let a := s.zsu.accumulators[s.zsu.config.first + k]
            s.zsu.results[k] =
              { zone := s.zsu.config.first + k, maximum := a.maximum,
                mean := (2 * a.sum + a.count) / (2 * a.count), bright := a.bright })

/-! ### The Overlay Port and the return window -/

/-- OVERLAY_LINE_START by phase: ignored when CLOSED; in BLANKING line 0 begins a new back frame and a return window
opens; in ARRIVING a line opens, or, while one is open, the frame is discarded; in COUNTED the excess line discards the
frame (R114, R115, R116, R159). -/
def Obligations.OverlayLineStart : Prop :=
  ∀ (dt : Nat) (s : State), s.hearsOverlay →
    (s.ocap.phase = .closed → exec (.overlayLineStart dt) s = .next (s.after dt).serve)
    ∧ (s.ocap.phase = .blanking →
        let u : State := { s with
          clock := s.clock + dt
          ocap := { s.ocap with
            phase := .arriving, linesSeen := 0, lineOpen := true, back := .filling, backWritten := 0
            buffer := s.ocap.buffer.map fun e => { e with current := false } } }
        exec (.overlayLineStart dt) s = .next u.openWindow.serve)
    ∧ (s.ocap.phase = .arriving → s.ocap.lineOpen = false →
        exec (.overlayLineStart dt) s = .next
          ({ s with clock := s.clock + dt, ocap := { s.ocap with lineOpen := true } } : State).serve)
    ∧ (s.ocap.phase = .arriving ∧ s.ocap.lineOpen = true ∨ s.ocap.phase = .counted →
        exec (.overlayLineStart dt) s = .next ((s.after dt).discardOverlay true .closed).serve)

/-- A return window takes every reply it has places for, then the notice when one is due, then statistics packets from
the send position, then records from the cursor, in 24 places; the records waiting are the held ones from the cursor's
number to the newest, and none with no cursor; what it took has left its source and nothing else changes: of ZSU the
held set alone, of EVU the noticed flags alone (R160, R143, R150, R169). The window is then in progress (the model's
mark of it, log 16). -/
def Obligations.WindowFill : Prop :=
  ∀ s : State, s.rct.queue.length ≤ 16 →
    ∃ stats records : List (List Byte),
      let notice := if ∃ i : Fin 14, s.evu.sources[i].pending = true ∧ s.evu.sources[i].noticed = false
          ∧ s.evu.sources[i].route ≠ .attention ∧ s.evu.noticeThreshold < s.evu.sources[i].level
        then [noticePacket s.evu s.tbc.lastMarker s.pacingTime] else []
      s.openWindow.rct =
        { queue := [], lane := s.rct.queue.map Reply.packet ++ notice ++ stats ++ records, sending := true }
      ∧ s.openWindow.rct.lane.length ≤ 24
      ∧ (∀ h, s.zsu.held = some h → 1 ≤ h.position →
          stats.length = min (24 - s.rct.queue.length - notice.length) ((h.results.length + 3) / 4 + 1 - h.position)
          ∧ stats = (List.range stats.length).map (fun k => h.packet (h.position + k))
          ∧ s.openWindow.zsu = { s.zsu with
              held := if (h.results.length + 3) / 4 < h.position + stats.length then none
                else some { h with position := h.position + stats.length } })
      ∧ s.openWindow.zsu = { s.zsu with held := s.openWindow.zsu.held }
      ∧ (s.zsu.held = none → stats = [] ∧ s.openWindow.zsu = s.zsu)
      ∧ records.length = min (24 - s.rct.queue.length - notice.length - stats.length) s.frl.waiting.length
      ∧ records = (s.frl.waiting.take records.length).map FrameRecord.packet
      ∧ s.openWindow.frl = { s.frl with cursor := s.frl.cursor.map (· + BitVec.ofNat 16 records.length) }
      ∧ (∀ i : Fin 14, s.openWindow.evu.sources[i] =
          if s.evu.sources[i].pending = true ∧ s.evu.sources[i].noticed = false ∧ s.evu.sources[i].route ≠ .attention
              ∧ s.evu.noticeThreshold < s.evu.sources[i].level then { s.evu.sources[i] with noticed := true }
          else s.evu.sources[i])
      ∧ (s.frl.cursor = none → s.frl.waiting = [])
      ∧ (∀ c, s.frl.cursor = some c → RecordInv s →
          ∃ before, s.frl.ring = before ++ s.frl.waiting ∧ s.frl.waiting.length = (s.frl.next - c).toNat
            ∧ ∀ k, (h : k < s.frl.waiting.length) → s.frl.waiting[k].sequence = c + BitVec.ofNat 16 k)
      ∧ s.openWindow.evu = { s.evu with sources := s.openWindow.evu.sources }
      ∧ s.openWindow = { s with
          rct := s.openWindow.rct, zsu := s.openWindow.zsu, frl := s.openWindow.frl, evu := s.openWindow.evu }

/-- OVERLAY_LOCK and OVERLAY_LOSS: a lock in DOWN makes the link LOCKED with the phase CLOSED; a loss in LOCKED discards
the frame its phase says, makes the link DOWN and the phase CLOSED, and empties the reply queue; the other two change
nothing but the time and the lock condition (R113, R161). A loss while a return window is in progress ends it: which of
its packets had gone is free (log 16); with no window in progress the lane keeps what was sent. -/
def Obligations.OverlayLinks : Prop :=
  (∀ (dt : Nat) (s : State), s.awake →
    (s.ocap.link = .down →
      exec (.overlayLock dt) s = .next { s with
        clock := s.clock + dt, pins := { s.pins with overlayLock := true }
        ocap := { s.ocap with link := .locked, phase := .closed } }
      ∧ exec (.overlayLoss dt) s = .next
          ({ s with clock := s.clock + dt, pins := { s.pins with overlayLock := false } } : State).serve)
    ∧ (s.ocap.link = .locked →
      exec (.overlayLock dt) s = .next
        { s with clock := s.clock + dt, pins := { s.pins with overlayLock := true } }
      ∧ let u : State := { s with clock := s.clock + dt, pins := { s.pins with overlayLock := false } }
        let v : State := match s.ocap.phase with
          | .closed => u
          | .blanking => u.discardOverlay false .closed
          | .arriving => u.discardOverlay true .closed
          | .counted => if s.ocap.back = BackState.filling then u.discardOverlay true .closed else u
        exec (.overlayLoss dt) s = .next u.overlayLossTaken.serve
        ∧ ∃ k free, exec (.overlayLoss dt) s = .next ({ v with
          ocap := { v.ocap with link := .down, phase := .closed, lineOpen := false }
          rct := { queue := [], lane := s.rct.lane.take k }, free := free } : State).serve))
  ∧ ∀ s : State,
      let inProgress := s.rct.sending = true ∧ s.ocap.linesSeen < 540
        ∧ (s.ocap.phase = .arriving ∨ s.ocap.phase = .closed)
      let v : State := match s.ocap.phase with
        | .closed => s
        | .blanking => s.discardOverlay false .closed
        | .arriving => s.discardOverlay true .closed
        | .counted => if s.ocap.back = BackState.filling then s.discardOverlay true .closed else s
      let w : State := { v with ocap := { v.ocap with link := .down, phase := .closed, lineOpen := false } }
      (¬ inProgress → s.overlayLossTaken = { w with rct := { queue := [], lane := s.rct.lane } })
      ∧ (inProgress → ∃ k, s.overlayLossTaken =
          { w with rct := { queue := [], lane := s.rct.lane.take k }, free := s.free + 1 })

/-- A discarded overlay frame: OVERLAY_DISCARDED is raised, a frame that had begun gives up its back state and its entries
in the write buffer (a request waiting for one of them is withdrawn, and a write in progress of one goes on uncounted,
its entry no longer in the buffer, log 24), and the front plane and every other transfer are left as they are (R116,
R33). -/
def Obligations.OverlayDiscard : Prop :=
  ∀ (begun : Bool) (phase : OverlayPhase) (s : State),
    let t := s.discardOverlay begun phase
    t = { s with marb := t.marb, ocap := t.ocap, evu := s.evu.raise .overlayDiscarded }
    ∧ t.ocap = { s.ocap with
        phase := phase, lineOpen := false
        back := if begun then .idle else s.ocap.back
        buffer := if begun then s.ocap.buffer.filter (fun e => !e.current) else s.ocap.buffer }
    ∧ t.marb =
        if begun = true ∧ (s.ocap.buffer.head?.map (·.current)) = some true then
          { s.marb with
            overlayWrite := none
            transfer := s.marb.transfer.map fun x => match x with
              | .overlayWrite e _ => .overlayWrite e false
              | .captureWrite i n => .captureWrite i n
              | .scanRead i n wanted => .scanRead i n wanted
              | .overlayRead p n wanted => .overlayRead p n wanted }
        else s.marb

/-- OVERLAY_FRAME_START and OVERLAY_LINE_END by phase (R114, R32, R116). A line that passes its count raises the lines
seen also when it meets a full buffer, and its frame is then CLOSED, at the 540th line too (log 40). With the overlay
link DOWN neither of them nor OVERLAY_LINE_START changes anything but the time, and the port is served; in LOADING
nothing but the time, and while the reset line is asserted nothing (R112, R113, R176). -/
def Obligations.OverlayFrame : Prop :=
  (∀ (dt : Nat) (s : State), s.hearsOverlay →
    exec (.overlayFrameStart dt) s = .next (
      match s.ocap.phase with
      | .closed => ({ s with clock := s.clock + dt, ocap := { s.ocap with phase := .blanking } } : State).serve
      | .counted => ({ s with clock := s.clock + dt, ocap := { s.ocap with phase := .blanking } } : State).serve
      | .blanking => ((s.after dt).discardOverlay false .blanking).serve
      | .arriving => ((s.after dt).discardOverlay true .blanking).serve)
    ∧ ∀ pixels : List OverlayPixel,
      exec (.overlayLineEnd dt pixels) s = .next (
        if s.ocap.phase ≠ .arriving ∨ s.ocap.lineOpen = false then (s.after dt).serve
        else if pixels.length ≠ 960 then ((s.after dt).discardOverlay true .closed).serve
        else if 2 ≤ s.ocap.buffer.length then
          (State.discardOverlay true .closed
            { s with clock := s.clock + dt, ocap := { s.ocap with linesSeen := s.ocap.linesSeen + 1 } }).serve
        else
          ({ s with
            clock := s.clock + dt
            ocap := { s.ocap with
              buffer := s.ocap.buffer ++ [{ plane := if s.ocap.front = .a then .b else .a, line := s.ocap.linesSeen,
                                            pixels := pixels, current := true }]
              linesSeen := s.ocap.linesSeen + 1, lineOpen := false
              phase := if s.ocap.linesSeen + 1 = 540 then .counted else .arriving } } : State).serve))
  ∧ ∀ (dt : Nat) (pixels : List OverlayPixel) (s : State),
      let answers : State → Prop := fun t =>
        exec (.overlayFrameStart dt) s = .next t ∧ exec (.overlayLineStart dt) s = .next t
          ∧ exec (.overlayLineEnd dt pixels) s = .next t
      (s.pins.reset = true → answers s)
      ∧ (s.pins.reset = false → s.dctl.isLoading = true → answers (s.after dt))
      ∧ (s.awake → s.ocap.link = .down → answers (s.after dt).serve)

/-! ### Fuses -/

/-- FUSE_PROGRAM and FUSE_LOCK: the checks in their order, and an accepted operation, which runs for 1500 µs and owes its
reply (R155, R174, R175). The level of the FPROG line comes with the command (log 4): where the line was high and comes
low, it has fallen at that instant, so the command acts on the state that FPROG_FALL leaves, an operation in flight
interrupted. -/
def Obligations.FuseCommands : Prop :=
  (∀ (dt : Nat) (tag : Byte) (fprog : Bool) (s : State), s.takesCommand →
    ¬ (s.pins.fprog = true ∧ fprog = false ∧ s.lfb.engine ≠ .idle) →
    let u : State := { s with pins := { s.pins with fprog := fprog } }
    (∀ (word : Byte) (value : Half), exec (.fuseProgram dt tag word value fprog) s = .next (
      if h : word.toNat ≤ 6 then
        if s.lfb.engine ≠ .idle then u.answered dt tag 0x71 .fuseBusy []
        else if s.lfb.locked then u.answered dt tag 0x71 .fuseLocked []
        else if fprog = false then u.answered dt tag 0x71 .fuseDisabled []
        else
          { u with
            clock := s.clock + dt
            lfb := { s.lfb with
              engine := .programming tag ⟨word.toNat, by omega⟩ value (s.clock + dt + 1500000) } }
      else u.answered dt tag 0x71 .badValue []))
    ∧ exec (.fuseLock dt tag fprog) s = .next (
      if s.dctl ≠ .standby then u.answered dt tag 0x72 .wrongState []
      else if s.lfb.engine ≠ .idle then u.answered dt tag 0x72 .fuseBusy []
      else if s.lfb.locked then u.answered dt tag 0x72 .fuseLocked []
      else if fprog = false then u.answered dt tag 0x72 .fuseDisabled []
      else if (∃ k : Fin 7, s.lfb.words[k.val] = 0) ∨ s.lfb.words[1].toNat < s.lfb.words[0].toNat then
        u.answered dt tag 0x72 .badLimits []
      else { u with clock := s.clock + dt, lfb := { s.lfb with engine := .locking tag (s.clock + dt + 1500000) } }))
  ∧ ∀ (dt : Nat) (tag : Byte) (s : State), s.pins.reset = false → s.pins.fprog = true →
      ∃ t, exec (.fprogFall dt) s = .next t
        ∧ (∀ (word : Byte) (value : Half),
            exec (.fuseProgram dt tag word value false) s = exec (.fuseProgram 0 tag word value false) t)
        ∧ exec (.fuseLock dt tag false) s = exec (.fuseLock 0 tag false) t

/-- FUSE_PROGRAM_END and FUSE_LOCK_END. A program's word has every requested bit set and is read back; a lock sets W7,
makes the bank LOCKED, takes the limits from W0 to W6 and revalidates the table; the engine is IDLE, FUSE_DONE raised and
OK replied (R174, R175, R35, R47). An end that is not due, or of another operation, changes nothing (log 3). FPROG_FALL
stops a program with some subset of the requested bits set (which is free, log 11) and a lock with W7 as it was; the engine
is IDLE, FUSE_DONE raised, and FUSE_INTERRUPTED replied; with the engine IDLE only the line falls. The revalidation checks
and clamps a VALID entry again against the new limits, as R42 to R44 do; one that fails is INVALID with its fields as they
were, and an entry that is not VALID stays (R47). -/
def Obligations.FuseEnds : Prop :=
  (∀ (dt : Nat) (s : State), s.pins.reset = false →
      (∀ tag word value due, s.lfb.engine = .programming tag word value due →
        exec (.fuseLockEnd dt) s = .next (s.after dt)
        ∧ exec (.fuseProgramEnd dt) s = .next (
          if due ≤ s.clock + dt then
            let w := s.lfb.words[word] ||| value
            { s with
              lfb := { s.lfb with words := s.lfb.words.set word.val w word.isLt, engine := .idle }
              evu := s.evu.raise .fuseDone : State }.answered dt tag 0x71 .ok
                (BitVec.ofNat 8 word.val :: halfBytes w)
          else s.after dt))
      ∧ (∀ tag due, s.lfb.engine = .locking tag due →
        exec (.fuseProgramEnd dt) s = .next (s.after dt)
        ∧ exec (.fuseLockEnd dt) s = .next (
          if due ≤ s.clock + dt then
            let w := s.lfb.words.set 7 0xFFFF
            let l : Limits :=
              { floor := w[0].toNat, ceiling := w[1].toNat, maxLines := w[2].toNat, maxWidth := w[3].toNat,
                minLineTime := w[4].toNat, peak := w[5].toNat, minBlank := w[6].toNat }
            let table := s.pru.table.map (ProfileEntry.revalidate l)
            { s with
              lfb := { words := w, locked := true, engine := .idle }
              pru := { limits := l, table := table }
              evu := (if table = s.pru.table then s.evu else s.evu.raise .panelLimitClamped).raise .fuseDone
              : State }.answered dt tag 0x72 .ok []
          else s.after dt))
      ∧ (s.lfb.engine = .idle →
        exec (.fuseProgramEnd dt) s = .next (s.after dt) ∧ exec (.fuseLockEnd dt) s = .next (s.after dt)))
  ∧ ∀ (dt : Nat) (s : State), s.pins.reset = false →
      let u : State := { s with pins := { s.pins with fprog := false } }
      (∀ tag word value due, s.lfb.engine = .programming tag word value due →
        ∃ bits : Half, bits &&& value = bits ∧
          exec (.fprogFall dt) s = .next (
            { u with
              lfb := { s.lfb with
                words := s.lfb.words.set word.val (s.lfb.words[word] ||| bits) word.isLt, engine := .idle }
              evu := s.evu.raise .fuseDone, free := s.free + 1 : State }.answered dt tag 0x71 .fuseInterrupted
                (BitVec.ofNat 8 word.val :: halfBytes (s.lfb.words[word] ||| bits))))
      ∧ (∀ tag due, s.lfb.engine = .locking tag due →
        exec (.fprogFall dt) s = .next (
          { u with lfb := { s.lfb with engine := .idle }, evu := s.evu.raise .fuseDone : State }.answered dt tag 0x72
            .fuseInterrupted []))
      ∧ (s.lfb.engine = .idle → exec (.fprogFall dt) s = .next (u.after dt))
      ∧ ∀ (l : Limits) (e : ProfileEntry),
          let p := e.profile
          let rows := (p.lines + 63) / 64
          let blank := max p.minBlank (max (l.minBlank + rows) (5 + rows))
          let pmin := max p.pmin l.floor
          let pmax := min p.pmax l.ceiling
          let low := max pmin (((p.lines + blank) * p.lineTime + 999) / 1000)
          (e.state ≠ .valid → e.revalidate l = e)
          ∧ (e.state = .valid →
            e.revalidate l =
              if l.maxWidth < p.width ∨ l.maxLines < p.lines ∨ p.lineTime < l.minLineTime ∨ pmax < low then
                { state := .invalid, profile := p }
              else
                { state := .valid
                  profile := { p with
                    minBlank := blank, pmin := pmin, pmax := pmax, stallLimit := max p.stallLimit pmax
                    freeRun := min (max p.freeRun low) pmax, pminEff := low, pmaxEff := pmax } })

/-- A fuse bit, once set, is never cleared: in every step each word keeps every bit it has. With the fuse invariant, which
every step keeps (an operation runs only on an unlocked bank outside LOADING, and a lock only in STANDBY), a locked bank
keeps its words (R173 to R175, R81, R177). -/
def Obligations.FuseBitsStay : Prop :=
  ∀ s t : State, step s = .next t →
    (∀ k : Fin 8, s.lfb.words[k] &&& t.lfb.words[k] = s.lfb.words[k])
    ∧ (FuseInv s → s.lfb.locked = true → t.lfb.words = s.lfb.words)
    ∧ (SchedulerInv s → FuseInv s → FuseInv t)

/-! ### The resets -/

/-- The reset line asserted and released (R176, R34, R175, R35): asserting puts every block in its reset state with both
links DOWN and the clock at 0, and keeps only the FPROG level and the lock conditions, the limits, the fuse words and the
memory outside a write cut short; releasing starts LOADING for 200 µs and reads the lock word; while asserted, the
arrivals of the ports and the timers do nothing, here four of them. A release of a line that is not asserted changes only
the time (the model's choice, log 42). -/
def Obligations.ResetLine : Prop :=
  ∀ (dt : Nat) (s : State),
    (∃ words : Vector Half 8, ∃ mem : Memory, ∃ free : Nat,
      exec (.resetAssert dt) s = .next { State.reset with
        pins := { s.pins with reset := true }
        pru := { limits := s.pru.limits, table := Vector.replicate 4 ProfileEntry.blank }
        lfb := { words := words, locked := s.lfb.locked, engine := .idle }
        mem := mem, free := free, pending := s.pending }
      ∧ (∀ tag word value due, s.lfb.engine = .programming tag word value due →
          ∃ bits : Half, bits &&& value = bits ∧
            words = s.lfb.words.set word.val (s.lfb.words[word] ||| bits) word.isLt)
      ∧ (s.lfb.engine = .idle ∨ s.lfb.engine.isLocking = true → words = s.lfb.words)
      ∧ ((s.marb.transfer.map Transfer.requester ≠ some .captureWrite
            ∧ s.marb.transfer.map Transfer.requester ≠ some .overlayWrite) → mem = s.mem)
      ∧ (∀ i line e rest, s.marb.transfer = some (.captureWrite i line) → s.capu.buffer = e :: rest →
          let base := i.val * 33554432 + line * 15360
          ∀ a, a < base ∨ base + 4 * e.pixels.length ≤ a → mem.read a = s.mem.read a)
      ∧ (∀ e buffered, s.marb.transfer = some (.overlayWrite e buffered) →
          let base := planeBase e.plane + e.line * 3840
          ∀ a, a < base ∨ base + 4 * e.pixels.length ≤ a → mem.read a = s.mem.read a))
    ∧ (s.pins.reset = true →
        exec (.resetRelease dt) s = .next { s with
          clock := 0, pins := { s.pins with reset := false }, dctl := .loading 200000 none
          lfb := { s.lfb with locked := s.lfb.words[7] != 0 } }
        ∧ exec (.transferEnd dt) s = .next s ∧ exec (.maintenanceDue dt) s = .next s
        ∧ exec (.lfs dt) s = .next s ∧ exec (.outputTime dt) s = .next s)
    ∧ (s.pins.reset = false → exec (.resetRelease dt) s = .next (s.after dt))

/-- LOADING_END: the limits are taken from the fuse words or the defaults, the device is STANDBY, an owed SOFT_RESET reply
joins the queue, and the link states follow their lock conditions: each link's lock or loss is taken where the two differ,
and nothing where they agree (R176, R177, R35, R3, R112). Where a reply is owed and the overlay link was lost, the loss may
be taken before the reply joins the queue or after (R161; log 15). An end that is not due changes only the time (the
model's choice, log 3). -/
def Obligations.LoadingEnd : Prop :=
  (∀ w : Vector Half 8, limitsOfWords w =
    { floor := w[0].toNat, ceiling := w[1].toNat, maxLines := w[2].toNat, maxWidth := w[3].toNat
      minLineTime := w[4].toNat, peak := w[5].toNat, minBlank := w[6].toNat })
  ∧ ∀ (dt due : Nat) (owed : Option Byte) (s : State), s.pins.reset = false → s.dctl = .loading due owed →
    (s.clock + dt < due → exec (.loadingEnd dt) s = .next (s.after dt))
    ∧ (due ≤ s.clock + dt → (s.lrx.link = .locked ↔ s.pins.liveLock = true) →
        (s.ocap.link = .locked ↔ s.pins.overlayLock = true) →
        exec (.loadingEnd dt) s = .next
          ({ s with
            clock := s.clock + dt
            pru := { s.pru with
              limits := if s.lfb.words[7] = 0 then Limits.defaults else limitsOfWords s.lfb.words }
            dctl := .standby
            rct := { s.rct with queue := s.rct.queue ++ (owed.toList.map fun tag =>
              { tag := tag, code := 0x04, status := .ok, payload := [] }) } } : State).serve)
    ∧ (due ≤ s.clock + dt → s.lrx.link = .down → s.pins.liveLock = true →
        ∃ t, exec (.loadingEnd dt) s = .next t ∧ t.dctl = .standby ∧ t.lrx.link = .locked
          ∧ (t.evu.source .liveLock).pending = true)
    ∧ (due ≤ s.clock + dt → SchedulerInv s →
        let u : State := { s with
          clock := s.clock + dt
          pru := { s.pru with
            limits := if s.lfb.words[7] = 0 then Limits.defaults else limitsOfWords s.lfb.words }
          dctl := .standby }
        let paid : State → State := fun x => { x with
          rct := { x.rct with queue := x.rct.queue ++ (owed.toList.map fun tag =>
            { tag := tag, code := 0x04, status := .ok, payload := [] }) } }
        let quiet : Crp := { newest := s.crp.newest, lastLfs := none, estimate := none, stalled := false,
                             plan := { spacing := 0, multiplier := 1, next := none, remaining := 0, timer := none },
                             raised := none }
        let shown : Bool := if s.crp.plan.remaining = 0 then s.ssch.planEmpty else true
        ∃ v : State,
          ((s.ocap.link = .locked ↔ s.pins.overlayLock = true) → v = paid u)
          ∧ (s.ocap.link = .down → s.pins.overlayLock = true →
              v = { paid u with ocap := { s.ocap with link := .locked, phase := .closed } })
          ∧ (s.ocap.link = .locked → s.pins.overlayLock = false →
              (owed = none → v = u.overlayLossTaken)
              ∧ (owed.isSome = true →
                  v = paid ({ u with free := s.free + 1 } : State).overlayLossTaken
                  ∨ v = (paid { u with free := s.free + 1 }).overlayLossTaken))
          ∧ ((s.lrx.link = .locked ↔ s.pins.liveLock = true) → exec (.loadingEnd dt) s = .next v.serve)
          ∧ (s.lrx.link = .down → s.pins.liveLock = true →
              exec (.loadingEnd dt) s = .next ({ v with
                lrx := { s.lrx with link := .locked }, evu := v.evu.raise .liveLock, crp := quiet
                ssch := { s.ssch with planEmpty := shown } } : State).serve)
          ∧ (s.lrx.link = .locked → s.pins.liveLock = false →
              let w : State := match s.lrx.check with
                | .arriving f => v.malformed f.frame f.linesSeen
                | .counted _ => v
                | .closed => v
              exec (.loadingEnd dt) s = .next ({ w with
                lrx := { w.lrx with link := .down, check := .closed }, evu := w.evu.raise .liveLoss, crp := quiet
                ssch := { w.ssch with planEmpty := shown } } : State).serve))

/-- SOFT_RESET: refused outside STANDBY (also with the fuse engine busy: R177 gives WRONG_STATE and FUSE_BUSY no order,
and this one is the model's choice, log 46) and in STANDBY with the fuse engine busy; accepted, every block takes its
reset state but for the two link states, the clock, the pins, the limits and the fuse words, and the reply is owed until
LOADING ends (R177, R155, R157). A write transfer in progress is cut short: each byte of its line is the new one or the
old one, which is free (R34; log 10), and no byte outside it changes; with none, memory stays as it was. -/
def Obligations.SoftReset : Prop :=
  ∀ (dt : Nat) (tag : Byte) (s : State), s.takesCommand →
    (s.dctl ≠ .standby → exec (.softReset dt tag) s = .next (s.answered dt tag 0x04 .wrongState []))
    ∧ (s.dctl = .standby → s.lfb.engine ≠ .idle →
        exec (.softReset dt tag) s = .next (s.answered dt tag 0x04 .fuseBusy []))
    ∧ (s.dctl = .standby → s.lfb.engine = .idle →
        s.marb.transfer.map Transfer.requester ≠ some .captureWrite →
        s.marb.transfer.map Transfer.requester ≠ some .overlayWrite →
        exec (.softReset dt tag) s = .next { State.reset with
          clock := s.clock + dt, pins := s.pins
          lrx := { link := s.lrx.link, frameCounter := 0, check := .closed }
          ocap := { Ocap.initial with link := s.ocap.link }
          pru := { limits := s.pru.limits, table := Vector.replicate 4 ProfileEntry.blank }
          lfb := { s.lfb with locked := s.lfb.words[7] != 0 }
          dctl := .loading (s.clock + dt + 200000) (some tag)
          mem := s.mem, free := s.free, pending := s.pending })
    ∧ (s.dctl = .standby → s.lfb.engine = .idle →
        ∃ (mem : Memory) (free : Nat),
          exec (.softReset dt tag) s = .next { State.reset with
            clock := s.clock + dt, pins := s.pins
            lrx := { link := s.lrx.link, frameCounter := 0, check := .closed }
            ocap := { Ocap.initial with link := s.ocap.link }
            pru := { limits := s.pru.limits, table := Vector.replicate 4 ProfileEntry.blank }
            lfb := { s.lfb with locked := s.lfb.words[7] != 0 }
            dctl := .loading (s.clock + dt + 200000) (some tag)
            mem := mem, free := free, pending := s.pending }
          ∧ (∀ i line e rest, s.marb.transfer = some (.captureWrite i line) → s.capu.buffer = e :: rest →
              let base := i.val * 33554432 + line * 15360
              (∀ a, a < base ∨ base + 4 * e.pixels.length ≤ a → mem.read a = s.mem.read a)
              ∧ ∀ k < 4 * e.pixels.length, mem.read (base + k) = s.mem.read (base + k)
                  ∨ some (mem.read (base + k)) = (e.pixels.flatMap GamePixel.bytes)[k]?)
          ∧ ∀ e buffered, s.marb.transfer = some (.overlayWrite e buffered) →
              let base := planeBase e.plane + e.line * 3840
              (∀ a, a < base ∨ base + 4 * e.pixels.length ≤ a → mem.read a = s.mem.read a)
              ∧ ∀ k < 4 * e.pixels.length, mem.read (base + k) = s.mem.read (base + k)
                  ∨ some (mem.read (base + k)) = (e.pixels.flatMap OverlayPixel.bytes)[k]?)

/-! ### The Live Port -/

/-- LOCK_ARRIVAL and LOSS_ARRIVAL. A lock in DOWN makes the link LOCKED and raises LIVE_LOCK; a loss in LOCKED first
declares a frame still arriving malformed, makes the link DOWN and the check state CLOSED, and raises LIVE_LOSS. Each
invalidates E and clears the plan, and an EXPIRED timer that thereby becomes active in OPEN is taken (R1, R2, R53, R67,
R68). The other two change nothing but the time and the lock condition. The case of HOLD with the minimum timer EXPIRED,
which no run reaches, is left out. -/
def Obligations.LiveLinks : Prop :=
  ∀ (dt : Nat) (s : State), s.awake → (s.ssch.state = .hold → s.ssch.min.isExpired = false) →
    let quiet : Crp := { newest := s.crp.newest, lastLfs := none, estimate := none, stalled := false,
                         plan := { spacing := 0, multiplier := 1, next := none, remaining := 0, timer := none },
                         raised := none }
    let shown : Bool := if s.crp.plan.remaining = 0 then s.ssch.planEmpty else true
    (s.lrx.link = .down →
      exec (.lossArrival dt) s = .next
        ({ s with clock := s.clock + dt, pins := { s.pins with liveLock := false } } : State).serve
      ∧ let u : State := { s with
          clock := s.clock + dt, pins := { s.pins with liveLock := true }, lrx := { s.lrx with link := .locked }
          evu := s.evu.raise .liveLock, crp := quiet, ssch := { s.ssch with planEmpty := shown } }
        exec (.lockArrival dt) s = .next (
          if s.ssch.state = .opened ∧ shown = true ∧ s.ssch.deadline.isExpired = true then
            (u.startScan .deadline).serve
          else u.serve))
    ∧ (s.lrx.link = .locked →
      exec (.lockArrival dt) s = .next
        ({ s with clock := s.clock + dt, pins := { s.pins with liveLock := true } } : State).serve
      ∧ let u : State := { s with clock := s.clock + dt, pins := { s.pins with liveLock := false } }
        let v : State := match s.lrx.check with
          | .arriving f => u.malformed f.frame f.linesSeen
          | .counted _ => u
          | .closed => u
        let w : State := { v with
          lrx := { v.lrx with link := .down, check := .closed }, evu := v.evu.raise .liveLoss
          crp := quiet, ssch := { v.ssch with planEmpty := shown } }
        exec (.lossArrival dt) s = .next (
          if s.ssch.state = .opened ∧ s.ssch.freeRun.isExpired = true then (w.startScan .freeRun).serve
          else w.serve))

/-- A frame declared malformed: the check state is CLOSED, MALFORMED_FRAME is raised, the frame's capture, when its slot
is the fill, is abandoned, the pending frame is cleared when it names the frame, and a fresh scan of the frame that loses a
line (a line at or after the one named, or, LIVE, its next line, log 36), or a chase of the abandoned slot, is patched from
its next line, with its read-ahead buffer emptied and each patched line of its read window given the latest slot when that
is not its own source and fits, and otherwise the fill colour; nothing else changes (R9, R17, R74, R95, R98). The same for
an abandonment alone (R17, R74, R95). -/
def Obligations.MalformedFrame : Prop :=
  (∀ (frame : Word) (k : Nat) (s : State),
    let t := s.malformed frame k
    let mine : SlotId → Prop := fun i => s.capu.fill = some i ∧ s.capu.slots[i].frame = some frame
    t.lrx = { s.lrx with check := .closed } ∧ t.evu = s.evu.raise .malformedFrame
    ∧ (∀ i, mine i →
        t.capu = { s.capu with
          fill := none, slots := s.capu.slots.set i.val SlotRecord.emptied i.isLt
          buffer := if s.marb.busy .captureWrite then
              s.capu.buffer.take 1 ++ (s.capu.buffer.drop 1).filter (fun e => e.slot ≠ i)
            else s.capu.buffer.filter (fun e => e.slot ≠ i) }
        ∧ t.marb = { s.marb with captureWrite := s.marb.captureWrite.filter fun r => decide (r.1 ≠ i) })
    ∧ ((∀ i, ¬ mine i) → t.capu = s.capu ∧ t.marb = s.marb)
    ∧ t.ssch = { s.ssch with pending := s.ssch.pending.filter fun p => decide (p.frame ≠ frame) }
    ∧ (∀ sc, s.seng.scan = some sc →
        let hit := (sc.kind = .live ∨ sc.kind = .deferred) ∧ sc.frame = some frame
            ∧ (k < sc.lines ∨ sc.kind = .live ∧ sc.nextLine < sc.lines)
          ∨ sc.kind = .deferred ∧ ∃ i, mine i ∧ sc.scanSource = some i
        (hit → sc.patchFrom = none →
          t.seng = { s.seng with
            scan := some (Scan.withChoices { sc with patchFrom := some sc.nextLine } t.capu), readAhead := [] })
        ∧ (¬ hit ∨ sc.patchFrom.isSome = true → t.seng = s.seng))
    ∧ (s.seng.scan = none → t.seng = s.seng)
    ∧ t = { s with lrx := t.lrx, evu := t.evu, capu := t.capu, marb := t.marb, ssch := t.ssch, seng := t.seng })
  ∧ (∀ (i : SlotId) (s : State),
    let t := s.abandonCapture i
    t.capu = { s.capu with
      fill := none, slots := s.capu.slots.set i.val SlotRecord.emptied i.isLt
      buffer := if s.marb.busy .captureWrite then
          s.capu.buffer.take 1 ++ (s.capu.buffer.drop 1).filter (fun e => e.slot ≠ i)
        else s.capu.buffer.filter (fun e => e.slot ≠ i) }
    ∧ t.marb = { s.marb with captureWrite := s.marb.captureWrite.filter fun r => decide (r.1 ≠ i) }
    ∧ t.ssch = { s.ssch with
        pending := s.ssch.pending.filter fun p => decide (s.capu.slots[i].frame ≠ some p.frame) }
    ∧ (∀ sc, s.seng.scan = some sc → sc.kind = .deferred → sc.scanSource = some i → sc.patchFrom = none →
        t.seng = { s.seng with
          scan := some (Scan.withChoices { sc with patchFrom := some sc.nextLine } t.capu), readAhead := [] })
    ∧ ((∀ sc, s.seng.scan = some sc → sc.kind ≠ .deferred ∨ sc.scanSource ≠ some i ∨ sc.patchFrom.isSome = true) →
        t.seng = s.seng)
    ∧ t = { s with capu := t.capu, marb := t.marb, ssch := t.ssch, seng := t.seng })
  ∧ (∀ (sc : Scan) (c : Capu),
    let t := sc.withChoices c
    t = { sc with choices := t.choices } ∧ (sc.patchFrom = none → t = sc)
    ∧ ∀ k n, sc.patchFrom = some k → sc.nextOut ≤ n →
      (∀ chosen, sc.choices.lookup n = some chosen → t.choice n = chosen)
      ∧ (sc.choices.lookup n = none → k ≤ n → n ≤ sc.nextOut + 3 → n < sc.lines →
          t.choice n = match c.latest with
            | some i =>
              if sc.scanSource ≠ some i ∧ c.slots[i].width = sc.width ∧ c.slots[i].lines = sc.lines then some i
              else none
            | none => none))
  ∧ ∀ (sc : Scan) (c : Capu) (k : Nat), sc.choices = [] →
    let patched := Scan.withChoices { sc with patchFrom := some k } c
    patched = { sc with patchFrom := some k, choices := patched.choices }
    ∧ ∀ n, k ≤ n → sc.nextOut ≤ n → n ≤ sc.nextOut + 3 → n < sc.lines →
      (∀ i, c.latest = some i → sc.scanSource ≠ some i →
          c.slots[i].width = sc.width → c.slots[i].lines = sc.lines → patched.slotFor n = some i)
      ∧ ((∀ i, c.latest = some i →
            sc.scanSource = some i ∨ c.slots[i].width ≠ sc.width ∨ c.slots[i].lines ≠ sc.lines) →
          patched.slotFor n = none)

/-- LFS completes: the frame counter rises by one and the frame takes its number; CRP takes the report; in OPEN a LIVE scan
of the frame starts, in HOLD and SCAN the frame becomes the pending one (overtaking the one there was), and in OFF nothing
more; the capture before is abandoned when its slot is still the fill; and with the profile the active bank then names
VALID the check state is ARRIVING with line 0 open and the lowest free slot FILLING, otherwise the frame is unchecked; the
port is then served and nothing else changes (R4, R5, R12, R13, R50, R52, R73, R74). In OPEN the interval counts for E and
STALL, unless the commit taken there changes the format, which leaves E INVALID (R54). At the instant of a start that is
not LIVE the report may come before the start's own (R54, R56, R63; which, is free, log 37). A frame still ARRIVING is
malformed first (R4 step 1). -/
def Obligations.LfsTaken : Prop :=
  (∀ (dt : Nat) (s : State), s.hearsLive → (∀ f, s.lrx.check ≠ .arriving f) →
    let n := s.lrx.frameCounter + 1
    let now := s.timeAfter dt
    let e := s.pru.table[s.tbc.active.profile]
    let u : State := { s with clock := s.clock + dt, lrx := { s.lrx with frameCounter := n, check := .closed } }
    let reported : State := { u with
      crp := s.crp.takeLfs e n now
      evu := if s.crp.stallsAt e now then s.evu.raise .stall else s.evu }
    let pend : State → State := fun x => { x with
      ssch := { x.ssch with
        pending := some { frame := n, lfsTime := now }
        overtaken := if s.ssch.pending.isSome then min (s.ssch.overtaken + 1) 255 else s.ssch.overtaken } }
    ∃ v w t : State, exec (.lfs dt) s = .next t
      ∧ (s.ssch.state = .off → v = reported)
      ∧ (s.ssch.state = .hold → v = pend reported)
      ∧ (s.ssch.state = .opened → v = u.startScan (.arrival n))
      ∧ (s.ssch.state = .scan → s.seng.scan = none → v = pend reported)
      ∧ (s.ssch.state = .scan → ∀ sc, s.seng.scan = some sc →
          let sameInstant := sc.kind ≠ .live ∧ sc.reports.clock = s.clock + dt ∧ sc.reports.after = s.crp
          let found := sc.reports.before.takeLfs e n now
          let c : Crp := if sc.reports.changed then { s.crp with newest := some n } else s.crp.takeLfs e n now
          let d := planSpacing c.estimate e.profile
          let m := planMultiplier c.estimate e.profile
          let plan : Plan :=
            if m = 1 then { spacing := d, multiplier := 1, next := none, remaining := 0, timer := none }
            else { spacing := d, multiplier := m, next := some (now + BitVec.ofNat 32 d), remaining := m - 1,
                   timer := some (s.microsAfter dt + d) }
          let first : State := { u with
            free := s.free + 1
            evu := if sc.reports.before.stallsAt e now then s.evu.raise .stall else s.evu }
          (¬ sameInstant → v = pend reported)
          ∧ (sameInstant →
              v = pend { reported with free := s.free + 1 }
              ∨ sc.kind = .deferred ∧ v = pend { first with
                  crp := { c with plan := plan }
                  ssch := { s.ssch with planEmpty :=
                    if (s.crp.plan.remaining == 0) = (plan.remaining == 0) then s.ssch.planEmpty
                    else plan.remaining == 0 }
                  seng := { s.seng with
                    scan := some { sc with estimate := c.estimate, multiplier := plan.multiplier } } }
              ∨ sc.kind ≠ .deferred ∧ v = pend { first with
                  crp := c, seng := { s.seng with scan := some { sc with estimate := found.estimate } } }))
      ∧ (v.capu.fill = none → w = v) ∧ (∀ i, v.capu.fill = some i → w = v.abandonCapture i)
      ∧ let entry := w.pru.table[w.tbc.active.profile]
        (entry.state ≠ .valid → t = w.serve)
        ∧ (entry.state = .valid → ∃ i : SlotId,
            w.capu.latest ≠ some i ∧ w.scanSource ≠ some i
            ∧ (∀ j < i, w.capu.latest = some j ∨ w.scanSource = some j)
            ∧ t = ({ w with
                lrx := { w.lrx with
                  check := .arriving
                    { frame := n, profile := w.tbc.active.profile, width := entry.profile.width
                      lines := entry.profile.lines, lineTime := entry.profile.lineTime, linesSeen := 0
                      lineOpen := true, lineStart := s.clock + dt } }
                capu := { w.capu with
                  fill := some i
                  slots := w.capu.slots.set i.val
                    { state := .filling, frame := some n, linesWritten := 0, width := entry.profile.width
                      lines := entry.profile.lines } i.isLt } } : State).serve))
  ∧ (∀ (dt : Nat) (s : State) (f : FrameCheck), s.hearsLive → s.lrx.check = .arriving f →
      ∃ t, exec (.lfs dt) s = .next t
        ∧ exec (.lfs 0) ((s.after dt).malformed f.frame f.linesSeen) = .next t
        ∧ ((s.after dt).malformed f.frame f.linesSeen).hearsLive
        ∧ ((s.after dt).malformed f.frame f.linesSeen).lrx.check = .closed)
  ∧ (∀ (n : Word) (s : State),
      let v := s.startScan (.arrival n)
      let entry := v.pru.table[v.tbc.active.profile]
      let old := s.pru.table[s.tbc.active.profile].profile
      let changes := s.tbc.commitPending.isSome = true
        ∧ (old.width ≠ entry.profile.width ∨ old.lines ≠ entry.profile.lines ∨ old.lineTime ≠ entry.profile.lineTime)
      v.crp.newest = some n ∧ v.crp.lastLfs = some s.pacingTime
      ∧ (¬ changes →
          v.crp.estimate = (s.crp.takeLfs entry n s.pacingTime).estimate
          ∧ v.crp.stalled = (s.crp.takeLfs entry n s.pacingTime).stalled
          ∧ (s.crp.stallsAt entry s.pacingTime = true → (v.evu.source .stall).pending = true)
          ∧ (s.crp.stallsAt entry s.pacingTime = false → v.evu.source .stall = s.evu.source .stall))
      ∧ (changes → s.crp.newest ≠ some n → v.crp.estimate = none ∧ v.crp.stalled = false))
  ∧ ∀ (c : Crp) (entry : ProfileEntry) (time : Word),
      c.stallsAt entry time = true ↔
        entry.state = .valid ∧ c.stalled = false
          ∧ ∃ last, c.lastLfs = some last ∧ entry.profile.stallLimit < (time - last).toNat

/-- LINE_START: ignored when CLOSED; in ARRIVING it opens the next line when its period is within one sixty-fourth of the
line time (line 0 is not checked), and makes the frame malformed at that line otherwise, as does a line start while a line
is open; in COUNTED it is an excess line. BLANKING_START in ARRIVING makes the frame malformed at the lines seen and in
COUNTED closes it. LINE_OVERDUE_EXPIRY makes a frame ARRIVING malformed at the line that has not started, once the longest
accepted period has passed since the latest line start (R6, R7, R8); before its time, or with its timer not running, it
changes only the time (the model's choice, log 3). None of the five live arrivals changes anything but the time with the
link DOWN or in LOADING, and nothing at all while the reset line is asserted (R2, R3, R4, R176). -/
def Obligations.LineStart : Prop :=
  (∀ (dt : Nat) (s : State), s.hearsLive →
    exec (.lineStart dt) s = .next (
      match s.lrx.check with
      | .closed => (s.after dt).serve
      | .counted f => ((s.after dt).malformed f.frame f.lines).serve
      | .arriving f =>
        let period := s.clock + dt - f.lineStart
        if f.lineOpen = false ∧ (f.linesSeen = 0 ∨ 64 * ((period : Int) - f.lineTime).natAbs ≤ f.lineTime) then
          ({ s with
            clock := s.clock + dt
            lrx := { s.lrx with check := .arriving { f with lineOpen := true, lineStart := s.clock + dt } } }
            : State).serve
        else ((s.after dt).malformed f.frame f.linesSeen).serve)
    ∧ exec (.blankingStart dt) s = .next (
      match s.lrx.check with
      | .closed => (s.after dt).serve
      | .arriving f => ((s.after dt).malformed f.frame f.linesSeen).serve
      | .counted _ => ({ s with clock := s.clock + dt, lrx := { s.lrx with check := .closed } } : State).serve)
    ∧ exec (.lineOverdueExpiry dt) s = .next (
      match s.lrx.check with
      | .closed => (s.after dt).serve
      | .counted _ => (s.after dt).serve
      | .arriving f =>
        if f.lineStart + f.lineTime + f.lineTime / 64 ≤ s.clock + dt then
          ((s.after dt).malformed f.frame (if f.lineOpen then f.linesSeen + 1 else f.linesSeen)).serve
        else (s.after dt).serve))
  ∧ ∀ (dt : Nat) (pixels : List GamePixel) (s : State),
      let answers : State → Prop := fun t =>
        exec (.lfs dt) s = .next t ∧ exec (.lineStart dt) s = .next t ∧ exec (.lineEnd dt pixels) s = .next t
          ∧ exec (.blankingStart dt) s = .next t ∧ exec (.lineOverdueExpiry dt) s = .next t
      (s.pins.reset = true → answers s)
      ∧ (s.pins.reset = false → s.dctl.isLoading = true ∨ s.lrx.link = .down → answers (s.after dt))

/-- LINE_END: ignored unless a line is open in ARRIVING; a wrong pixel count makes the frame malformed at that line; a line
that passes goes to the capture write buffer (or, meeting a full one, abandons the capture with CAPTURE_ABANDONED: the
slot's waiting entries leave the buffer, its waiting request is withdrawn, and a chase of the slot is patched), is produced
by a LIVE scan coupled to the frame, due four line times after its line start, and is counted; any other scan stays as it
was; the last line completes the capture; the port is then served (R6, R8, R14, R15, R16, R17, R24, R92, R93, R95). -/
def Obligations.LineEnd : Prop :=
  ∀ (dt : Nat) (pixels : List GamePixel) (s : State), s.hearsLive →
    (s.lrx.check = .closed ∨ (∃ f, s.lrx.check = .counted f)
        ∨ (∃ f, s.lrx.check = .arriving f ∧ f.lineOpen = false) →
      exec (.lineEnd dt pixels) s = .next (s.after dt).serve)
    ∧ ∀ f, s.lrx.check = .arriving f → f.lineOpen = true →
      (pixels.length ≠ f.width →
        exec (.lineEnd dt pixels) s = .next ((s.after dt).malformed f.frame f.linesSeen).serve)
      ∧ (pixels.length = f.width →
        let g : FrameCheck := { f with linesSeen := f.linesSeen + 1, lineOpen := false }
        ∃ t v : State, exec (.lineEnd dt pixels) s = .next t ∧ t = v.serve ∧ v.free = s.free
          ∧ t.lrx = { s.lrx with check := if f.linesSeen + 1 = f.lines then .counted g else .arriving g }
          ∧ (∀ i, s.capu.fill = some i → s.capu.slots[i].frame = some f.frame → s.capu.buffer.length < 4 →
              t.capu.buffer = s.capu.buffer ++ [{ slot := i, frame := f.frame, line := f.linesSeen, pixels := pixels }]
              ∧ t.evu = s.evu ∧ t.ssch = s.ssch
              ∧ (f.linesSeen + 1 ≠ f.lines →
                  t.capu.slots = s.capu.slots ∧ t.capu.fill = some i ∧ t.capu.latest = s.capu.latest)
              ∧ (f.linesSeen + 1 = f.lines →
                  t.capu.slots[i] = { s.capu.slots[i] with state := .complete } ∧ t.capu.fill = none
                  ∧ t.capu.latest = some i
                  ∧ ∀ j, j ≠ i → t.capu.slots[j] =
                      if s.capu.latest = some j ∧ s.scanSource ≠ some j then SlotRecord.emptied else s.capu.slots[j]))
          ∧ (∀ i, s.capu.fill = some i → s.capu.slots[i].frame = some f.frame → 4 ≤ s.capu.buffer.length →
              t.capu.fill = none ∧ t.capu.slots = s.capu.slots.set i.val SlotRecord.emptied i.isLt
              ∧ t.capu.latest = s.capu.latest ∧ t.evu = s.evu.raise .captureAbandoned
              ∧ t.ssch = { s.ssch with pending := s.ssch.pending.filter fun p => decide (p.frame ≠ f.frame) }
              ∧ t.capu.buffer = (if s.marb.busy .captureWrite then
                  s.capu.buffer.take 1 ++ (s.capu.buffer.drop 1).filter (fun e => e.slot ≠ i)
                else s.capu.buffer.filter (fun e => e.slot ≠ i))
              ∧ v.marb = { s.marb with captureWrite := s.marb.captureWrite.filter fun r => decide (r.1 ≠ i) }
              ∧ ∀ sc, s.seng.scan = some sc → sc.kind = .deferred → sc.scanSource = some i → sc.patchFrom = none →
                  t.seng = { s.seng with
                    scan := some (Scan.withChoices { sc with patchFrom := some sc.nextLine } t.capu)
                    readAhead := [] })
          ∧ (s.capu.buffer.length < 4 ∨ (∀ i, s.capu.fill = some i → s.capu.slots[i].frame ≠ some f.frame) →
              v.marb = s.marb)
          ∧ ((∀ i, s.capu.fill = some i → s.capu.slots[i].frame ≠ some f.frame) →
              t.capu = s.capu ∧ t.evu = s.evu ∧ t.ssch = s.ssch)
          ∧ (∀ sc, s.seng.scan = some sc → sc.kind = .live → sc.frame = some f.frame → sc.patchFrom = none →
              sc.nextLine = f.linesSeen → f.linesSeen < sc.lines →
              t.seng = { s.seng with
                scan := some { sc with
                  nextLine := f.linesSeen + 1, timingBase := f.lineStart + 4 * sc.lineTime
                  timingFrom := f.linesSeen + 1 }
                pipeline := s.seng.pipeline ++
                  [{ line := f.linesSeen, due := f.lineStart + 4 * sc.lineTime, pixels := pixels }]
                previous := some pixels })
          ∧ (∀ sc, s.seng.scan = some sc →
              sc.kind ≠ .live ∨ sc.frame ≠ some f.frame ∨ sc.patchFrom.isSome = true ∨ sc.nextLine ≠ f.linesSeen
                ∨ sc.lines ≤ f.linesSeen →
              (sc.kind = .deferred → sc.patchFrom = none → ∀ i, sc.scanSource = some i → s.capu.fill = some i →
                s.capu.slots[i].frame = some f.frame → s.capu.buffer.length < 4) →
              t.seng = s.seng)
          ∧ (s.seng.scan = none → t.seng = s.seng)
          ∧ t = { s with
              clock := s.clock + dt, lrx := t.lrx, capu := t.capu, marb := t.marb, ssch := t.ssch, seng := t.seng,
              evu := t.evu, free := t.free })

/-- In every step from a state with the slot and scheduler invariants the slot invariant is kept: fill, latest and scan
source agree with the slots' states, and a slot held by none of them is FREE and empty (R10 to R13, R16 to R19). -/
def Obligations.SlotsKept : Prop :=
  ∀ s t : State, SchedulerInv s → SlotInv s → step s = .next t → SlotInv t

/-- Every step keeps the reply places in use at sixteen or fewer, with that the capture, overlay write, read-ahead and
window buffers and the overtaken count within their sizes (R14, R15, R32, R65, R89, R94, R157, R159), and, from a state
with the scheduler invariant, the overlay line cache within its four lines, each of the target's set and there once
(R24, R122, R123). -/
def Obligations.BuffersKept : Prop :=
  (∀ s t : State, PlacesInv s → step s = .next t → PlacesInv t ∧ (BufferInv s → BufferInv t))
  ∧ ∀ s t : State, SchedulerInv s → CacheInv s → step s = .next t → CacheInv t

/-! ### Frame memory and its port -/

/-- MAINTENANCE_DUE and MAINTENANCE_END by maintenance state (R26): due with a transfer in progress waits for its end, and
at an idle port begins at once; the end makes it NONE, with a grant decision outside LOADING (R34), and is ignored where
R26's table ignores it. -/
def Obligations.Maintenance : Prop :=
  ∀ (dt : Nat) (s : State), s.pins.reset = false →
    exec (.maintenanceDue dt) s = .next { s with
      clock := s.clock + dt
      marb := { s.marb with maintenance :=
        match s.marb.maintenance with
        | .none => if s.marb.transfer = none then .active else .due
        | .due => .due
        | .active => .active } }
    ∧ (s.marb.maintenance ≠ .active → exec (.maintenanceEnd dt) s = .next (s.after dt))
    ∧ (s.marb.maintenance = .active →
        let u : State := { s with clock := s.clock + dt, marb := { s.marb with maintenance := .none } }
        exec (.maintenanceEnd dt) s = .next (
          if s.marb.transfer = none ∧ s.dctl.isLoading = false then u.grant else u))

/-- The grant decision (R27, R28): the first of a waiting capture write, a waiting scan read whose line has no entry in
the capture write buffer, a waiting overlay read and a waiting overlay write becomes the transfer in progress; its request
no longer waits, and nothing else changes. -/
def Obligations.GrantOrder : Prop :=
  ∀ s : State,
    s.grant = { s with marb := s.grant.marb }
    ∧ (∀ i n, s.marb.captureWrite = some (i, n) →
        s.grant.marb = { s.marb with transfer := some (.captureWrite i n), captureWrite := none })
    ∧ (s.marb.captureWrite = none →
      (∀ i n, s.marb.scanRead = some (i, n) → (∀ e ∈ s.capu.buffer, ¬ (e.slot = i ∧ e.line = n)) →
        s.grant.marb = { s.marb with transfer := some (.scanRead i n true), scanRead := none })
      ∧ ((∀ i n, s.marb.scanRead = some (i, n) → ∃ e ∈ s.capu.buffer, e.slot = i ∧ e.line = n) →
        (∀ p n, s.marb.overlayRead = some (p, n) →
          s.grant.marb = { s.marb with transfer := some (.overlayRead p n true), overlayRead := none })
        ∧ (s.marb.overlayRead = none →
          (∀ e rest, s.marb.overlayWrite.isSome = true → s.ocap.buffer = e :: rest →
            s.grant.marb = { s.marb with transfer := some (.overlayWrite e true), overlayWrite := none })
          ∧ (s.marb.overlayWrite = none → s.grant = s))))

/-- At the end of a step that may have made requests, each requester without a waiting request and without a transfer in
progress asks for what it wants: CAPU and OCAP for the head of their buffers, SENG for the lowest line of the read
window that it has not and that can be read, counted in lines received and delivered (of a FILLING slot the first counts
the lines written and every entry for the slot, R10, the second only the entries of its own capture, R28: log 23), OCMP
for the first line of the target's set that is not in its cache; and a port with no transfer, no maintenance and outside
LOADING grants. Where SENG and OCMP ask in the same step, OCMP's request may reach an idle port first (which, is free,
log 14). Nothing but the port and the count of free values changes. When a transfer has ended the port holds none, the
next requests are made before the decision (the model's choice, log 38), maintenance that is DUE becomes ACTIVE and
nothing is granted, and in LOADING nothing is granted (R24, R25, R26, R27, R32, R34, R94, R123). -/
def Obligations.PortServed : Prop :=
  (∀ s : State,
      let asked : Marb := { s.marb with
        captureWrite := s.marb.captureWrite.or s.captureDesire, scanRead := s.marb.scanRead.or s.scanDesire
        overlayRead := s.marb.overlayRead.or s.overlayReadDesire
        overlayWrite := s.marb.overlayWrite.or s.overlayWriteDesire }
      s.serve = { s with marb := s.serve.marb, free := s.serve.free }
      ∧ (s.marb.transfer.isSome = true ∨ s.marb.maintenance ≠ .none ∨ s.dctl.isLoading = true →
          s.serve = { s with marb := asked })
      ∧ (s.marb.transfer = none → s.marb.maintenance = .none → s.dctl.isLoading = false →
          (s.scanDesire = none ∨ s.overlayReadDesire = none → s.serve = ({ s with marb := asked } : State).grant)
          ∧ (s.scanDesire.isSome = true → s.overlayReadDesire.isSome = true →
              let u : State := { s with marb := asked, free := s.free + 1 }
              s.serve = u.grant
              ∨ asked.captureWrite = none ∧ ∃ p n, asked.overlayRead = some (p, n)
                ∧ s.serve = { u with marb := { asked with
                    transfer := some (.overlayRead p n true), overlayRead := none } })))
  ∧ (∀ s : State,
      let busy : Requester → Prop := fun r => s.marb.transfer.map Transfer.requester = some r
      s.captureDesire = (if s.marb.captureWrite.isSome = true ∨ busy .captureWrite then none
        else s.capu.buffer.head?.map fun e => (e.slot, e.line))
      ∧ s.overlayWriteDesire = (if s.marb.overlayWrite.isSome = true ∨ busy .overlayWrite then none
        else s.ocap.buffer.head?.map fun e => (e.plane, e.line))
      ∧ (s.marb.scanRead.isSome = true ∨ busy .scanRead ∨ s.seng.scan = none ∨ 4 ≤ s.seng.readAhead.length →
          s.scanDesire = none)
      ∧ (∀ sc, s.seng.scan = some sc → s.marb.scanRead = none → ¬ busy .scanRead → s.seng.readAhead.length < 4 →
          let wanted : SlotId → Nat → Prop := fun i n =>
            sc.nextOut ≤ n ∧ n ≤ sc.nextOut + 3 ∧ n < sc.lines ∧ (∀ e ∈ s.seng.readAhead, e.line ≠ n)
              ∧ sc.slotFor n = some i ∧ (sc.patchFrom.isSome = true ∨ n < s.capu.received i ∧ n < s.capu.delivered i)
          ∀ i n, s.scanDesire = some (i, n) ↔ wanted i n ∧ ∀ m < n, ∀ j, ¬ wanted j m)
      ∧ (s.marb.overlayRead.isSome = true ∨ busy .overlayRead ∨ s.seng.scan = none ∨ s.ocmp.target = none →
          s.overlayReadDesire = none)
      ∧ (∀ sc y, s.seng.scan = some sc → s.ocmp.target = some y → s.marb.overlayRead = none → ¬ busy .overlayRead →
          (∀ p n, s.overlayReadDesire = some (p, n) ↔
            p = s.ocap.front ∧ s.ocmp.cache.lookup n = none
              ∧ ∃ before rest, s.lineSet sc y = before ++ n :: rest
                ∧ ∀ m ∈ before, (s.ocmp.cache.lookup m).isSome = true)))
  ∧ (∀ (c : Capu) (i : SlotId),
      (c.slots[i].state = .free → c.received i = 0) ∧ (c.slots[i].state = .complete → c.received i = c.slots[i].lines)
      ∧ (c.slots[i].state = .filling →
          c.received i = c.slots[i].linesWritten + (c.buffer.filter fun e => decide (e.slot = i)).length
          ∧ c.delivered i = c.slots[i].linesWritten
              + (c.buffer.filter fun e => decide (e.slot = i ∧ c.slots[i].frame = some e.frame)).length)
      ∧ (c.slots[i].state ≠ .filling → c.delivered i = c.received i))
  ∧ (∀ (sc : Scan) (n : Nat), sc.patchFrom = none →
      (∀ i, sc.source = .slot i → sc.slotFor n = some i) ∧ ((∀ i, sc.source ≠ .slot i) → sc.slotFor n = none))
  ∧ (∀ (sc : Scan) (k n : Nat), sc.choice n = (sc.choices.lookup n).join
      ∧ (sc.patchFrom = some k → sc.slotFor n = if k ≤ n then sc.choice n else none))
  ∧ (∀ (m : Marb) (r : Requester), m.busy r = true ↔ m.transfer.map Transfer.requester = some r)
  ∧ ∀ s : State,
      let a : State := { s with marb := { s.marb with transfer := none } }
      let asked : State := { a with marb := { a.marb with
        captureWrite := a.marb.captureWrite.or a.captureDesire, scanRead := a.marb.scanRead.or a.scanDesire
        overlayRead := a.marb.overlayRead.or a.overlayReadDesire
        overlayWrite := a.marb.overlayWrite.or a.overlayWriteDesire } }
      s.portFreed = { s with marb := s.portFreed.marb }
      ∧ (s.marb.maintenance = .due → s.portFreed = { asked with marb := { asked.marb with maintenance := .active } })
      ∧ (s.marb.maintenance = .active ∨ s.marb.maintenance = .none ∧ s.dctl.isLoading = true → s.portFreed = asked)
      ∧ (s.marb.maintenance = .none → s.dctl.isLoading = false → s.portFreed = asked.grant)

/-- TRANSFER_END: with no transfer nothing happens (the model's choice, log 42); a capture write puts its line's
pixels in memory and takes its entry from the buffer, a wanted scan read brings its line into the read-ahead buffer
while it is still in the read window, an overlay read its line into the cache while it is in the target's set, an
overlay write its line into memory, its entry leaving the buffer, counted when it belongs to the frame now filling,
and the 540th making the back plane READY; then the port is free: maintenance that is due begins, and otherwise the
next request is granted (R14, R25, R26, R27, R33, R94, R115, R123). A line outside the layout of R22 faults (log
25). -/
def Obligations.TransferEnd : Prop :=
  ∀ (dt : Nat) (s : State), s.pins.reset = false →
    (s.marb.transfer = none → exec (.transferEnd dt) s = .next (s.after dt))
    ∧ (∀ i line e rest, s.marb.transfer = some (.captureWrite i line) → s.capu.buffer = e :: rest →
        line < 2160 → e.pixels.length ≤ 3840 →
        let counted := s.capu.slots[e.slot].state ≠ .free ∧ s.capu.slots[e.slot].frame = some e.frame
        exec (.transferEnd dt) s = .next ({ s with
          clock := s.clock + dt
          mem := s.mem.store (i.val * 33554432 + line * 15360) (e.pixels.flatMap GamePixel.bytes)
          capu := { s.capu with
            buffer := rest
            slots := if counted then
                s.capu.slots.set e.slot.val
                  { s.capu.slots[e.slot] with linesWritten := s.capu.slots[e.slot].linesWritten + 1 } e.slot.isLt
              else s.capu.slots } } : State).portFreed)
    ∧ (∀ i line sc, s.marb.transfer = some (.scanRead i line true) → s.seng.scan = some sc →
        line < 2160 → sc.width ≤ 3840 →
        exec (.transferEnd dt) s = .next (
          if (sc.nextOut ≤ line ∧ line ≤ sc.nextOut + 3 ∧ line < sc.lines) ∧ sc.slotFor line = some i
              ∧ s.seng.readAhead.length < 4 then
            ({ s with
              clock := s.clock + dt
              seng := { s.seng with readAhead := s.seng.readAhead ++
                [{ slot := i, line := line, pixels := s.mem.readSlotLine i line sc.width }] } } : State).portFreed
          else (s.after dt).portFreed))
    ∧ (∀ i line, s.marb.transfer = some (.scanRead i line false) →
        exec (.transferEnd dt) s = .next (s.after dt).portFreed)
    ∧ (∀ p line sc y, s.marb.transfer = some (.overlayRead p line true) → s.seng.scan = some sc →
        s.ocmp.target = some y → line < 540 →
        exec (.transferEnd dt) s = .next (
          if line ∈ s.lineSet sc y then
            ({ s with
              clock := s.clock + dt
              ocmp := { s.ocmp with cache := s.ocmp.cache ++ [(line, s.mem.readPlaneLine p line)] } }
              : State).portFreed
          else (s.after dt).portFreed))
    ∧ (∀ p line, s.marb.transfer = some (.overlayRead p line false) →
        exec (.transferEnd dt) s = .next (s.after dt).portFreed)
    ∧ (∀ i line, s.marb.transfer = some (.captureWrite i line) → s.capu.buffer = [] →
        exec (.transferEnd dt) s = .next (s.after dt).portFreed)
    ∧ (∀ i line, s.marb.transfer = some (.scanRead i line true) → s.seng.scan = none →
        exec (.transferEnd dt) s = .next (s.after dt).portFreed)
    ∧ (∀ p line, s.marb.transfer = some (.overlayRead p line true) → line < 540 →
        s.seng.scan = none ∨ s.ocmp.target = none → exec (.transferEnd dt) s = .next (s.after dt).portFreed)
    ∧ (∀ e buffered, s.marb.transfer = some (.overlayWrite e buffered) → e.line < 540 → e.pixels.length ≤ 960 →
        let base := match e.plane with
          | .a => 100663296
          | .b => 102760448
        let u : State := { s with
          clock := s.clock + dt
          mem := s.mem.store (base + e.line * 3840) (e.pixels.flatMap OverlayPixel.bytes) }
        (buffered = false ∨ s.ocap.buffer = [] → exec (.transferEnd dt) s = .next u.portFreed)
        ∧ ∀ head rest, buffered = true → s.ocap.buffer = head :: rest →
          exec (.transferEnd dt) s = .next ({ u with ocap :=
            if head.current = true ∧ s.ocap.back = BackState.filling then
              { s.ocap with
                buffer := rest, backWritten := s.ocap.backWritten + 1
                back := if s.ocap.backWritten + 1 = 540 then BackState.ready else BackState.filling }
            else { s.ocap with buffer := rest } } : State).portFreed)
    ∧ (∀ i line sc, s.marb.transfer = some (.scanRead i line true) → s.seng.scan = some sc →
        2160 ≤ line ∨ 3840 < sc.width → exec (.transferEnd dt) s = .fault .noSuchLine)
    ∧ (∀ p line, s.marb.transfer = some (.overlayRead p line true) → 540 ≤ line →
        exec (.transferEnd dt) s = .fault .noSuchLine)
    ∧ (∀ i line e rest, s.marb.transfer = some (.captureWrite i line) → s.capu.buffer = e :: rest →
        2160 ≤ line ∨ 3840 < e.pixels.length → exec (.transferEnd dt) s = .fault .noSuchLine)
    ∧ (∀ e buffered, s.marb.transfer = some (.overlayWrite e buffered) → 540 ≤ e.line ∨ 960 < e.pixels.length →
        exec (.transferEnd dt) s = .fault .noSuchLine)

/-- A line written to a slot or a plane reads back unchanged, and every byte outside it is as it was; a slot line is at
the slot's base plus 15,360 bytes a line, a plane line at the plane's base plus 3,840 (R22, R23). -/
def Obligations.LineReadBack : Prop :=
  ∀ m : Memory, m.wf →
    (∀ (i : SlotId) (line : Nat) (pixels : List GamePixel), line < 2160 → pixels.length ≤ 3840 →
      (m.writeSlotLine i line pixels).readSlotLine i line pixels.length = pixels
      ∧ (∀ a, a < i.val * 33554432 + line * 15360 ∨ i.val * 33554432 + line * 15360 + 4 * pixels.length ≤ a →
          (m.writeSlotLine i line pixels).read a = m.read a))
    ∧ ∀ (p : Plane) (line : Nat) (pixels : List OverlayPixel), line < 540 → pixels.length = 960 →
      let base := match p with
        | .a => 100663296
        | .b => 102760448
      planeBase p = base
      ∧ (m.writePlaneLine p line pixels).readPlaneLine p line = pixels
      ∧ (∀ a, a < base + line * 3840 ∨ base + line * 3840 + 3840 ≤ a →
          (m.writePlaneLine p line pixels).read a = m.read a)

/-- No step stops from a state in which every line the port could be asked for has a place in the layout: it answers a
next state, in which the same holds again (R22, R24, R40, R118; the fault of a line outside the layout is log 25). -/
def Obligations.NoStop : Prop :=
  ∀ s : State, LayoutInv s → ∃ t, step s = .next t ∧ LayoutInv t

/-- In every step the memory keeps its canonical form inside the device's 128 MiB (R22). -/
def Obligations.MemoryKept : Prop :=
  ∀ s t : State, MemoryInv s → step s = .next t → MemoryInv t

/-! ### Cadence -/

/-- An LFS report at CRP with a VALID check profile: the interval since the last LFS, modulo 2^32, sets an INVALID E, moves
a VALID one by its weight, or, above the stall limit, leaves E and makes the stall state STALLED; without a last LFS time
or with a profile that is not VALID only the newest frame and the time are recorded (R50, R51, R52). -/
def Obligations.LfsEstimate : Prop :=
  ∀ (c : Crp) (entry : ProfileEntry) (frame time : Word),
    let t := c.takeLfs entry frame time
    t.newest = some frame ∧ t.lastLfs = some time ∧ t.plan = c.plan ∧ t.raised = c.raised
    ∧ (c.lastLfs = none ∨ entry.state ≠ .valid → t.estimate = c.estimate ∧ t.stalled = c.stalled)
    ∧ ∀ last, c.lastLfs = some last → entry.state = .valid →
        let i := (time - last).toNat
        let w := entry.profile.weight
        (entry.profile.stallLimit < i → t.estimate = c.estimate ∧ t.stalled = true)
        ∧ (i ≤ entry.profile.stallLimit → t.stalled = false
          ∧ (c.estimate = none → t.estimate = some i)
          ∧ ∀ e, c.estimate = some e → t.estimate = some ((e * (16 - w) + i * w + 8) / 16)
              ∧ (w ≤ 16 → (e * (16 - w) + i * w + 8) / 16 ≤ max e i))

/-- The multiplier and the spacing of a plan: with E INVALID m is 1 and D is 0; otherwise m is the largest of 1 and the
smaller of the maximum multiplier and ceil (E / Pmax_eff), and D is floor (E / m) clamped into the window; so m lies
between 1 and the maximum multiplier and D within the window (R57). -/
def Obligations.PlanMade : Prop :=
  (∀ p : Profile, planMultiplier none p = 1 ∧ planSpacing none p = 0)
  ∧ ∀ (e : Nat) (p : Profile), 1 ≤ p.pmaxEff → p.pminEff ≤ p.pmaxEff → 1 ≤ p.maxMultiplier →
      let m := planMultiplier (some e) p
      m = max 1 (min p.maxMultiplier ((e + p.pmaxEff - 1) / p.pmaxEff))
      ∧ 1 ≤ m ∧ m ≤ p.maxMultiplier ∧ (p.maxMultiplier ≤ 8 → m ≤ 8)
      ∧ planSpacing (some e) p = min (max (e / m) p.pminEff) p.pmaxEff
      ∧ p.pminEff ≤ planSpacing (some e) p ∧ planSpacing (some e) p ≤ p.pmaxEff
      ∧ (m < p.maxMultiplier → e ≤ m * p.pmaxEff)
      ∧ (1 < m → (m - 1) * p.pmaxEff < e)

/-- Every step from a state with the profile invariant keeps E at most 2,000,000 µs, m between 1 and 8, and the plan's next
point and timer present exactly while a repeat remains (R49, R51, R57 to R60). -/
def Obligations.CadenceKept : Prop :=
  ∀ s t : State, ProfileInv s → CadenceInv s → step s = .next t → CadenceInv t

/-! ### Scan starts -/

/-- What every scan start does, whatever started it (R66, R67, R69, R72, R90, R91, R117, R123, R130, R139): a pending
commit is taken; the scheduler is in SCAN with this start recorded, the profile kept, the three timers running from it,
a chase's pending frame consumed and a fresh scan's overtaken count handed over; the scan has the sequence number, the
format and fill colour of the bank in force, the interval of the run and the commit's marker; its header is sent; line 0
of a scan in own timing leaves four line times after the start, and of a LIVE scan once it is handed on (R93); line 0 is
the overlay target; a READY back plane is swapped to the front; an ARMED ZSU begins to measure a scan that qualifies,
the accumulators of its range cleared; COMMIT_TAKEN is raised exactly when a commit is taken; and every block that the
last equation does not name is left as it was. -/
def Obligations.ScanStart : Prop :=
  ∀ (r : StartReason) (s : State),
    let t := s.startScan r
    let tbc : Tbc := match s.tbc.commitPending with
      | some m => { active := s.tbc.shadow, shadow := s.tbc.shadow, commitPending := none, lastMarker := m }
      | none => s.tbc
    let p := s.pru.table[tbc.active.profile].profile
    let fresh : Bool := match r with
      | .arrival _ => true
      | .chase _ => true
      | .plan _ _ => false
      | .deadline => false
      | .freeRun => false
    (s.microseconds = s.clock / 1000 ∧ s.pacingTime = BitVec.ofNat 32 (s.clock / 1000))
    ∧ t.tbc = tbc
    ∧ t.ssch.state = .scan ∧ t.ssch.lastStart = some s.pacingTime ∧ t.ssch.runStarted = true
    ∧ t.ssch.kept = some { pminEff := p.pminEff, pmaxEff := p.pmaxEff, freeRun := p.freeRun,
                           lossAction := p.lossAction }
    ∧ t.ssch.min = .running (s.microseconds + p.pminEff)
    ∧ t.ssch.deadline = .running (s.microseconds + p.pmaxEff)
    ∧ t.ssch.freeRun = .running (s.microseconds + p.freeRun)
    ∧ t.ssch.stopRequested = s.ssch.stopRequested
    ∧ t.ssch.pending = (match r with
        | .chase _ => none
        | .arrival _ => s.ssch.pending
        | .plan _ _ => s.ssch.pending
        | .deadline => s.ssch.pending
        | .freeRun => s.ssch.pending)
    ∧ t.ssch.overtaken = (if fresh then 0 else s.ssch.overtaken)
    ∧ t.seng.sequence = s.seng.sequence + 1 ∧ t.seng.output = .scanning ∧ t.seng.pipeline = []
    ∧ t.seng.readAhead = [] ∧ t.seng.previous = none
    ∧ (∃ sc, t.seng.scan = some sc ∧ sc.sequence = s.seng.sequence ∧ sc.startTime = s.pacingTime
        ∧ sc.interval = (if s.ssch.runStarted then s.ssch.lastStart.map fun last => s.pacingTime - last else none)
        ∧ sc.profile = tbc.active.profile ∧ sc.width = p.width ∧ sc.lines = p.lines ∧ sc.lineTime = p.lineTime
        ∧ sc.fill = tbc.active.fill ∧ sc.marker = s.tbc.commitPending ∧ sc.nextLine = 0 ∧ sc.nextOut = 0
        ∧ sc.patched = 0 ∧ sc.overtaken = (if fresh then some s.ssch.overtaken else none)
        ∧ t.panel.header = some (scanHeader sc.kind sc.sequence sc.interval sc.profile)
        ∧ sc.timingBase = s.clock + 3 * p.lineTime ∧ sc.timingFrom = 0
        ∧ t.outputDue sc = if sc.kind = .live ∧ sc.patchFrom = none ∧ 0 < p.lines then none
            else some (s.clock + 4 * p.lineTime))
    ∧ t.ocmp = { target := some 0, cache := [] }
    ∧ t.ocap = (if s.ocap.back = .ready then
        { s.ocap with front := if s.ocap.front = .a then .b else .a, frontImage := true, back := .idle } else s.ocap)
    ∧ t.zsu = (if s.zsu.state = .armed ∧ (s.zsu.config.freshOnly = false ∨ fresh = true) then
        { s.zsu with
          state := .measuring
          accumulators := s.zsu.accumulators.mapIdx fun z a =>
            if s.zsu.config.first ≤ z ∧ z ≤ s.zsu.config.last then ZoneAcc.zero else a }
        else s.zsu)
    ∧ (s.tbc.commitPending.isSome = true → (t.evu.source .commitTaken).pending = true)
    ∧ (s.tbc.commitPending = none → t.evu.source .commitTaken = s.evu.source .commitTaken)
    ∧ (∀ event, event ≠ .commitTaken → event ≠ .stall → event ≠ .lagHigh →
        t.evu.source event = s.evu.source event)
    ∧ t.evu = { s.evu with sources := t.evu.sources }
    ∧ t = { s with
        tbc := t.tbc, crp := t.crp, ssch := t.ssch, seng := t.seng, panel := t.panel, ocap := t.ocap, ocmp := t.ocmp,
        zsu := t.zsu, evu := t.evu, free := t.free }

/-- The slot of a frame is the lowest whose record holds it (R65, R70). What a scan shows, by what started it (R70, R71,
R92, R97): an LFS a LIVE scan of its frame; a chase a DEFERRED scan of the pending frame's slot, patched from line 0
when the slot holds another format; a plan point, a deadline or a free-run expiry a REPEAT of the latest slot when it
has the format in force, and otherwise a FILL scan; and a free-run expiry with the kept loss action FILL a FILL scan. -/
def Obligations.ScanShown : Prop :=
  (∀ (c : Capu) (frame : Word) (i : SlotId),
    c.slotOf frame = some i ↔ c.slots[i].frame = some frame ∧ ∀ j : SlotId, j < i → c.slots[j].frame ≠ some frame)
  ∧ ∀ (r : StartReason) (s : State) (sc : Scan), (s.startScan r).seng.scan = some sc →
    let p := s.pru.table[(s.startScan r).tbc.active.profile].profile
    let fits : SlotId → Prop := fun i => s.capu.slots[i].width = p.width ∧ s.capu.slots[i].lines = p.lines
    let isFill := sc.kind = .fill ∧ sc.source = .fillColour ∧ sc.scanSource = none ∧ sc.frame = none
      ∧ sc.patchFrom = none
    let isRepeat := (∀ i, s.capu.latest = some i → fits i →
        sc.kind = .repeated ∧ sc.source = .slot i ∧ sc.scanSource = some i ∧ sc.frame = s.capu.slots[i].frame
        ∧ sc.patchFrom = none)
      ∧ ((∀ i, s.capu.latest = some i → ¬ fits i) → isFill)
    match r with
    | .arrival frame =>
      sc.kind = .live ∧ sc.cause = .arrival ∧ sc.source = .liveStream ∧ sc.scanSource = none ∧ sc.frame = some frame
      ∧ sc.patchFrom = none
    | .chase f =>
      sc.kind = .deferred ∧ sc.cause = .chase ∧ sc.frame = some f.frame
      ∧ ∀ i, s.capu.slotOf f.frame = some i →
          sc.source = .slot i ∧ sc.scanSource = some i
          ∧ (fits i → sc.patchFrom = none) ∧ (¬ fits i → sc.patchFrom = some 0)
    | .plan _ _ => sc.cause = .plan ∧ isRepeat
    | .deadline => sc.cause = .deadline ∧ isRepeat
    | .freeRun =>
      sc.cause = .freeRun
      ∧ ((∃ k, s.ssch.kept = some k ∧ k.lossAction = .fill) → isFill)
      ∧ (¬ (∃ k, s.ssch.kept = some k ∧ k.lossAction = .fill) → isRepeat)

/-- CRP at a scan start (R54, R56, R58, R62, R63, R77). A fresh scan makes a new plan from E as its reports leave it,
its record carries that E, that plan's m and the lag, and LAG_HIGH is raised exactly when the threshold is not 0 and the
lag is above it. A DEFERRED start makes its plan from E as it stood, or INVALID after a commit that changes the format.
Any other scan's record carries E and m as they stood, with no lag; such a start leaves CRP as it was, but for the
invalidation by a commit that changes the format, and, at a plan point with repeats remaining, the withdrawal that a
commit taken there brings. SSCH's plan indication is NOT EMPTY exactly when the plan has repeats remaining, from a state
where it was so; whatever it was, it follows each change of the plan between empty and not (R61, R68). (At a LIVE start
the commit report comes before the scan report: the model's choice, log 47. An LFS that follows at the same instant may
still come before these reports: log 37, stated in LfsTaken; the order at a LIVE start that takes a commit is log 12,
and E there is in LfsTaken. An LFS that SSCH took before this start at the same instant has its report before all of
these: the model's choice, log 49 for a commit's report, log 50 for the record's E.) -/
def Obligations.ScanCadence : Prop :=
  ∀ (r : StartReason) (s : State) (sc : Scan), (s.startScan r).seng.scan = some sc →
    let t := s.startScan r
    let p := s.pru.table[t.tbc.active.profile].profile
    let old := s.pru.table[s.tbc.active.profile].profile
    let changes : Bool := s.tbc.commitPending.isSome
      && (old.width != p.width || old.lines != p.lines || old.lineTime != p.lineTime)
    let cleared : Plan := { spacing := 0, multiplier := 1, next := none, remaining := 0, timer := none }
    let base : Crp :=
      if changes then
        { newest := s.crp.newest, lastLfs := none, estimate := none, stalled := false, plan := cleared, raised := none }
      else s.crp
    let freshWith : Word → Prop := fun lfsTime =>
      let m := planMultiplier t.crp.estimate p
      let d := planSpacing t.crp.estimate p
      let lag := (s.pacingTime - lfsTime).toNat + 4 * p.lineTime / 1000
      t.crp.plan = (if m = 1 then { spacing := d, multiplier := 1, next := none, remaining := 0, timer := none }
        else { spacing := d, multiplier := m, next := some (s.pacingTime + BitVec.ofNat 32 d), remaining := m - 1,
               timer := some (s.microseconds + d) })
      ∧ t.crp.raised = none
      ∧ sc.estimate = t.crp.estimate ∧ sc.multiplier = t.crp.plan.multiplier ∧ sc.lag = some lag
      ∧ t.evu.source .lagHigh =
          if p.lagThreshold ≠ 0 ∧ p.lagThreshold < lag then { s.evu.source .lagHigh with pending := true }
          else s.evu.source .lagHigh
    let report : Plan → Plan → Bool → Bool := fun before after shown =>
      if before.remaining = 0 ∧ after.remaining ≠ 0 then false
      else if before.remaining ≠ 0 ∧ after.remaining = 0 then true else shown
    let shown : Bool := if changes then report s.crp.plan cleared s.ssch.planEmpty else s.ssch.planEmpty
    let asItStood : Prop := sc.estimate = s.crp.estimate ∧ sc.multiplier = s.crp.plan.multiplier ∧ sc.lag = none
      ∧ t.evu.source .lagHigh = s.evu.source .lagHigh ∧ t.evu.source .stall = s.evu.source .stall
    t.ssch.planEmpty = report base.plan t.crp.plan shown
    ∧ (s.ssch.planEmpty = decide (s.crp.plan.remaining = 0) → t.ssch.planEmpty = decide (t.crp.plan.remaining = 0))
    ∧ match r with
    | .arrival _ => freshWith s.pacingTime
    | .chase f =>
      freshWith f.lfsTime ∧ t.crp = { base with plan := t.crp.plan, raised := none }
        ∧ t.evu.source .stall = s.evu.source .stall
    | .plan point remaining =>
      asItStood ∧ t.crp =
        if s.tbc.commitPending.isSome = true ∧ 1 ≤ remaining ∧ base.raised = some point then
          { base with plan := cleared, raised := none }
        else base
    | .deadline => asItStood ∧ t.crp = base
    | .freeRun => asItStood ∧ t.crp = base

/-- The three scheduler timers' expiries (R67, R75, R78, R79). MIN in HOLD starts a DEFERRED scan of a pending frame, and
with none pending opens, where an EXPIRED timer that becomes active is taken; DEADLINE starts a scan in OPEN with the link
LOCKED and the plan indication EMPTY; FREE-RUN in OPEN with the link DOWN; in every other case the timer only becomes
EXPIRED. An expiry that is not due changes nothing but the time (log 3). The cases that no run reaches, an OPEN with MIN
running and a HOLD with MIN EXPIRED, are left out. -/
def Obligations.TimerExpiries : Prop :=
  (∀ (dt due : Nat) (s : State), s.pins.reset = false → s.microsAfter dt < due →
    (s.ssch.min = .running due → exec (.minExpiry dt) s = .next (s.after dt).serve)
    ∧ (s.ssch.deadline = .running due → exec (.deadlineExpiry dt) s = .next (s.after dt).serve)
    ∧ (s.ssch.freeRun = .running due → exec (.freeRunExpiry dt) s = .next (s.after dt).serve))
  ∧ ∀ (dt due : Nat) (s : State), s.pins.reset = false → due ≤ s.microsAfter dt →
    (s.ssch.min = .running due → s.ssch.state ≠ .opened →
      let u : State := { s with clock := s.clock + dt, ssch := { s.ssch with min := .expired due } }
      let v : State := { u with ssch := { u.ssch with state := .opened } }
      exec (.minExpiry dt) s = .next (
        if s.ssch.state = .hold then
          match s.ssch.pending with
          | some p => (u.startScan (.chase p)).serve
          | none =>
            if s.lrx.link = .locked ∧ s.ssch.planEmpty = true ∧ s.ssch.deadline.isExpired = true then
              (v.startScan .deadline).serve
            else if s.lrx.link = .down ∧ s.ssch.freeRun.isExpired = true then (v.startScan .freeRun).serve
            else v.serve
        else u.serve))
    ∧ (s.ssch.deadline = .running due → (s.ssch.state = .hold → s.ssch.min.isExpired = false) →
        (s.ssch.state = .opened → s.lrx.link = .down → s.ssch.freeRun.isExpired = false) →
      let u : State := { s with clock := s.clock + dt, ssch := { s.ssch with deadline := .expired due } }
      exec (.deadlineExpiry dt) s = .next (
        if s.ssch.state = .opened ∧ s.lrx.link = .locked ∧ s.ssch.planEmpty = true then (u.startScan .deadline).serve
        else u.serve))
    ∧ (s.ssch.freeRun = .running due → (s.ssch.state = .hold → s.ssch.min.isExpired = false) →
        (s.ssch.state = .opened → s.lrx.link = .locked → s.ssch.planEmpty = true →
          s.ssch.deadline.isExpired = false) →
      let u : State := { s with clock := s.clock + dt, ssch := { s.ssch with freeRun := .expired due } }
      exec (.freeRunExpiry dt) s = .next (
        if s.ssch.state = .opened ∧ s.lrx.link = .down then (u.startScan .freeRun).serve else u.serve))

/-- PLAN_TIMER_EXPIRY at a plan point (R59, R61, R68, R76, R77): the plan advances whatever the scheduler does; in OPEN a
repeat starts (also with none remaining and DEADLINE already EXPIRED: the model's choice, log 39); in HOLD with repeats
remaining the point is withdrawn and the plan cleared; in SCAN and OFF the point is dropped. -/
def Obligations.PlanTimer : Prop :=
  ∀ (dt due : Nat) (point : Word) (s : State), s.pins.reset = false →
    s.crp.plan.next = some point → s.crp.plan.timer = some due → due ≤ s.microsAfter dt →
    let left := s.crp.plan.remaining - 1
    let plan : Plan :=
      if 1 < s.crp.plan.remaining then
        { s.crp.plan with remaining := left, next := some (point + BitVec.ofNat 32 s.crp.plan.spacing),
                          timer := some (due + s.crp.plan.spacing) }
      else { s.crp.plan with remaining := 0, next := none, timer := none }
    let u : State := { s with
      clock := s.clock + dt
      crp := { s.crp with plan := plan, raised := some point }
      ssch := { s.ssch with planEmpty := s.ssch.planEmpty || left == 0 } }
    exec (.planTimerExpiry dt) s = .next (
      if s.ssch.state = .opened then (u.startScan (.plan point left)).serve
      else if s.ssch.state = .hold ∧ 1 ≤ left then
        ({ u with
          crp := { s.crp with
            plan := { spacing := 0, multiplier := 1, next := none, remaining := 0, timer := none }, raised := none }
          ssch := { s.ssch with planEmpty := true } } : State).serve
      else u.serve)

/-- START, STOP and RESET_CADENCE (R55, R66, R67, R68, R81 to R85, R103, R105, R131). START in STANDBY with the fuse
engine not locking and a VALID active profile makes the device RUNNING with the output blanking: the first time the
scheduler is OPEN with DEADLINE and FREE-RUN running; later it is HOLD while the minimum timer runs, and OPEN once it
has expired, where a DEADLINE or FREE-RUN that is EXPIRED and active starts a scan at once, which keeps the profile kept
before it for a COMMIT of that instant (log 52, CommitDecided). STOP in HOLD or OPEN reaches OFF at once; in SCAN it
sets stop-requested, and a second STOP cuts the scan short with its record, where LIVE lines handed on and not yet left
do not leave (the model's choice, log 43), and reaches OFF; when its last line had left and its end was due, that end is
whole or cut short, and which is free (log 44). Reaching OFF clears the plan and takes a pending commit; with no scan in
flight the capture, the log, the statistics and the overlay cache stay, and in every case the last start, the kept
profile and the timers. RESET_CADENCE invalidates E and clears the plan, and a DEADLINE or FREE-RUN that is EXPIRED and
active in OPEN then starts a scan. (A HOLD with the minimum timer EXPIRED, which no run reaches, is left out of
RESET_CADENCE.) -/
def Obligations.StartStop : Prop :=
  ∀ (dt : Nat) (tag : Byte) (s : State), s.takesCommand → SchedulerInv s →
    (s.dctl ≠ .standby → exec (.start dt tag) s = .next (s.answered dt tag 0x01 .wrongState []))
    ∧ (s.dctl = .standby → s.lfb.engine.isLocking = true →
        exec (.start dt tag) s = .next (s.answered dt tag 0x01 .fuseBusy []))
    ∧ (s.dctl = .standby → s.lfb.engine.isLocking = false →
        s.pru.table[s.tbc.active.profile].state ≠ .valid →
        exec (.start dt tag) s = .next (s.answered dt tag 0x01 .badProfile []))
    ∧ (s.dctl = .standby → s.lfb.engine.isLocking = false → s.pru.table[s.tbc.active.profile].state = .valid →
        let p := s.pru.table[s.tbc.active.profile].profile
        let now := s.microsAfter dt
        let u : State := { s with dctl := .running, seng := { s.seng with output := .blanking } }
        let opening : State → State := fun w => { w with
          seng := { w.seng with scan := w.seng.scan.map fun sc => { sc with opening := s.ssch.kept } } }
        (s.ssch.lastStart = none →
          exec (.start dt tag) s = .next (({ u with
            ssch := { s.ssch with
              state := .opened, runStarted := false
              kept := some { pminEff := p.pminEff, pmaxEff := p.pmaxEff, freeRun := p.freeRun,
                             lossAction := p.lossAction }
              min := .expired now, deadline := .running (now + p.pmaxEff), freeRun := .running (now + p.freeRun) }
            : State }.answered dt tag 0x01 .ok []).serve))
        ∧ (∀ last, s.ssch.lastStart = some last → s.ssch.min.isExpired = false →
          exec (.start dt tag) s = .next (({ u with
            ssch := { s.ssch with state := .hold, runStarted := false } : State }.answered dt tag 0x01 .ok []).serve))
        ∧ (∀ last, s.ssch.lastStart = some last → s.ssch.min.isExpired = true →
          ¬ (s.lrx.link = .locked ∧ s.ssch.planEmpty = true ∧ s.ssch.deadline.isExpired = true) →
          ¬ (s.lrx.link = .down ∧ s.ssch.freeRun.isExpired = true) →
          exec (.start dt tag) s = .next (({ u with
            ssch := { s.ssch with state := .opened, runStarted := false } : State }.answered dt tag 0x01 .ok []).serve))
        ∧ (∀ last, s.ssch.lastStart = some last → s.ssch.min.isExpired = true →
          let v : State := { u with
            clock := s.clock + dt, ssch := { s.ssch with state := .opened, runStarted := false } }
          (s.lrx.link = .locked → s.ssch.planEmpty = true → s.ssch.deadline.isExpired = true →
            exec (.start dt tag) s = .next ((opening (v.startScan .deadline)).answered 0 tag 0x01 .ok []).serve)
          ∧ (s.lrx.link = .down → s.ssch.freeRun.isExpired = true →
            exec (.start dt tag) s = .next ((opening (v.startScan .freeRun)).answered 0 tag 0x01 .ok []).serve)))
    ∧ (s.ssch.state = .off → exec (.stop dt tag) s = .next (s.answered dt tag 0x02 .wrongState []))
    ∧ (s.ssch.state = .scan → s.ssch.stopRequested = false →
        exec (.stop dt tag) s = .next
          ({ s with ssch := { s.ssch with stopRequested := true } : State }.answered dt tag 0x02 .ok []))
    ∧ (s.ssch.state = .hold ∨ s.ssch.state = .opened ∨ s.ssch.state = .scan ∧ s.ssch.stopRequested = true →
        ∃ t, exec (.stop dt tag) s = .next t ∧ t.dctl = .standby ∧ t.ssch.state = .off
          ∧ t.ssch.stopRequested = false ∧ t.ssch.pending = none ∧ t.ssch.overtaken = 0 ∧ t.seng.scan = none
          ∧ t.seng.output = .idle ∧ t.crp.plan.remaining = 0 ∧ t.tbc.commitPending = none
          ∧ t.rct.queue = s.rct.queue ++ [{ tag := tag, code := 0x02, status := .ok, payload := [] }]
          ∧ (∀ m, s.tbc.commitPending = some m → t.tbc.active = s.tbc.shadow ∧ t.tbc.lastMarker = m)
          ∧ (∀ sc, s.seng.scan = some sc → t.frl = s.frl.add sc.record)
          ∧ t = { s with
              clock := s.clock + dt, capu := t.capu, marb := t.marb, crp := t.crp, ssch := t.ssch, seng := t.seng,
              ocmp := t.ocmp, tbc := t.tbc, zsu := t.zsu, frl := t.frl, rct := t.rct, evu := t.evu,
              dctl := .standby, free := t.free })
    ∧ (s.ssch.state = .hold ∨ s.ssch.state = .opened →
        exec (.stop dt tag) s = .next ((s.after dt).offReached.answered 0 tag 0x02 .ok []).serve)
    ∧ (s.ssch.state = .scan → s.ssch.stopRequested = true → ∀ sc, s.seng.scan = some sc →
        let ended : Prop := sc.lines ≤ sc.nextOut ∧ ∃ due, s.outputDue sc = some due ∧ due ≤ s.clock + dt
        let stopped : Bool → State → State := fun cut u =>
          ((u.scanOver cut sc).offReached.answered 0 tag 0x02 .ok []).serve
        let drawn : State := { s with clock := s.clock + dt, free := s.free + 1 }
        (¬ ended → exec (.stop dt tag) s = .next (stopped true (s.after dt)))
        ∧ (ended →
            exec (.stop dt tag) s = .next (stopped true drawn) ∨ exec (.stop dt tag) s = .next (stopped false drawn)))
    ∧ ((s.ssch.state = .hold → s.ssch.min.isExpired = false) →
        let shown : Bool := if s.crp.plan.remaining = 0 then s.ssch.planEmpty else true
        let v : State := { s with
          clock := s.clock + dt
          crp := { newest := s.crp.newest, lastLfs := none, estimate := none, stalled := false, raised := none
                   plan := { spacing := 0, multiplier := 1, next := none, remaining := 0, timer := none } }
          ssch := { s.ssch with planEmpty := shown } }
        let w : State :=
          if s.ssch.state = .opened ∧ s.lrx.link = .locked ∧ shown = true ∧ s.ssch.deadline.isExpired = true then
            v.startScan .deadline
          else if s.ssch.state = .opened ∧ s.lrx.link = .down ∧ s.ssch.freeRun.isExpired = true then
            v.startScan .freeRun
          else v
        exec (.resetCadence dt tag) s = .next (w.answered 0 tag 0x20 .ok []).serve)

/-- OUTPUT_TIME (R80, R92, R93, R94, R96, R98, R99, R100, R102, R123, R134). With no scan, or with nothing due, nothing
leaves (before its time: the model's choice, log 3); a line in the pipeline leaves at its due time (log 19) through the
output path; a line of a slot leaves from the read-ahead buffer, or, late, as the previous line, counted as patched; a
line of a FILL scan is the fill colour; line n of a scan in own timing is due n + 4 line times after its start, and a
LIVE scan's only once it is handed on; a patched line comes from its patch source, or is the fill colour, and is
counted; a DEFERRED scan that overtakes its slot (the line is not counted in lines received, or not delivered: log 23)
is patched from that line on, its patch read requested at the switch and granted at an idle port. A line that is not a
coupled one becomes the previous line; read-ahead entries of lines that left are discarded, a late line's waiting read
is withdrawn, and a waiting overlay read stays only in the new target's set. Every line that leaves is taken by the
statistics as it left, and the next line, if there is one, becomes the overlay target; after the last line there is no
target, and no overlay read waits (the model's choice, log 32). One line time after the last line the scan ends (log
17): its record joins the log, its slot is let go, a measurement of it posts its set, the overlay cache is empty, and
the scheduler is in HOLD, where a minimum timer already EXPIRED is taken, or OFF when a stop was requested. -/
def Obligations.OutputTime : Prop :=
  ∀ (dt : Nat) (s : State), s.pins.reset = false →
    (s.seng.scan = none → exec (.outputTime dt) s = .next (s.after dt).serve)
    ∧ ∀ sc, s.seng.scan = some sc →
      (∀ l rest, s.seng.pipeline = l :: rest → s.outputDue sc = some l.due)
      ∧ (s.seng.pipeline = [] → s.outputDue sc =
          if sc.kind = .live ∧ sc.patchFrom = none ∧ sc.nextOut < sc.lines then none
          else some (sc.timingBase + (sc.nextOut + 1 - sc.timingFrom) * sc.lineTime))
      ∧ (∀ start, s.seng.pipeline = [] → sc.timingFrom = 0 → sc.timingBase = start + 3 * sc.lineTime →
          ¬ (sc.kind = .live ∧ sc.patchFrom = none ∧ sc.nextOut < sc.lines) →
          s.outputDue sc = some (start + (sc.nextOut + 4) * sc.lineTime))
      ∧ (∀ due, s.outputDue sc = some due → s.clock + dt < due → exec (.outputTime dt) s = .next (s.after dt).serve)
      ∧ (s.outputDue sc = none → exec (.outputTime dt) s = .next (s.after dt).serve)
      ∧ (∀ l rest, s.seng.pipeline = l :: rest → l.due ≤ s.clock + dt → sc.nextOut < sc.lines →
          ∃ t sc', exec (.outputTime dt) s = .next t
            ∧ t.panel = { s.panel with line := some (sc.nextOut, (s.after dt).composeLine sc sc.nextOut l.pixels) }
            ∧ t.seng.pipeline = rest ∧ t.seng.previous = s.seng.previous ∧ t.seng.scan = some sc'
            ∧ sc'.nextOut = sc.nextOut + 1 ∧ sc'.patched = sc.patched ∧ t.evu = s.evu
            ∧ t.zsu = s.zsu.takeLine sc.width sc.lines sc.nextOut
                ((s.after dt).composeLine sc sc.nextOut l.pixels)
            ∧ t = { s with
                clock := s.clock + dt, panel := t.panel, zsu := t.zsu, marb := t.marb, seng := t.seng, ocmp := t.ocmp,
                free := t.free }
            ∧ t = ((s.after dt).lineLeft sc l.pixels false true).serve)
      ∧ (∀ due e i, s.outputDue sc = some due → due ≤ s.clock + dt → s.seng.pipeline = [] → sc.nextOut < sc.lines →
          (sc.kind = .repeated ∨ s.capu.slots[i].state = .complete
            ∨ sc.nextOut < s.capu.received i ∧ sc.nextOut < s.capu.delivered i) →
          sc.patchFrom = none →
          sc.source = .slot i → sc.scanSource = some i →
          s.seng.readAhead.find? (fun x => x.slot == i && x.line == sc.nextOut) = some e →
          ∃ t sc', exec (.outputTime dt) s = .next t
            ∧ t.panel = { s.panel with line := some (sc.nextOut, (s.after dt).composeLine sc sc.nextOut e.pixels) }
            ∧ t.seng.scan = some sc' ∧ sc'.nextOut = sc.nextOut + 1 ∧ sc'.patched = sc.patched ∧ t.evu = s.evu
            ∧ t.seng.previous = some e.pixels ∧ sc'.nextLine = sc.nextOut + 1
            ∧ t.seng.readAhead = s.seng.readAhead.filter (fun x => decide (sc.nextOut < x.line))
            ∧ t = ((s.after dt).lineLeft sc e.pixels false false).serve)
      ∧ (∀ due i, s.outputDue sc = some due → due ≤ s.clock + dt → s.seng.pipeline = [] → sc.nextOut < sc.lines →
          (sc.kind = .repeated ∨ s.capu.slots[i].state = .complete
            ∨ sc.nextOut < s.capu.received i ∧ sc.nextOut < s.capu.delivered i) →
          sc.patchFrom = none →
          sc.source = .slot i → sc.scanSource = some i →
          s.seng.readAhead.find? (fun x => x.slot == i && x.line == sc.nextOut) = none →
          ∃ t sc', exec (.outputTime dt) s = .next t
            ∧ t.panel = { s.panel with line := some (sc.nextOut, (s.after dt).composeLine sc sc.nextOut
                (s.seng.previous.getD (List.replicate sc.width sc.fill))) }
            ∧ t.seng.scan = some sc' ∧ sc'.nextOut = sc.nextOut + 1 ∧ sc'.patched = sc.patched + 1
            ∧ (sc.patchReported = false → t.evu = s.evu.raise .linesPatched)
            ∧ (sc.patchReported = true → t.evu = s.evu)
            ∧ t.seng.previous = some (s.seng.previous.getD (List.replicate sc.width sc.fill))
            ∧ sc'.nextLine = sc.nextOut + 1
            ∧ t.seng.readAhead = s.seng.readAhead.filter (fun x => decide (sc.nextOut < x.line))
            ∧ t.marb.scanRead ≠ some (i, sc.nextOut)
            ∧ t = ((s.after dt).lineLeft sc (s.seng.previous.getD (List.replicate sc.width sc.fill)) true false).serve)
      ∧ (∀ due, s.outputDue sc = some due → due ≤ s.clock + dt → s.seng.pipeline = [] → sc.nextOut < sc.lines →
          sc.kind = .fill → sc.source = .fillColour → sc.patchFrom = none →
          ∃ t sc', exec (.outputTime dt) s = .next t
            ∧ t.panel = { s.panel with line := some (sc.nextOut, (s.after dt).composeLine sc sc.nextOut
                (List.replicate sc.width sc.fill)) }
            ∧ t.seng.scan = some sc' ∧ sc'.nextOut = sc.nextOut + 1 ∧ sc'.patched = sc.patched ∧ t.evu = s.evu
            ∧ t.seng.previous = some (List.replicate sc.width sc.fill) ∧ sc'.nextLine = sc.nextOut + 1
            ∧ t = ((s.after dt).lineLeft sc (List.replicate sc.width sc.fill) false false).serve)
      ∧ (∀ due k, s.outputDue sc = some due → due ≤ s.clock + dt → s.seng.pipeline = [] → sc.nextOut < sc.lines →
          sc.patchFrom = some k → k ≤ sc.nextOut →
          ∃ t sc' pixels, exec (.outputTime dt) s = .next t
            ∧ (sc.choice sc.nextOut = none → pixels = List.replicate sc.width sc.fill)
            ∧ (∀ j e, sc.choice sc.nextOut = some j →
                s.seng.readAhead.find? (fun x => x.slot == j && x.line == sc.nextOut) = some e → pixels = e.pixels)
            ∧ (∀ j, sc.choice sc.nextOut = some j →
                s.seng.readAhead.find? (fun x => x.slot == j && x.line == sc.nextOut) = none →
                pixels = s.seng.previous.getD (List.replicate sc.width sc.fill))
            ∧ t.panel = { s.panel with line := some (sc.nextOut, (s.after dt).composeLine sc sc.nextOut pixels) }
            ∧ t.seng.previous = some pixels
            ∧ t.seng.scan = some sc' ∧ sc'.nextOut = sc.nextOut + 1 ∧ sc'.patched = sc.patched + 1
            ∧ (sc.patchReported = false → t.evu = s.evu.raise .linesPatched)
            ∧ (sc.patchReported = true → t.evu = s.evu)
            ∧ sc'.nextLine = sc.nextOut + 1
            ∧ (∀ j, sc.choice sc.nextOut = some j → t.marb.scanRead ≠ some (j, sc.nextOut))
            ∧ t = ((s.after dt).lineLeft sc pixels true false).serve)
      ∧ (∀ due i, s.outputDue sc = some due → due ≤ s.clock + dt → s.seng.pipeline = [] → sc.nextOut < sc.lines →
          sc.kind = .deferred → sc.patchFrom = none → sc.choices = [] → sc.nextLine = sc.nextOut →
          sc.scanSource = some i → s.capu.slots[i].state = .filling →
          s.capu.received i ≤ sc.nextOut ∨ s.capu.delivered i ≤ sc.nextOut →
          let fits : SlotId → Prop := fun j => sc.scanSource ≠ some j ∧ s.capu.slots[j].width = sc.width
            ∧ s.capu.slots[j].lines = sc.lines
          ∃ t sc' pixels, exec (.outputTime dt) s = .next t
            ∧ (∀ j, s.capu.latest = some j → fits j →
                pixels = s.seng.previous.getD (List.replicate sc.width sc.fill))
            ∧ ((∀ j, s.capu.latest = some j → ¬ fits j) → pixels = List.replicate sc.width sc.fill)
            ∧ t.panel = { s.panel with line := some (sc.nextOut, (s.after dt).composeLine sc sc.nextOut pixels) }
            ∧ t.seng.scan = some sc' ∧ sc'.patchFrom = some sc.nextOut ∧ sc'.nextOut = sc.nextOut + 1
            ∧ sc'.patched = sc.patched + 1
            ∧ (sc.patchReported = false → t.evu = s.evu.raise .linesPatched)
            ∧ (sc.patchReported = true → t.evu = s.evu)
            ∧ t.seng.previous = some pixels ∧ sc'.nextLine = sc.nextOut + 1 ∧ t.seng.readAhead = []
            ∧ (∀ j, s.capu.latest = some j → fits j → t.marb.scanRead ≠ some (j, sc.nextOut))
            ∧ (let switched : Scan := Scan.withChoices { sc with patchFrom := some sc.nextOut } s.capu
               let u : State := { s with
                 clock := s.clock + dt, seng := { s.seng with scan := some switched, readAhead := [] } }
               t = (u.serve.lineLeft switched pixels true false).serve)
            ∧ (∀ j, s.capu.latest = some j → fits j →
                s.marb.transfer = none → s.marb.maintenance = .none → s.dctl.isLoading = false →
                s.marb.captureWrite = none → s.marb.scanRead = none → s.capu.buffer = [] →
                s.overlayReadDesire = none →
                t.marb.transfer = some (.scanRead j sc.nextOut true)))
      ∧ (∀ due, s.outputDue sc = some due → due ≤ s.clock + dt → sc.nextOut < sc.lines →
          ∃ t out sc', exec (.outputTime dt) s = .next t
            ∧ t.seng.scan = some sc' ∧ sc'.nextOut = sc.nextOut + 1 ∧ sc'.timingBase = sc.timingBase
            ∧ sc'.timingFrom = sc.timingFrom ∧ sc'.lineTime = sc.lineTime ∧ sc'.lines = sc.lines ∧ sc'.kind = sc.kind
            ∧ (∀ e ∈ t.seng.readAhead, e ∈ s.seng.readAhead ∧ sc.nextOut < e.line)
            ∧ (∀ r ∈ t.marb.overlayRead, sc.nextOut + 1 < sc.lines ∧ r.2 ∈ s.lineSet sc (sc.nextOut + 1))
            ∧ t.panel = { s.panel with line := some (sc.nextOut, out) }
            ∧ t.zsu = s.zsu.takeLine sc.width sc.lines sc.nextOut out
            ∧ t.ocmp = (if sc.nextOut + 1 < sc.lines then
                { target := some (sc.nextOut + 1)
                  cache := s.ocmp.cache.filter fun c => decide (c.1 ∈ s.lineSet sc (sc.nextOut + 1)) }
                else { s.ocmp with target := none })
            ∧ t = { s with
                clock := s.clock + dt, panel := t.panel, zsu := t.zsu, marb := t.marb, seng := t.seng, ocmp := t.ocmp,
                evu := t.evu, free := t.free })
      ∧ (∀ due, s.outputDue sc = some due → due ≤ s.clock + dt → sc.lines ≤ sc.nextOut →
          (s.ssch.stopRequested = true ∨ s.ssch.min.isExpired = false) →
          ∃ t, exec (.outputTime dt) s = .next t
            ∧ t.frl = s.frl.add
                { sequence := sc.sequence, kind := sc.kind, cause := sc.cause, startTime := sc.startTime,
                  interval := sc.interval, frame := sc.frame, lag := sc.lag, overtaken := sc.overtaken,
                  patched := sc.patched, profile := sc.profile, marker := sc.marker, estimate := sc.estimate,
                  multiplier := sc.multiplier }
            ∧ t.seng.scan = none ∧ t.seng.pipeline = [] ∧ t.seng.readAhead = [] ∧ t.seng.sequence = s.seng.sequence
            ∧ (∀ i, sc.scanSource = some i → s.capu.fill ≠ some i → s.capu.latest ≠ some i →
                t.capu.slots[i] = SlotRecord.emptied)
            ∧ (s.ssch.stopRequested = false →
                t.ssch = { s.ssch with state := .hold } ∧ t.seng.output = .blanking ∧ t.dctl = s.dctl ∧ t.crp = s.crp
                ∧ t.tbc = s.tbc)
            ∧ (s.ssch.stopRequested = true → t.ssch.state = .off ∧ t.seng.output = .idle ∧ t.dctl = .standby))
      ∧ (∀ due, s.outputDue sc = some due → due ≤ s.clock + dt → sc.lines ≤ sc.nextOut →
          let ended := (s.after dt).scanOver false sc
          let held : State := { ended with ssch := { s.ssch with state := .hold } }
          let opened : State := { ended with ssch := { s.ssch with state := .opened } }
          exec (.outputTime dt) s = .next (
            if s.ssch.stopRequested = true then ended.offReached.serve
            else if s.ssch.min.isExpired = true then
              match s.ssch.pending with
              | some p => (held.startScan (.chase p)).serve
              | none =>
                if s.lrx.link = .locked ∧ s.ssch.planEmpty = true ∧ s.ssch.deadline.isExpired = true then
                  (opened.startScan .deadline).serve
                else if s.lrx.link = .down ∧ s.ssch.freeRun.isExpired = true then (opened.startScan .freeRun).serve
                else opened.serve
            else held.serve))

/-- A scan starts only once the minimum timer's time has run: a step that takes the next sequence number for a scan finds
the minimum timer EXPIRED, or running to a time that has come (R67, R69, R75, R82). -/
def Obligations.StartsWaitForMin : Prop :=
  ∀ s t : State, SchedulerInv s → MinInv s → step s = .next t →
    t.seng.scan.isSome = true → t.seng.sequence = s.seng.sequence + 1 →
    ∃ due, (s.ssch.min = .expired due ∨ s.ssch.min = .running due) ∧ due ≤ t.microseconds

/-- Every step from a state with the fuse invariant, of which it needs that an asserted reset line finds LOADING, keeps
RUNNING and OFF, SCAN and the scan in flight, and the panel output state tied together (R86, R105), and the invariant of
the minimum timer (R67, R75). -/
def Obligations.SchedulerKept : Prop :=
  ∀ s t : State, SchedulerInv s → FuseInv s → step s = .next t →
    SchedulerInv t ∧ (MinInv s → MinInv t)

/-- The machine after reset, field by field where the spec gives a value (R10, R21, R34, R37, R49, R65, R89, R108, R112,
R118, R123, R125, R136, R146, R157, R167, R173, R176), with the built-in limits of R35; and it has every invariant. The
fuse words, the bank's lock and the pins of a fresh part are the model's choice (logs 4 to 6) and are not named. -/
def Obligations.ResetInvariants : Prop :=
  MemoryInv State.reset ∧ ProfileInv State.reset ∧ CadenceInv State.reset ∧ SchedulerInv State.reset
    ∧ RecordInv State.reset ∧ PlacesInv State.reset ∧ SlotInv State.reset ∧ BufferInv State.reset
    ∧ FuseInv State.reset ∧ MinInv State.reset ∧ LayoutInv State.reset ∧ CacheInv State.reset
    ∧ Limits.defaults = { floor := 16667, ceiling := 16667, maxLines := 2160, maxWidth := 3840, minLineTime := 3000,
                          peak := 1023, minBlank := 8 }
    ∧ (SlotRecord.emptied = { state := .free, frame := none, linesWritten := 0, width := 0, lines := 0 }
      ∧ ZoneAcc.zero = { maximum := 0, sum := 0, count := 0, bright := 0 }
      ∧ ProfileEntry.blank =
        { state := .empty
          profile :=
            { width := 0, lines := 0, lineTime := 0, minBlank := 0, pmin := 0, pmax := 0, weight := 0, stallLimit := 0
              maxMultiplier := 0, lagThreshold := 0, freeRun := 0, lossAction := .repeatLatest, pminEff := 0
              pmaxEff := 0 } })
    ∧ (State.reset.clock = 0 ∧ State.reset.dctl = .loading 200000 none ∧ State.reset.lfb.engine = .idle
      ∧ State.reset.lrx = { link := .down, frameCounter := 0, check := .closed }
      ∧ State.reset.capu = { slots := Vector.replicate 3 SlotRecord.emptied, fill := none, latest := none, buffer := [] }
      ∧ State.reset.marb = { transfer := none, captureWrite := none, scanRead := none, overlayRead := none
                             overlayWrite := none, maintenance := .none }
      ∧ State.reset.pru.table = Vector.replicate 4 ProfileEntry.blank
      ∧ State.reset.crp =
        { newest := none, lastLfs := none, estimate := none, stalled := false, raised := none
          plan := { spacing := 0, multiplier := 1, next := none, remaining := 0, timer := none } }
      ∧ State.reset.ssch =
        { state := .off, lastStart := none, kept := none, runStarted := false, pending := none, overtaken := 0
          stopRequested := false, planEmpty := true, min := .idle, deadline := .idle, freeRun := .idle }
      ∧ State.reset.seng =
        { sequence := 0, scan := none, pipeline := [], readAhead := [], previous := none, output := .idle }
      ∧ State.reset.ocap =
        { link := .down, phase := .closed, linesSeen := 0, lineOpen := false, front := .a, frontImage := false
          back := .idle, backWritten := 0, buffer := [] }
      ∧ State.reset.ocmp = { target := none, cache := [] }
      ∧ State.reset.zsu =
        { state := .disabled, held := none, accumulators := Vector.replicate 48 ZoneAcc.zero
          config := { first := 0, last := 47, continuous := true, freshOnly := true, threshold := 900 } }
      ∧ State.reset.frl = { ring := [], next := 0, cursor := none }
      ∧ State.reset.rct.queue = [] ∧ State.reset.pending = [])
    ∧ (let bank := State.reset.tbc.active
      State.reset.tbc = { active := bank, shadow := bank, commitPending := none, lastMarker := 0 }
      ∧ (∀ k : Fin 65, bank.red[k] = BitVec.ofNat 12 (min (64 * k.val) 4095)
          ∧ bank.green[k] = bank.red[k] ∧ bank.blue[k] = bank.red[k])
      ∧ (∀ i : Fin 8, bank.regions[i] =
          { level := 0, sourceX := 0, sourceY := 0, width := 960, height := 540, destX := 0, destY := 0, zoom := 1
            globalAlpha := 255, flat := false })
      ∧ bank.fill = { red := 0, green := 0, blue := 0 } ∧ bank.profile = 0)
    ∧ State.reset.evu.sources.toList = ([2, 6, 3, 4, 2, 1, 1, 3, 0, 2, 5, 3, 2, 1].map fun level =>
        { pending := false, noticed := false, level := level, route := .notice })
    ∧ State.reset.evu.noticeThreshold = 0 ∧ State.reset.evu.attentionThreshold = 7

/-! ### The output path -/

/-- The tone curves: i = floor (x / 16), f = x - 16 i, y12 from the two points, out = floor ((y12 + 2) / 4) lowered to
1023, each channel through its own curve; and the identity curve maps every code to itself (R107, R108). -/
def Obligations.ToneMap : Prop :=
  (∀ (b : Bank) (p : GamePixel),
    (b.tone p).red = b.red.apply p.red ∧ (b.tone p).green = b.green.apply p.green
      ∧ (b.tone p).blue = b.blue.apply p.blue)
  ∧ (∀ (curve : Curve) (x i f : Nat) (low high : Nat), i < 64 → f < 16 → x = 16 * i + f →
      curve.toList[i]? = some (BitVec.ofNat 12 low) → curve.toList[i + 1]? = some (BitVec.ofNat 12 high) →
      low < 4096 → high < 4096 →
      let y12 := (low * (16 - f) + high * f + 8) / 16
      min low high ≤ y12 ∧ y12 ≤ max low high
      ∧ (curve.apply (BitVec.ofNat 10 x)).toNat = if (y12 + 2) / 4 = 1024 then 1023 else (y12 + 2) / 4)
  ∧ ∀ x : BitVec 10, Curve.identity.apply x = x

/-- The output path of a pixel: tone curves, then the drawn regions blended from the lowest precedence to the highest,
then the cap, by R121's formulas for expansion, alpha and blend where a region covers the pixel; no code leaves above
the peak, and a blended channel lies between the base and the overlay value (R106, R121, R124). The regions are in
precedence order, higher levels first and lower indices first within a level; the line set of an output line is the
first four distinct plane lines of the regions that cover it, in that order, and empty without a front image; a region
is admitted when its plane line is in the set, and drawn when that line is in the cache (R120, R121, R122). The line
that leaves on the panel is its source taken pixel by pixel down this path, with the active bank, the peak in force, the
cached plane lines and the budget of the scan's format; and the overlay's line set is that budget's. -/
def Obligations.OutputPath : Prop :=
  (∀ (b : Bank) (drawn : List (Region × List OverlayPixel)) (peak width x : Nat) (p : GamePixel),
    (outputPixel b drawn peak width x p).red.toNat ≤ peak ∧ (outputPixel b drawn peak width x p).green.toNat ≤ peak
      ∧ (outputPixel b drawn peak width x p).blue.toNat ≤ peak
      ∧ (1023 ≤ peak → drawn = [] → outputPixel b drawn peak width x p = b.tone p))
  ∧ (∀ (b : Bank) (drawn : List (Region × List OverlayPixel)) (peak width x : Nat) (p : GamePixel),
    let lay : GamePixel → Region × List OverlayPixel → GamePixel := fun base d =>
      if d.1.destX ≤ x ∧ x < d.1.destX + d.1.width * d.1.zoom ∧ x < width then
        match d.2[d.1.sourceX + (x - d.1.destX) / d.1.zoom]? with
        | some q =>
          let alpha := if d.1.flat then d.1.globalAlpha else (q.alpha.toNat * d.1.globalAlpha + 127) / 255
          let blend : Byte → BitVec 10 → BitVec 10 := fun value under =>
            BitVec.ofNat 10 (((value.toNat * 4 + value.toNat / 64) * alpha + under.toNat * (255 - alpha) + 127) / 255)
          { red := blend q.red base.red, green := blend q.green base.green, blue := blend q.blue base.blue }
        | none => base
      else base
    let blended := drawn.reverse.foldl lay (b.tone p)
    outputPixel b drawn peak width x p =
      { red := BitVec.ofNat 10 (min blended.red.toNat peak), green := BitVec.ofNat 10 (min blended.green.toNat peak)
        blue := BitVec.ofNat 10 (min blended.blue.toNat peak) })
  ∧ (∀ ov alpha base : Nat, alpha ≤ 255 →
      min ov base ≤ blendChannel ov alpha base ∧ blendChannel ov alpha base ≤ max ov base)
  ∧ (∀ ov base : Nat, blendChannel ov 255 base = ov ∧ blendChannel ov 0 base = base)
  ∧ (∀ (y : Nat) (admitted : List Region) (cache : List (Nat × List OverlayPixel)),
      let line : Region → Nat := fun r => r.sourceY + (y - r.destY) / r.zoom
      (drawnRegions y admitted cache).map (·.1) = admitted.filter (fun r => (cache.lookup (line r)).isSome)
      ∧ ∀ d ∈ drawnRegions y admitted cache, cache.lookup (line d.1) = some d.2)
  ∧ (∀ b : Bank,
      b.precedence.Pairwise (fun r r' => r'.level ≤ r.level)
      ∧ ∀ level, b.precedence.filter (fun r => r.level = level) = b.regions.toList.filter (fun r => r.level = level))
  ∧ (∀ (b : Bank) (width lines y : Nat),
      let line : Region → Nat := fun r => r.sourceY + (y - r.destY) / r.zoom
      let covering := b.precedence.filter fun r =>
        decide (1 ≤ r.level ∧ r.destX < width ∧ 0 < r.width * r.zoom ∧ r.destY ≤ y ∧ y < r.destY + r.height * r.zoom
          ∧ y < lines)
      let set := (covering.map line).eraseDups.take 4
      overlayBudget false b width lines y = ([], [])
      ∧ overlayBudget true b width lines y = (set, covering.filter fun r => decide (line r ∈ set)))
  ∧ (∀ (s : State) (sc : Scan) (y : Nat) (source : List GamePixel),
      let budget := overlayBudget s.ocap.frontImage s.tbc.active sc.width sc.lines y
      s.lineSet sc y = budget.1
      ∧ s.composeLine sc y source =
          source.mapIdx (outputPixel s.tbc.active (drawnRegions y budget.2 s.ocmp.cache) s.pru.limits.peak sc.width))
  ∧ ∀ (y : Nat) (regions : List Region) (set : List Nat), set.length ≤ 4 →
      (admitRegions y regions set).1.length ≤ 4
        ∧ ∀ r ∈ (admitRegions y regions set).2, r.planeLine y ∈ (admitRegions y regions set).1
end

