-- ==== Sys2Proof/Laws/State.lean ====
section
/-! SUPPORT. What each named update of State leaves in each field: one lemma per field per update, true by rfl. -/

namespace Sys2Proof.Machine

section
variable (s : State) (x : Nat)
@[simp] theorem State.setClock_clock : (s.setClock x).clock = x := rfl
@[simp] theorem State.setClock_pins : (s.setClock x).pins = s.pins := rfl
@[simp] theorem State.setClock_lrx : (s.setClock x).lrx = s.lrx := rfl
@[simp] theorem State.setClock_capu : (s.setClock x).capu = s.capu := rfl
@[simp] theorem State.setClock_marb : (s.setClock x).marb = s.marb := rfl
@[simp] theorem State.setClock_pru : (s.setClock x).pru = s.pru := rfl
@[simp] theorem State.setClock_crp : (s.setClock x).crp = s.crp := rfl
@[simp] theorem State.setClock_ssch : (s.setClock x).ssch = s.ssch := rfl
@[simp] theorem State.setClock_seng : (s.setClock x).seng = s.seng := rfl
@[simp] theorem State.setClock_panel : (s.setClock x).panel = s.panel := rfl
@[simp] theorem State.setClock_ocap : (s.setClock x).ocap = s.ocap := rfl
@[simp] theorem State.setClock_ocmp : (s.setClock x).ocmp = s.ocmp := rfl
@[simp] theorem State.setClock_tbc : (s.setClock x).tbc = s.tbc := rfl
@[simp] theorem State.setClock_zsu : (s.setClock x).zsu = s.zsu := rfl
@[simp] theorem State.setClock_frl : (s.setClock x).frl = s.frl := rfl
@[simp] theorem State.setClock_rct : (s.setClock x).rct = s.rct := rfl
@[simp] theorem State.setClock_evu : (s.setClock x).evu = s.evu := rfl
@[simp] theorem State.setClock_lfb : (s.setClock x).lfb = s.lfb := rfl
@[simp] theorem State.setClock_dctl : (s.setClock x).dctl = s.dctl := rfl
@[simp] theorem State.setClock_mem : (s.setClock x).mem = s.mem := rfl
@[simp] theorem State.setClock_free : (s.setClock x).free = s.free := rfl
@[simp] theorem State.setClock_pending : (s.setClock x).pending = s.pending := rfl
end

section
variable (s : State) (x : Pins)
@[simp] theorem State.setPins_clock : (s.setPins x).clock = s.clock := rfl
@[simp] theorem State.setPins_pins : (s.setPins x).pins = x := rfl
@[simp] theorem State.setPins_lrx : (s.setPins x).lrx = s.lrx := rfl
@[simp] theorem State.setPins_capu : (s.setPins x).capu = s.capu := rfl
@[simp] theorem State.setPins_marb : (s.setPins x).marb = s.marb := rfl
@[simp] theorem State.setPins_pru : (s.setPins x).pru = s.pru := rfl
@[simp] theorem State.setPins_crp : (s.setPins x).crp = s.crp := rfl
@[simp] theorem State.setPins_ssch : (s.setPins x).ssch = s.ssch := rfl
@[simp] theorem State.setPins_seng : (s.setPins x).seng = s.seng := rfl
@[simp] theorem State.setPins_panel : (s.setPins x).panel = s.panel := rfl
@[simp] theorem State.setPins_ocap : (s.setPins x).ocap = s.ocap := rfl
@[simp] theorem State.setPins_ocmp : (s.setPins x).ocmp = s.ocmp := rfl
@[simp] theorem State.setPins_tbc : (s.setPins x).tbc = s.tbc := rfl
@[simp] theorem State.setPins_zsu : (s.setPins x).zsu = s.zsu := rfl
@[simp] theorem State.setPins_frl : (s.setPins x).frl = s.frl := rfl
@[simp] theorem State.setPins_rct : (s.setPins x).rct = s.rct := rfl
@[simp] theorem State.setPins_evu : (s.setPins x).evu = s.evu := rfl
@[simp] theorem State.setPins_lfb : (s.setPins x).lfb = s.lfb := rfl
@[simp] theorem State.setPins_dctl : (s.setPins x).dctl = s.dctl := rfl
@[simp] theorem State.setPins_mem : (s.setPins x).mem = s.mem := rfl
@[simp] theorem State.setPins_free : (s.setPins x).free = s.free := rfl
@[simp] theorem State.setPins_pending : (s.setPins x).pending = s.pending := rfl
end

section
variable (s : State) (x : Lrx)
@[simp] theorem State.setLrx_clock : (s.setLrx x).clock = s.clock := rfl
@[simp] theorem State.setLrx_pins : (s.setLrx x).pins = s.pins := rfl
@[simp] theorem State.setLrx_lrx : (s.setLrx x).lrx = x := rfl
@[simp] theorem State.setLrx_capu : (s.setLrx x).capu = s.capu := rfl
@[simp] theorem State.setLrx_marb : (s.setLrx x).marb = s.marb := rfl
@[simp] theorem State.setLrx_pru : (s.setLrx x).pru = s.pru := rfl
@[simp] theorem State.setLrx_crp : (s.setLrx x).crp = s.crp := rfl
@[simp] theorem State.setLrx_ssch : (s.setLrx x).ssch = s.ssch := rfl
@[simp] theorem State.setLrx_seng : (s.setLrx x).seng = s.seng := rfl
@[simp] theorem State.setLrx_panel : (s.setLrx x).panel = s.panel := rfl
@[simp] theorem State.setLrx_ocap : (s.setLrx x).ocap = s.ocap := rfl
@[simp] theorem State.setLrx_ocmp : (s.setLrx x).ocmp = s.ocmp := rfl
@[simp] theorem State.setLrx_tbc : (s.setLrx x).tbc = s.tbc := rfl
@[simp] theorem State.setLrx_zsu : (s.setLrx x).zsu = s.zsu := rfl
@[simp] theorem State.setLrx_frl : (s.setLrx x).frl = s.frl := rfl
@[simp] theorem State.setLrx_rct : (s.setLrx x).rct = s.rct := rfl
@[simp] theorem State.setLrx_evu : (s.setLrx x).evu = s.evu := rfl
@[simp] theorem State.setLrx_lfb : (s.setLrx x).lfb = s.lfb := rfl
@[simp] theorem State.setLrx_dctl : (s.setLrx x).dctl = s.dctl := rfl
@[simp] theorem State.setLrx_mem : (s.setLrx x).mem = s.mem := rfl
@[simp] theorem State.setLrx_free : (s.setLrx x).free = s.free := rfl
@[simp] theorem State.setLrx_pending : (s.setLrx x).pending = s.pending := rfl
end

section
variable (s : State) (x : Capu)
@[simp] theorem State.setCapu_clock : (s.setCapu x).clock = s.clock := rfl
@[simp] theorem State.setCapu_pins : (s.setCapu x).pins = s.pins := rfl
@[simp] theorem State.setCapu_lrx : (s.setCapu x).lrx = s.lrx := rfl
@[simp] theorem State.setCapu_capu : (s.setCapu x).capu = x := rfl
@[simp] theorem State.setCapu_marb : (s.setCapu x).marb = s.marb := rfl
@[simp] theorem State.setCapu_pru : (s.setCapu x).pru = s.pru := rfl
@[simp] theorem State.setCapu_crp : (s.setCapu x).crp = s.crp := rfl
@[simp] theorem State.setCapu_ssch : (s.setCapu x).ssch = s.ssch := rfl
@[simp] theorem State.setCapu_seng : (s.setCapu x).seng = s.seng := rfl
@[simp] theorem State.setCapu_panel : (s.setCapu x).panel = s.panel := rfl
@[simp] theorem State.setCapu_ocap : (s.setCapu x).ocap = s.ocap := rfl
@[simp] theorem State.setCapu_ocmp : (s.setCapu x).ocmp = s.ocmp := rfl
@[simp] theorem State.setCapu_tbc : (s.setCapu x).tbc = s.tbc := rfl
@[simp] theorem State.setCapu_zsu : (s.setCapu x).zsu = s.zsu := rfl
@[simp] theorem State.setCapu_frl : (s.setCapu x).frl = s.frl := rfl
@[simp] theorem State.setCapu_rct : (s.setCapu x).rct = s.rct := rfl
@[simp] theorem State.setCapu_evu : (s.setCapu x).evu = s.evu := rfl
@[simp] theorem State.setCapu_lfb : (s.setCapu x).lfb = s.lfb := rfl
@[simp] theorem State.setCapu_dctl : (s.setCapu x).dctl = s.dctl := rfl
@[simp] theorem State.setCapu_mem : (s.setCapu x).mem = s.mem := rfl
@[simp] theorem State.setCapu_free : (s.setCapu x).free = s.free := rfl
@[simp] theorem State.setCapu_pending : (s.setCapu x).pending = s.pending := rfl
end

section
variable (s : State) (x : Marb)
@[simp] theorem State.setMarb_clock : (s.setMarb x).clock = s.clock := rfl
@[simp] theorem State.setMarb_pins : (s.setMarb x).pins = s.pins := rfl
@[simp] theorem State.setMarb_lrx : (s.setMarb x).lrx = s.lrx := rfl
@[simp] theorem State.setMarb_capu : (s.setMarb x).capu = s.capu := rfl
@[simp] theorem State.setMarb_marb : (s.setMarb x).marb = x := rfl
@[simp] theorem State.setMarb_pru : (s.setMarb x).pru = s.pru := rfl
@[simp] theorem State.setMarb_crp : (s.setMarb x).crp = s.crp := rfl
@[simp] theorem State.setMarb_ssch : (s.setMarb x).ssch = s.ssch := rfl
@[simp] theorem State.setMarb_seng : (s.setMarb x).seng = s.seng := rfl
@[simp] theorem State.setMarb_panel : (s.setMarb x).panel = s.panel := rfl
@[simp] theorem State.setMarb_ocap : (s.setMarb x).ocap = s.ocap := rfl
@[simp] theorem State.setMarb_ocmp : (s.setMarb x).ocmp = s.ocmp := rfl
@[simp] theorem State.setMarb_tbc : (s.setMarb x).tbc = s.tbc := rfl
@[simp] theorem State.setMarb_zsu : (s.setMarb x).zsu = s.zsu := rfl
@[simp] theorem State.setMarb_frl : (s.setMarb x).frl = s.frl := rfl
@[simp] theorem State.setMarb_rct : (s.setMarb x).rct = s.rct := rfl
@[simp] theorem State.setMarb_evu : (s.setMarb x).evu = s.evu := rfl
@[simp] theorem State.setMarb_lfb : (s.setMarb x).lfb = s.lfb := rfl
@[simp] theorem State.setMarb_dctl : (s.setMarb x).dctl = s.dctl := rfl
@[simp] theorem State.setMarb_mem : (s.setMarb x).mem = s.mem := rfl
@[simp] theorem State.setMarb_free : (s.setMarb x).free = s.free := rfl
@[simp] theorem State.setMarb_pending : (s.setMarb x).pending = s.pending := rfl
end

section
variable (s : State) (x : Pru)
@[simp] theorem State.setPru_clock : (s.setPru x).clock = s.clock := rfl
@[simp] theorem State.setPru_pins : (s.setPru x).pins = s.pins := rfl
@[simp] theorem State.setPru_lrx : (s.setPru x).lrx = s.lrx := rfl
@[simp] theorem State.setPru_capu : (s.setPru x).capu = s.capu := rfl
@[simp] theorem State.setPru_marb : (s.setPru x).marb = s.marb := rfl
@[simp] theorem State.setPru_pru : (s.setPru x).pru = x := rfl
@[simp] theorem State.setPru_crp : (s.setPru x).crp = s.crp := rfl
@[simp] theorem State.setPru_ssch : (s.setPru x).ssch = s.ssch := rfl
@[simp] theorem State.setPru_seng : (s.setPru x).seng = s.seng := rfl
@[simp] theorem State.setPru_panel : (s.setPru x).panel = s.panel := rfl
@[simp] theorem State.setPru_ocap : (s.setPru x).ocap = s.ocap := rfl
@[simp] theorem State.setPru_ocmp : (s.setPru x).ocmp = s.ocmp := rfl
@[simp] theorem State.setPru_tbc : (s.setPru x).tbc = s.tbc := rfl
@[simp] theorem State.setPru_zsu : (s.setPru x).zsu = s.zsu := rfl
@[simp] theorem State.setPru_frl : (s.setPru x).frl = s.frl := rfl
@[simp] theorem State.setPru_rct : (s.setPru x).rct = s.rct := rfl
@[simp] theorem State.setPru_evu : (s.setPru x).evu = s.evu := rfl
@[simp] theorem State.setPru_lfb : (s.setPru x).lfb = s.lfb := rfl
@[simp] theorem State.setPru_dctl : (s.setPru x).dctl = s.dctl := rfl
@[simp] theorem State.setPru_mem : (s.setPru x).mem = s.mem := rfl
@[simp] theorem State.setPru_free : (s.setPru x).free = s.free := rfl
@[simp] theorem State.setPru_pending : (s.setPru x).pending = s.pending := rfl
end

section
variable (s : State) (x : Crp)
@[simp] theorem State.setCrp_clock : (s.setCrp x).clock = s.clock := rfl
@[simp] theorem State.setCrp_pins : (s.setCrp x).pins = s.pins := rfl
@[simp] theorem State.setCrp_lrx : (s.setCrp x).lrx = s.lrx := rfl
@[simp] theorem State.setCrp_capu : (s.setCrp x).capu = s.capu := rfl
@[simp] theorem State.setCrp_marb : (s.setCrp x).marb = s.marb := rfl
@[simp] theorem State.setCrp_pru : (s.setCrp x).pru = s.pru := rfl
@[simp] theorem State.setCrp_crp : (s.setCrp x).crp = x := rfl
@[simp] theorem State.setCrp_ssch : (s.setCrp x).ssch = s.ssch := rfl
@[simp] theorem State.setCrp_seng : (s.setCrp x).seng = s.seng := rfl
@[simp] theorem State.setCrp_panel : (s.setCrp x).panel = s.panel := rfl
@[simp] theorem State.setCrp_ocap : (s.setCrp x).ocap = s.ocap := rfl
@[simp] theorem State.setCrp_ocmp : (s.setCrp x).ocmp = s.ocmp := rfl
@[simp] theorem State.setCrp_tbc : (s.setCrp x).tbc = s.tbc := rfl
@[simp] theorem State.setCrp_zsu : (s.setCrp x).zsu = s.zsu := rfl
@[simp] theorem State.setCrp_frl : (s.setCrp x).frl = s.frl := rfl
@[simp] theorem State.setCrp_rct : (s.setCrp x).rct = s.rct := rfl
@[simp] theorem State.setCrp_evu : (s.setCrp x).evu = s.evu := rfl
@[simp] theorem State.setCrp_lfb : (s.setCrp x).lfb = s.lfb := rfl
@[simp] theorem State.setCrp_dctl : (s.setCrp x).dctl = s.dctl := rfl
@[simp] theorem State.setCrp_mem : (s.setCrp x).mem = s.mem := rfl
@[simp] theorem State.setCrp_free : (s.setCrp x).free = s.free := rfl
@[simp] theorem State.setCrp_pending : (s.setCrp x).pending = s.pending := rfl
end

section
variable (s : State) (x : Ssch)
@[simp] theorem State.setSsch_clock : (s.setSsch x).clock = s.clock := rfl
@[simp] theorem State.setSsch_pins : (s.setSsch x).pins = s.pins := rfl
@[simp] theorem State.setSsch_lrx : (s.setSsch x).lrx = s.lrx := rfl
@[simp] theorem State.setSsch_capu : (s.setSsch x).capu = s.capu := rfl
@[simp] theorem State.setSsch_marb : (s.setSsch x).marb = s.marb := rfl
@[simp] theorem State.setSsch_pru : (s.setSsch x).pru = s.pru := rfl
@[simp] theorem State.setSsch_crp : (s.setSsch x).crp = s.crp := rfl
@[simp] theorem State.setSsch_ssch : (s.setSsch x).ssch = x := rfl
@[simp] theorem State.setSsch_seng : (s.setSsch x).seng = s.seng := rfl
@[simp] theorem State.setSsch_panel : (s.setSsch x).panel = s.panel := rfl
@[simp] theorem State.setSsch_ocap : (s.setSsch x).ocap = s.ocap := rfl
@[simp] theorem State.setSsch_ocmp : (s.setSsch x).ocmp = s.ocmp := rfl
@[simp] theorem State.setSsch_tbc : (s.setSsch x).tbc = s.tbc := rfl
@[simp] theorem State.setSsch_zsu : (s.setSsch x).zsu = s.zsu := rfl
@[simp] theorem State.setSsch_frl : (s.setSsch x).frl = s.frl := rfl
@[simp] theorem State.setSsch_rct : (s.setSsch x).rct = s.rct := rfl
@[simp] theorem State.setSsch_evu : (s.setSsch x).evu = s.evu := rfl
@[simp] theorem State.setSsch_lfb : (s.setSsch x).lfb = s.lfb := rfl
@[simp] theorem State.setSsch_dctl : (s.setSsch x).dctl = s.dctl := rfl
@[simp] theorem State.setSsch_mem : (s.setSsch x).mem = s.mem := rfl
@[simp] theorem State.setSsch_free : (s.setSsch x).free = s.free := rfl
@[simp] theorem State.setSsch_pending : (s.setSsch x).pending = s.pending := rfl
end

section
variable (s : State) (x : Seng)
@[simp] theorem State.setSeng_clock : (s.setSeng x).clock = s.clock := rfl
@[simp] theorem State.setSeng_pins : (s.setSeng x).pins = s.pins := rfl
@[simp] theorem State.setSeng_lrx : (s.setSeng x).lrx = s.lrx := rfl
@[simp] theorem State.setSeng_capu : (s.setSeng x).capu = s.capu := rfl
@[simp] theorem State.setSeng_marb : (s.setSeng x).marb = s.marb := rfl
@[simp] theorem State.setSeng_pru : (s.setSeng x).pru = s.pru := rfl
@[simp] theorem State.setSeng_crp : (s.setSeng x).crp = s.crp := rfl
@[simp] theorem State.setSeng_ssch : (s.setSeng x).ssch = s.ssch := rfl
@[simp] theorem State.setSeng_seng : (s.setSeng x).seng = x := rfl
@[simp] theorem State.setSeng_panel : (s.setSeng x).panel = s.panel := rfl
@[simp] theorem State.setSeng_ocap : (s.setSeng x).ocap = s.ocap := rfl
@[simp] theorem State.setSeng_ocmp : (s.setSeng x).ocmp = s.ocmp := rfl
@[simp] theorem State.setSeng_tbc : (s.setSeng x).tbc = s.tbc := rfl
@[simp] theorem State.setSeng_zsu : (s.setSeng x).zsu = s.zsu := rfl
@[simp] theorem State.setSeng_frl : (s.setSeng x).frl = s.frl := rfl
@[simp] theorem State.setSeng_rct : (s.setSeng x).rct = s.rct := rfl
@[simp] theorem State.setSeng_evu : (s.setSeng x).evu = s.evu := rfl
@[simp] theorem State.setSeng_lfb : (s.setSeng x).lfb = s.lfb := rfl
@[simp] theorem State.setSeng_dctl : (s.setSeng x).dctl = s.dctl := rfl
@[simp] theorem State.setSeng_mem : (s.setSeng x).mem = s.mem := rfl
@[simp] theorem State.setSeng_free : (s.setSeng x).free = s.free := rfl
@[simp] theorem State.setSeng_pending : (s.setSeng x).pending = s.pending := rfl
end

section
variable (s : State) (x : PanelPort)
@[simp] theorem State.setPanel_clock : (s.setPanel x).clock = s.clock := rfl
@[simp] theorem State.setPanel_pins : (s.setPanel x).pins = s.pins := rfl
@[simp] theorem State.setPanel_lrx : (s.setPanel x).lrx = s.lrx := rfl
@[simp] theorem State.setPanel_capu : (s.setPanel x).capu = s.capu := rfl
@[simp] theorem State.setPanel_marb : (s.setPanel x).marb = s.marb := rfl
@[simp] theorem State.setPanel_pru : (s.setPanel x).pru = s.pru := rfl
@[simp] theorem State.setPanel_crp : (s.setPanel x).crp = s.crp := rfl
@[simp] theorem State.setPanel_ssch : (s.setPanel x).ssch = s.ssch := rfl
@[simp] theorem State.setPanel_seng : (s.setPanel x).seng = s.seng := rfl
@[simp] theorem State.setPanel_panel : (s.setPanel x).panel = x := rfl
@[simp] theorem State.setPanel_ocap : (s.setPanel x).ocap = s.ocap := rfl
@[simp] theorem State.setPanel_ocmp : (s.setPanel x).ocmp = s.ocmp := rfl
@[simp] theorem State.setPanel_tbc : (s.setPanel x).tbc = s.tbc := rfl
@[simp] theorem State.setPanel_zsu : (s.setPanel x).zsu = s.zsu := rfl
@[simp] theorem State.setPanel_frl : (s.setPanel x).frl = s.frl := rfl
@[simp] theorem State.setPanel_rct : (s.setPanel x).rct = s.rct := rfl
@[simp] theorem State.setPanel_evu : (s.setPanel x).evu = s.evu := rfl
@[simp] theorem State.setPanel_lfb : (s.setPanel x).lfb = s.lfb := rfl
@[simp] theorem State.setPanel_dctl : (s.setPanel x).dctl = s.dctl := rfl
@[simp] theorem State.setPanel_mem : (s.setPanel x).mem = s.mem := rfl
@[simp] theorem State.setPanel_free : (s.setPanel x).free = s.free := rfl
@[simp] theorem State.setPanel_pending : (s.setPanel x).pending = s.pending := rfl
end

section
variable (s : State) (x : Ocap)
@[simp] theorem State.setOcap_clock : (s.setOcap x).clock = s.clock := rfl
@[simp] theorem State.setOcap_pins : (s.setOcap x).pins = s.pins := rfl
@[simp] theorem State.setOcap_lrx : (s.setOcap x).lrx = s.lrx := rfl
@[simp] theorem State.setOcap_capu : (s.setOcap x).capu = s.capu := rfl
@[simp] theorem State.setOcap_marb : (s.setOcap x).marb = s.marb := rfl
@[simp] theorem State.setOcap_pru : (s.setOcap x).pru = s.pru := rfl
@[simp] theorem State.setOcap_crp : (s.setOcap x).crp = s.crp := rfl
@[simp] theorem State.setOcap_ssch : (s.setOcap x).ssch = s.ssch := rfl
@[simp] theorem State.setOcap_seng : (s.setOcap x).seng = s.seng := rfl
@[simp] theorem State.setOcap_panel : (s.setOcap x).panel = s.panel := rfl
@[simp] theorem State.setOcap_ocap : (s.setOcap x).ocap = x := rfl
@[simp] theorem State.setOcap_ocmp : (s.setOcap x).ocmp = s.ocmp := rfl
@[simp] theorem State.setOcap_tbc : (s.setOcap x).tbc = s.tbc := rfl
@[simp] theorem State.setOcap_zsu : (s.setOcap x).zsu = s.zsu := rfl
@[simp] theorem State.setOcap_frl : (s.setOcap x).frl = s.frl := rfl
@[simp] theorem State.setOcap_rct : (s.setOcap x).rct = s.rct := rfl
@[simp] theorem State.setOcap_evu : (s.setOcap x).evu = s.evu := rfl
@[simp] theorem State.setOcap_lfb : (s.setOcap x).lfb = s.lfb := rfl
@[simp] theorem State.setOcap_dctl : (s.setOcap x).dctl = s.dctl := rfl
@[simp] theorem State.setOcap_mem : (s.setOcap x).mem = s.mem := rfl
@[simp] theorem State.setOcap_free : (s.setOcap x).free = s.free := rfl
@[simp] theorem State.setOcap_pending : (s.setOcap x).pending = s.pending := rfl
end

section
variable (s : State) (x : Ocmp)
@[simp] theorem State.setOcmp_clock : (s.setOcmp x).clock = s.clock := rfl
@[simp] theorem State.setOcmp_pins : (s.setOcmp x).pins = s.pins := rfl
@[simp] theorem State.setOcmp_lrx : (s.setOcmp x).lrx = s.lrx := rfl
@[simp] theorem State.setOcmp_capu : (s.setOcmp x).capu = s.capu := rfl
@[simp] theorem State.setOcmp_marb : (s.setOcmp x).marb = s.marb := rfl
@[simp] theorem State.setOcmp_pru : (s.setOcmp x).pru = s.pru := rfl
@[simp] theorem State.setOcmp_crp : (s.setOcmp x).crp = s.crp := rfl
@[simp] theorem State.setOcmp_ssch : (s.setOcmp x).ssch = s.ssch := rfl
@[simp] theorem State.setOcmp_seng : (s.setOcmp x).seng = s.seng := rfl
@[simp] theorem State.setOcmp_panel : (s.setOcmp x).panel = s.panel := rfl
@[simp] theorem State.setOcmp_ocap : (s.setOcmp x).ocap = s.ocap := rfl
@[simp] theorem State.setOcmp_ocmp : (s.setOcmp x).ocmp = x := rfl
@[simp] theorem State.setOcmp_tbc : (s.setOcmp x).tbc = s.tbc := rfl
@[simp] theorem State.setOcmp_zsu : (s.setOcmp x).zsu = s.zsu := rfl
@[simp] theorem State.setOcmp_frl : (s.setOcmp x).frl = s.frl := rfl
@[simp] theorem State.setOcmp_rct : (s.setOcmp x).rct = s.rct := rfl
@[simp] theorem State.setOcmp_evu : (s.setOcmp x).evu = s.evu := rfl
@[simp] theorem State.setOcmp_lfb : (s.setOcmp x).lfb = s.lfb := rfl
@[simp] theorem State.setOcmp_dctl : (s.setOcmp x).dctl = s.dctl := rfl
@[simp] theorem State.setOcmp_mem : (s.setOcmp x).mem = s.mem := rfl
@[simp] theorem State.setOcmp_free : (s.setOcmp x).free = s.free := rfl
@[simp] theorem State.setOcmp_pending : (s.setOcmp x).pending = s.pending := rfl
end

section
variable (s : State) (x : Tbc)
@[simp] theorem State.setTbc_clock : (s.setTbc x).clock = s.clock := rfl
@[simp] theorem State.setTbc_pins : (s.setTbc x).pins = s.pins := rfl
@[simp] theorem State.setTbc_lrx : (s.setTbc x).lrx = s.lrx := rfl
@[simp] theorem State.setTbc_capu : (s.setTbc x).capu = s.capu := rfl
@[simp] theorem State.setTbc_marb : (s.setTbc x).marb = s.marb := rfl
@[simp] theorem State.setTbc_pru : (s.setTbc x).pru = s.pru := rfl
@[simp] theorem State.setTbc_crp : (s.setTbc x).crp = s.crp := rfl
@[simp] theorem State.setTbc_ssch : (s.setTbc x).ssch = s.ssch := rfl
@[simp] theorem State.setTbc_seng : (s.setTbc x).seng = s.seng := rfl
@[simp] theorem State.setTbc_panel : (s.setTbc x).panel = s.panel := rfl
@[simp] theorem State.setTbc_ocap : (s.setTbc x).ocap = s.ocap := rfl
@[simp] theorem State.setTbc_ocmp : (s.setTbc x).ocmp = s.ocmp := rfl
@[simp] theorem State.setTbc_tbc : (s.setTbc x).tbc = x := rfl
@[simp] theorem State.setTbc_zsu : (s.setTbc x).zsu = s.zsu := rfl
@[simp] theorem State.setTbc_frl : (s.setTbc x).frl = s.frl := rfl
@[simp] theorem State.setTbc_rct : (s.setTbc x).rct = s.rct := rfl
@[simp] theorem State.setTbc_evu : (s.setTbc x).evu = s.evu := rfl
@[simp] theorem State.setTbc_lfb : (s.setTbc x).lfb = s.lfb := rfl
@[simp] theorem State.setTbc_dctl : (s.setTbc x).dctl = s.dctl := rfl
@[simp] theorem State.setTbc_mem : (s.setTbc x).mem = s.mem := rfl
@[simp] theorem State.setTbc_free : (s.setTbc x).free = s.free := rfl
@[simp] theorem State.setTbc_pending : (s.setTbc x).pending = s.pending := rfl
end

section
variable (s : State) (x : Zsu)
@[simp] theorem State.setZsu_clock : (s.setZsu x).clock = s.clock := rfl
@[simp] theorem State.setZsu_pins : (s.setZsu x).pins = s.pins := rfl
@[simp] theorem State.setZsu_lrx : (s.setZsu x).lrx = s.lrx := rfl
@[simp] theorem State.setZsu_capu : (s.setZsu x).capu = s.capu := rfl
@[simp] theorem State.setZsu_marb : (s.setZsu x).marb = s.marb := rfl
@[simp] theorem State.setZsu_pru : (s.setZsu x).pru = s.pru := rfl
@[simp] theorem State.setZsu_crp : (s.setZsu x).crp = s.crp := rfl
@[simp] theorem State.setZsu_ssch : (s.setZsu x).ssch = s.ssch := rfl
@[simp] theorem State.setZsu_seng : (s.setZsu x).seng = s.seng := rfl
@[simp] theorem State.setZsu_panel : (s.setZsu x).panel = s.panel := rfl
@[simp] theorem State.setZsu_ocap : (s.setZsu x).ocap = s.ocap := rfl
@[simp] theorem State.setZsu_ocmp : (s.setZsu x).ocmp = s.ocmp := rfl
@[simp] theorem State.setZsu_tbc : (s.setZsu x).tbc = s.tbc := rfl
@[simp] theorem State.setZsu_zsu : (s.setZsu x).zsu = x := rfl
@[simp] theorem State.setZsu_frl : (s.setZsu x).frl = s.frl := rfl
@[simp] theorem State.setZsu_rct : (s.setZsu x).rct = s.rct := rfl
@[simp] theorem State.setZsu_evu : (s.setZsu x).evu = s.evu := rfl
@[simp] theorem State.setZsu_lfb : (s.setZsu x).lfb = s.lfb := rfl
@[simp] theorem State.setZsu_dctl : (s.setZsu x).dctl = s.dctl := rfl
@[simp] theorem State.setZsu_mem : (s.setZsu x).mem = s.mem := rfl
@[simp] theorem State.setZsu_free : (s.setZsu x).free = s.free := rfl
@[simp] theorem State.setZsu_pending : (s.setZsu x).pending = s.pending := rfl
end

section
variable (s : State) (x : Frl)
@[simp] theorem State.setFrl_clock : (s.setFrl x).clock = s.clock := rfl
@[simp] theorem State.setFrl_pins : (s.setFrl x).pins = s.pins := rfl
@[simp] theorem State.setFrl_lrx : (s.setFrl x).lrx = s.lrx := rfl
@[simp] theorem State.setFrl_capu : (s.setFrl x).capu = s.capu := rfl
@[simp] theorem State.setFrl_marb : (s.setFrl x).marb = s.marb := rfl
@[simp] theorem State.setFrl_pru : (s.setFrl x).pru = s.pru := rfl
@[simp] theorem State.setFrl_crp : (s.setFrl x).crp = s.crp := rfl
@[simp] theorem State.setFrl_ssch : (s.setFrl x).ssch = s.ssch := rfl
@[simp] theorem State.setFrl_seng : (s.setFrl x).seng = s.seng := rfl
@[simp] theorem State.setFrl_panel : (s.setFrl x).panel = s.panel := rfl
@[simp] theorem State.setFrl_ocap : (s.setFrl x).ocap = s.ocap := rfl
@[simp] theorem State.setFrl_ocmp : (s.setFrl x).ocmp = s.ocmp := rfl
@[simp] theorem State.setFrl_tbc : (s.setFrl x).tbc = s.tbc := rfl
@[simp] theorem State.setFrl_zsu : (s.setFrl x).zsu = s.zsu := rfl
@[simp] theorem State.setFrl_frl : (s.setFrl x).frl = x := rfl
@[simp] theorem State.setFrl_rct : (s.setFrl x).rct = s.rct := rfl
@[simp] theorem State.setFrl_evu : (s.setFrl x).evu = s.evu := rfl
@[simp] theorem State.setFrl_lfb : (s.setFrl x).lfb = s.lfb := rfl
@[simp] theorem State.setFrl_dctl : (s.setFrl x).dctl = s.dctl := rfl
@[simp] theorem State.setFrl_mem : (s.setFrl x).mem = s.mem := rfl
@[simp] theorem State.setFrl_free : (s.setFrl x).free = s.free := rfl
@[simp] theorem State.setFrl_pending : (s.setFrl x).pending = s.pending := rfl
end

section
variable (s : State) (x : Rct)
@[simp] theorem State.setRct_clock : (s.setRct x).clock = s.clock := rfl
@[simp] theorem State.setRct_pins : (s.setRct x).pins = s.pins := rfl
@[simp] theorem State.setRct_lrx : (s.setRct x).lrx = s.lrx := rfl
@[simp] theorem State.setRct_capu : (s.setRct x).capu = s.capu := rfl
@[simp] theorem State.setRct_marb : (s.setRct x).marb = s.marb := rfl
@[simp] theorem State.setRct_pru : (s.setRct x).pru = s.pru := rfl
@[simp] theorem State.setRct_crp : (s.setRct x).crp = s.crp := rfl
@[simp] theorem State.setRct_ssch : (s.setRct x).ssch = s.ssch := rfl
@[simp] theorem State.setRct_seng : (s.setRct x).seng = s.seng := rfl
@[simp] theorem State.setRct_panel : (s.setRct x).panel = s.panel := rfl
@[simp] theorem State.setRct_ocap : (s.setRct x).ocap = s.ocap := rfl
@[simp] theorem State.setRct_ocmp : (s.setRct x).ocmp = s.ocmp := rfl
@[simp] theorem State.setRct_tbc : (s.setRct x).tbc = s.tbc := rfl
@[simp] theorem State.setRct_zsu : (s.setRct x).zsu = s.zsu := rfl
@[simp] theorem State.setRct_frl : (s.setRct x).frl = s.frl := rfl
@[simp] theorem State.setRct_rct : (s.setRct x).rct = x := rfl
@[simp] theorem State.setRct_evu : (s.setRct x).evu = s.evu := rfl
@[simp] theorem State.setRct_lfb : (s.setRct x).lfb = s.lfb := rfl
@[simp] theorem State.setRct_dctl : (s.setRct x).dctl = s.dctl := rfl
@[simp] theorem State.setRct_mem : (s.setRct x).mem = s.mem := rfl
@[simp] theorem State.setRct_free : (s.setRct x).free = s.free := rfl
@[simp] theorem State.setRct_pending : (s.setRct x).pending = s.pending := rfl
end

section
variable (s : State) (x : Evu)
@[simp] theorem State.setEvu_clock : (s.setEvu x).clock = s.clock := rfl
@[simp] theorem State.setEvu_pins : (s.setEvu x).pins = s.pins := rfl
@[simp] theorem State.setEvu_lrx : (s.setEvu x).lrx = s.lrx := rfl
@[simp] theorem State.setEvu_capu : (s.setEvu x).capu = s.capu := rfl
@[simp] theorem State.setEvu_marb : (s.setEvu x).marb = s.marb := rfl
@[simp] theorem State.setEvu_pru : (s.setEvu x).pru = s.pru := rfl
@[simp] theorem State.setEvu_crp : (s.setEvu x).crp = s.crp := rfl
@[simp] theorem State.setEvu_ssch : (s.setEvu x).ssch = s.ssch := rfl
@[simp] theorem State.setEvu_seng : (s.setEvu x).seng = s.seng := rfl
@[simp] theorem State.setEvu_panel : (s.setEvu x).panel = s.panel := rfl
@[simp] theorem State.setEvu_ocap : (s.setEvu x).ocap = s.ocap := rfl
@[simp] theorem State.setEvu_ocmp : (s.setEvu x).ocmp = s.ocmp := rfl
@[simp] theorem State.setEvu_tbc : (s.setEvu x).tbc = s.tbc := rfl
@[simp] theorem State.setEvu_zsu : (s.setEvu x).zsu = s.zsu := rfl
@[simp] theorem State.setEvu_frl : (s.setEvu x).frl = s.frl := rfl
@[simp] theorem State.setEvu_rct : (s.setEvu x).rct = s.rct := rfl
@[simp] theorem State.setEvu_evu : (s.setEvu x).evu = x := rfl
@[simp] theorem State.setEvu_lfb : (s.setEvu x).lfb = s.lfb := rfl
@[simp] theorem State.setEvu_dctl : (s.setEvu x).dctl = s.dctl := rfl
@[simp] theorem State.setEvu_mem : (s.setEvu x).mem = s.mem := rfl
@[simp] theorem State.setEvu_free : (s.setEvu x).free = s.free := rfl
@[simp] theorem State.setEvu_pending : (s.setEvu x).pending = s.pending := rfl
end

section
variable (s : State) (x : Lfb)
@[simp] theorem State.setLfb_clock : (s.setLfb x).clock = s.clock := rfl
@[simp] theorem State.setLfb_pins : (s.setLfb x).pins = s.pins := rfl
@[simp] theorem State.setLfb_lrx : (s.setLfb x).lrx = s.lrx := rfl
@[simp] theorem State.setLfb_capu : (s.setLfb x).capu = s.capu := rfl
@[simp] theorem State.setLfb_marb : (s.setLfb x).marb = s.marb := rfl
@[simp] theorem State.setLfb_pru : (s.setLfb x).pru = s.pru := rfl
@[simp] theorem State.setLfb_crp : (s.setLfb x).crp = s.crp := rfl
@[simp] theorem State.setLfb_ssch : (s.setLfb x).ssch = s.ssch := rfl
@[simp] theorem State.setLfb_seng : (s.setLfb x).seng = s.seng := rfl
@[simp] theorem State.setLfb_panel : (s.setLfb x).panel = s.panel := rfl
@[simp] theorem State.setLfb_ocap : (s.setLfb x).ocap = s.ocap := rfl
@[simp] theorem State.setLfb_ocmp : (s.setLfb x).ocmp = s.ocmp := rfl
@[simp] theorem State.setLfb_tbc : (s.setLfb x).tbc = s.tbc := rfl
@[simp] theorem State.setLfb_zsu : (s.setLfb x).zsu = s.zsu := rfl
@[simp] theorem State.setLfb_frl : (s.setLfb x).frl = s.frl := rfl
@[simp] theorem State.setLfb_rct : (s.setLfb x).rct = s.rct := rfl
@[simp] theorem State.setLfb_evu : (s.setLfb x).evu = s.evu := rfl
@[simp] theorem State.setLfb_lfb : (s.setLfb x).lfb = x := rfl
@[simp] theorem State.setLfb_dctl : (s.setLfb x).dctl = s.dctl := rfl
@[simp] theorem State.setLfb_mem : (s.setLfb x).mem = s.mem := rfl
@[simp] theorem State.setLfb_free : (s.setLfb x).free = s.free := rfl
@[simp] theorem State.setLfb_pending : (s.setLfb x).pending = s.pending := rfl
end

section
variable (s : State) (x : Device)
@[simp] theorem State.setDctl_clock : (s.setDctl x).clock = s.clock := rfl
@[simp] theorem State.setDctl_pins : (s.setDctl x).pins = s.pins := rfl
@[simp] theorem State.setDctl_lrx : (s.setDctl x).lrx = s.lrx := rfl
@[simp] theorem State.setDctl_capu : (s.setDctl x).capu = s.capu := rfl
@[simp] theorem State.setDctl_marb : (s.setDctl x).marb = s.marb := rfl
@[simp] theorem State.setDctl_pru : (s.setDctl x).pru = s.pru := rfl
@[simp] theorem State.setDctl_crp : (s.setDctl x).crp = s.crp := rfl
@[simp] theorem State.setDctl_ssch : (s.setDctl x).ssch = s.ssch := rfl
@[simp] theorem State.setDctl_seng : (s.setDctl x).seng = s.seng := rfl
@[simp] theorem State.setDctl_panel : (s.setDctl x).panel = s.panel := rfl
@[simp] theorem State.setDctl_ocap : (s.setDctl x).ocap = s.ocap := rfl
@[simp] theorem State.setDctl_ocmp : (s.setDctl x).ocmp = s.ocmp := rfl
@[simp] theorem State.setDctl_tbc : (s.setDctl x).tbc = s.tbc := rfl
@[simp] theorem State.setDctl_zsu : (s.setDctl x).zsu = s.zsu := rfl
@[simp] theorem State.setDctl_frl : (s.setDctl x).frl = s.frl := rfl
@[simp] theorem State.setDctl_rct : (s.setDctl x).rct = s.rct := rfl
@[simp] theorem State.setDctl_evu : (s.setDctl x).evu = s.evu := rfl
@[simp] theorem State.setDctl_lfb : (s.setDctl x).lfb = s.lfb := rfl
@[simp] theorem State.setDctl_dctl : (s.setDctl x).dctl = x := rfl
@[simp] theorem State.setDctl_mem : (s.setDctl x).mem = s.mem := rfl
@[simp] theorem State.setDctl_free : (s.setDctl x).free = s.free := rfl
@[simp] theorem State.setDctl_pending : (s.setDctl x).pending = s.pending := rfl
end

section
variable (s : State) (x : Memory)
@[simp] theorem State.setMem_clock : (s.setMem x).clock = s.clock := rfl
@[simp] theorem State.setMem_pins : (s.setMem x).pins = s.pins := rfl
@[simp] theorem State.setMem_lrx : (s.setMem x).lrx = s.lrx := rfl
@[simp] theorem State.setMem_capu : (s.setMem x).capu = s.capu := rfl
@[simp] theorem State.setMem_marb : (s.setMem x).marb = s.marb := rfl
@[simp] theorem State.setMem_pru : (s.setMem x).pru = s.pru := rfl
@[simp] theorem State.setMem_crp : (s.setMem x).crp = s.crp := rfl
@[simp] theorem State.setMem_ssch : (s.setMem x).ssch = s.ssch := rfl
@[simp] theorem State.setMem_seng : (s.setMem x).seng = s.seng := rfl
@[simp] theorem State.setMem_panel : (s.setMem x).panel = s.panel := rfl
@[simp] theorem State.setMem_ocap : (s.setMem x).ocap = s.ocap := rfl
@[simp] theorem State.setMem_ocmp : (s.setMem x).ocmp = s.ocmp := rfl
@[simp] theorem State.setMem_tbc : (s.setMem x).tbc = s.tbc := rfl
@[simp] theorem State.setMem_zsu : (s.setMem x).zsu = s.zsu := rfl
@[simp] theorem State.setMem_frl : (s.setMem x).frl = s.frl := rfl
@[simp] theorem State.setMem_rct : (s.setMem x).rct = s.rct := rfl
@[simp] theorem State.setMem_evu : (s.setMem x).evu = s.evu := rfl
@[simp] theorem State.setMem_lfb : (s.setMem x).lfb = s.lfb := rfl
@[simp] theorem State.setMem_dctl : (s.setMem x).dctl = s.dctl := rfl
@[simp] theorem State.setMem_mem : (s.setMem x).mem = x := rfl
@[simp] theorem State.setMem_free : (s.setMem x).free = s.free := rfl
@[simp] theorem State.setMem_pending : (s.setMem x).pending = s.pending := rfl
end

section
variable (s : State) (x : Nat)
@[simp] theorem State.setFree_clock : (s.setFree x).clock = s.clock := rfl
@[simp] theorem State.setFree_pins : (s.setFree x).pins = s.pins := rfl
@[simp] theorem State.setFree_lrx : (s.setFree x).lrx = s.lrx := rfl
@[simp] theorem State.setFree_capu : (s.setFree x).capu = s.capu := rfl
@[simp] theorem State.setFree_marb : (s.setFree x).marb = s.marb := rfl
@[simp] theorem State.setFree_pru : (s.setFree x).pru = s.pru := rfl
@[simp] theorem State.setFree_crp : (s.setFree x).crp = s.crp := rfl
@[simp] theorem State.setFree_ssch : (s.setFree x).ssch = s.ssch := rfl
@[simp] theorem State.setFree_seng : (s.setFree x).seng = s.seng := rfl
@[simp] theorem State.setFree_panel : (s.setFree x).panel = s.panel := rfl
@[simp] theorem State.setFree_ocap : (s.setFree x).ocap = s.ocap := rfl
@[simp] theorem State.setFree_ocmp : (s.setFree x).ocmp = s.ocmp := rfl
@[simp] theorem State.setFree_tbc : (s.setFree x).tbc = s.tbc := rfl
@[simp] theorem State.setFree_zsu : (s.setFree x).zsu = s.zsu := rfl
@[simp] theorem State.setFree_frl : (s.setFree x).frl = s.frl := rfl
@[simp] theorem State.setFree_rct : (s.setFree x).rct = s.rct := rfl
@[simp] theorem State.setFree_evu : (s.setFree x).evu = s.evu := rfl
@[simp] theorem State.setFree_lfb : (s.setFree x).lfb = s.lfb := rfl
@[simp] theorem State.setFree_dctl : (s.setFree x).dctl = s.dctl := rfl
@[simp] theorem State.setFree_mem : (s.setFree x).mem = s.mem := rfl
@[simp] theorem State.setFree_free : (s.setFree x).free = x := rfl
@[simp] theorem State.setFree_pending : (s.setFree x).pending = s.pending := rfl
end

section
variable (s : State) (x : List Instr)
@[simp] theorem State.setPending_clock : (s.setPending x).clock = s.clock := rfl
@[simp] theorem State.setPending_pins : (s.setPending x).pins = s.pins := rfl
@[simp] theorem State.setPending_lrx : (s.setPending x).lrx = s.lrx := rfl
@[simp] theorem State.setPending_capu : (s.setPending x).capu = s.capu := rfl
@[simp] theorem State.setPending_marb : (s.setPending x).marb = s.marb := rfl
@[simp] theorem State.setPending_pru : (s.setPending x).pru = s.pru := rfl
@[simp] theorem State.setPending_crp : (s.setPending x).crp = s.crp := rfl
@[simp] theorem State.setPending_ssch : (s.setPending x).ssch = s.ssch := rfl
@[simp] theorem State.setPending_seng : (s.setPending x).seng = s.seng := rfl
@[simp] theorem State.setPending_panel : (s.setPending x).panel = s.panel := rfl
@[simp] theorem State.setPending_ocap : (s.setPending x).ocap = s.ocap := rfl
@[simp] theorem State.setPending_ocmp : (s.setPending x).ocmp = s.ocmp := rfl
@[simp] theorem State.setPending_tbc : (s.setPending x).tbc = s.tbc := rfl
@[simp] theorem State.setPending_zsu : (s.setPending x).zsu = s.zsu := rfl
@[simp] theorem State.setPending_frl : (s.setPending x).frl = s.frl := rfl
@[simp] theorem State.setPending_rct : (s.setPending x).rct = s.rct := rfl
@[simp] theorem State.setPending_evu : (s.setPending x).evu = s.evu := rfl
@[simp] theorem State.setPending_lfb : (s.setPending x).lfb = s.lfb := rfl
@[simp] theorem State.setPending_dctl : (s.setPending x).dctl = s.dctl := rfl
@[simp] theorem State.setPending_mem : (s.setPending x).mem = s.mem := rfl
@[simp] theorem State.setPending_free : (s.setPending x).free = s.free := rfl
@[simp] theorem State.setPending_pending : (s.setPending x).pending = x := rfl
end

end Sys2Proof.Machine
end

