-- ==== Sys2Proof/Laws/Frames.lean ====
section
/-! SUPPORT. The frame of each shared operation and of each command's effect: the fields of State it leaves as they
were, once for each. -/

namespace Sys2Proof.Machine

variable (s : State)

@[simp] theorem State.elapse_frame (dt : Nat) :
    (s.elapse dt).pins = s.pins ∧ (s.elapse dt).lrx = s.lrx ∧ (s.elapse dt).capu = s.capu ∧ (s.elapse dt).marb =
    s.marb ∧ (s.elapse dt).pru = s.pru ∧ (s.elapse dt).crp = s.crp ∧ (s.elapse dt).ssch = s.ssch ∧ (s.elapse
    dt).seng = s.seng ∧ (s.elapse dt).panel = s.panel ∧ (s.elapse dt).ocap = s.ocap ∧ (s.elapse dt).ocmp = s.ocmp
    ∧ (s.elapse dt).tbc = s.tbc ∧ (s.elapse dt).zsu = s.zsu ∧ (s.elapse dt).frl = s.frl ∧ (s.elapse dt).rct =
    s.rct ∧ (s.elapse dt).evu = s.evu ∧ (s.elapse dt).lfb = s.lfb ∧ (s.elapse dt).dctl = s.dctl ∧ (s.elapse
    dt).mem = s.mem ∧ (s.elapse dt).free = s.free ∧ (s.elapse dt).pending = s.pending := by
  unfold State.elapse; split <;> simp

@[simp] theorem State.raise_frame (e : EventSource) :
    (s.raise e).clock = s.clock ∧ (s.raise e).pins = s.pins ∧ (s.raise e).lrx = s.lrx ∧ (s.raise e).capu = s.capu
    ∧ (s.raise e).marb = s.marb ∧ (s.raise e).pru = s.pru ∧ (s.raise e).crp = s.crp ∧ (s.raise e).ssch = s.ssch ∧
    (s.raise e).seng = s.seng ∧ (s.raise e).panel = s.panel ∧ (s.raise e).ocap = s.ocap ∧ (s.raise e).ocmp =
    s.ocmp ∧ (s.raise e).tbc = s.tbc ∧ (s.raise e).zsu = s.zsu ∧ (s.raise e).frl = s.frl ∧ (s.raise e).rct = s.rct
    ∧ (s.raise e).lfb = s.lfb ∧ (s.raise e).dctl = s.dctl ∧ (s.raise e).mem = s.mem ∧ (s.raise e).free = s.free ∧
    (s.raise e).pending = s.pending := by
  simp [State.raise]

@[simp] theorem State.addReply_frame (tag code : Byte) (st : Status) (p : List Byte) :
    (s.addReply tag code st p).clock = s.clock ∧ (s.addReply tag code st p).pins = s.pins ∧ (s.addReply tag code
    st p).lrx = s.lrx ∧ (s.addReply tag code st p).capu = s.capu ∧ (s.addReply tag code st p).marb = s.marb ∧
    (s.addReply tag code st p).pru = s.pru ∧ (s.addReply tag code st p).crp = s.crp ∧ (s.addReply tag code st
    p).ssch = s.ssch ∧ (s.addReply tag code st p).seng = s.seng ∧ (s.addReply tag code st p).panel = s.panel ∧
    (s.addReply tag code st p).ocap = s.ocap ∧ (s.addReply tag code st p).ocmp = s.ocmp ∧ (s.addReply tag code st
    p).tbc = s.tbc ∧ (s.addReply tag code st p).zsu = s.zsu ∧ (s.addReply tag code st p).frl = s.frl ∧ (s.addReply
    tag code st p).evu = s.evu ∧ (s.addReply tag code st p).lfb = s.lfb ∧ (s.addReply tag code st p).dctl = s.dctl
    ∧ (s.addReply tag code st p).mem = s.mem ∧ (s.addReply tag code st p).free = s.free ∧ (s.addReply tag code st
    p).pending = s.pending := by
  simp [State.addReply]

@[simp] theorem State.drawn_frame :
    (s.drawn).clock = s.clock ∧ (s.drawn).pins = s.pins ∧ (s.drawn).lrx = s.lrx ∧ (s.drawn).capu = s.capu ∧
    (s.drawn).marb = s.marb ∧ (s.drawn).pru = s.pru ∧ (s.drawn).crp = s.crp ∧ (s.drawn).ssch = s.ssch ∧
    (s.drawn).seng = s.seng ∧ (s.drawn).panel = s.panel ∧ (s.drawn).ocap = s.ocap ∧ (s.drawn).ocmp = s.ocmp ∧
    (s.drawn).tbc = s.tbc ∧ (s.drawn).zsu = s.zsu ∧ (s.drawn).frl = s.frl ∧ (s.drawn).rct = s.rct ∧ (s.drawn).evu
    = s.evu ∧ (s.drawn).lfb = s.lfb ∧ (s.drawn).dctl = s.dctl ∧ (s.drawn).mem = s.mem ∧ (s.drawn).pending =
    s.pending := by
  simp [State.drawn]

@[simp] theorem State.makeRequests_frame :
    (s.makeRequests).clock = s.clock ∧ (s.makeRequests).pins = s.pins ∧ (s.makeRequests).lrx = s.lrx ∧
    (s.makeRequests).capu = s.capu ∧ (s.makeRequests).pru = s.pru ∧ (s.makeRequests).crp = s.crp ∧
    (s.makeRequests).ssch = s.ssch ∧ (s.makeRequests).seng = s.seng ∧ (s.makeRequests).panel = s.panel ∧
    (s.makeRequests).ocap = s.ocap ∧ (s.makeRequests).ocmp = s.ocmp ∧ (s.makeRequests).tbc = s.tbc ∧
    (s.makeRequests).zsu = s.zsu ∧ (s.makeRequests).frl = s.frl ∧ (s.makeRequests).rct = s.rct ∧
    (s.makeRequests).evu = s.evu ∧ (s.makeRequests).lfb = s.lfb ∧ (s.makeRequests).dctl = s.dctl ∧
    (s.makeRequests).mem = s.mem ∧ (s.makeRequests).free = s.free ∧ (s.makeRequests).pending = s.pending := by
  simp [State.makeRequests]

@[simp] theorem State.grantCaptureWrite_frame (r : SlotId × Nat) :
    (s.grantCaptureWrite r).clock = s.clock ∧ (s.grantCaptureWrite r).pins = s.pins ∧ (s.grantCaptureWrite r).lrx
    = s.lrx ∧ (s.grantCaptureWrite r).capu = s.capu ∧ (s.grantCaptureWrite r).pru = s.pru ∧ (s.grantCaptureWrite
    r).crp = s.crp ∧ (s.grantCaptureWrite r).ssch = s.ssch ∧ (s.grantCaptureWrite r).seng = s.seng ∧
    (s.grantCaptureWrite r).panel = s.panel ∧ (s.grantCaptureWrite r).ocap = s.ocap ∧ (s.grantCaptureWrite r).ocmp
    = s.ocmp ∧ (s.grantCaptureWrite r).tbc = s.tbc ∧ (s.grantCaptureWrite r).zsu = s.zsu ∧ (s.grantCaptureWrite
    r).frl = s.frl ∧ (s.grantCaptureWrite r).rct = s.rct ∧ (s.grantCaptureWrite r).evu = s.evu ∧
    (s.grantCaptureWrite r).lfb = s.lfb ∧ (s.grantCaptureWrite r).dctl = s.dctl ∧ (s.grantCaptureWrite r).mem =
    s.mem ∧ (s.grantCaptureWrite r).free = s.free ∧ (s.grantCaptureWrite r).pending = s.pending := by
  simp [State.grantCaptureWrite]

@[simp] theorem State.grantScanRead_frame (r : SlotId × Nat) :
    (s.grantScanRead r).clock = s.clock ∧ (s.grantScanRead r).pins = s.pins ∧ (s.grantScanRead r).lrx = s.lrx ∧
    (s.grantScanRead r).capu = s.capu ∧ (s.grantScanRead r).pru = s.pru ∧ (s.grantScanRead r).crp = s.crp ∧
    (s.grantScanRead r).ssch = s.ssch ∧ (s.grantScanRead r).seng = s.seng ∧ (s.grantScanRead r).panel = s.panel ∧
    (s.grantScanRead r).ocap = s.ocap ∧ (s.grantScanRead r).ocmp = s.ocmp ∧ (s.grantScanRead r).tbc = s.tbc ∧
    (s.grantScanRead r).zsu = s.zsu ∧ (s.grantScanRead r).frl = s.frl ∧ (s.grantScanRead r).rct = s.rct ∧
    (s.grantScanRead r).evu = s.evu ∧ (s.grantScanRead r).lfb = s.lfb ∧ (s.grantScanRead r).dctl = s.dctl ∧
    (s.grantScanRead r).mem = s.mem ∧ (s.grantScanRead r).free = s.free ∧ (s.grantScanRead r).pending = s.pending := by
  simp [State.grantScanRead]

@[simp] theorem State.grantOverlayRead_frame (r : Plane × Nat) :
    (s.grantOverlayRead r).clock = s.clock ∧ (s.grantOverlayRead r).pins = s.pins ∧ (s.grantOverlayRead r).lrx =
    s.lrx ∧ (s.grantOverlayRead r).capu = s.capu ∧ (s.grantOverlayRead r).pru = s.pru ∧ (s.grantOverlayRead r).crp
    = s.crp ∧ (s.grantOverlayRead r).ssch = s.ssch ∧ (s.grantOverlayRead r).seng = s.seng ∧ (s.grantOverlayRead
    r).panel = s.panel ∧ (s.grantOverlayRead r).ocap = s.ocap ∧ (s.grantOverlayRead r).ocmp = s.ocmp ∧
    (s.grantOverlayRead r).tbc = s.tbc ∧ (s.grantOverlayRead r).zsu = s.zsu ∧ (s.grantOverlayRead r).frl = s.frl ∧
    (s.grantOverlayRead r).rct = s.rct ∧ (s.grantOverlayRead r).evu = s.evu ∧ (s.grantOverlayRead r).lfb = s.lfb ∧
    (s.grantOverlayRead r).dctl = s.dctl ∧ (s.grantOverlayRead r).mem = s.mem ∧ (s.grantOverlayRead r).free =
    s.free ∧ (s.grantOverlayRead r).pending = s.pending := by
  simp [State.grantOverlayRead]

@[simp] theorem State.grantOverlayWrite_frame :
    (s.grantOverlayWrite).clock = s.clock ∧ (s.grantOverlayWrite).pins = s.pins ∧ (s.grantOverlayWrite).lrx =
    s.lrx ∧ (s.grantOverlayWrite).capu = s.capu ∧ (s.grantOverlayWrite).pru = s.pru ∧ (s.grantOverlayWrite).crp =
    s.crp ∧ (s.grantOverlayWrite).ssch = s.ssch ∧ (s.grantOverlayWrite).seng = s.seng ∧
    (s.grantOverlayWrite).panel = s.panel ∧ (s.grantOverlayWrite).ocap = s.ocap ∧ (s.grantOverlayWrite).ocmp =
    s.ocmp ∧ (s.grantOverlayWrite).tbc = s.tbc ∧ (s.grantOverlayWrite).zsu = s.zsu ∧ (s.grantOverlayWrite).frl =
    s.frl ∧ (s.grantOverlayWrite).rct = s.rct ∧ (s.grantOverlayWrite).evu = s.evu ∧ (s.grantOverlayWrite).lfb =
    s.lfb ∧ (s.grantOverlayWrite).dctl = s.dctl ∧ (s.grantOverlayWrite).mem = s.mem ∧ (s.grantOverlayWrite).free =
    s.free ∧ (s.grantOverlayWrite).pending = s.pending := by
  unfold State.grantOverlayWrite; split <;> simp

@[simp] theorem State.grantOverlay_frame :
    (s.grantOverlay).clock = s.clock ∧ (s.grantOverlay).pins = s.pins ∧ (s.grantOverlay).lrx = s.lrx ∧
    (s.grantOverlay).capu = s.capu ∧ (s.grantOverlay).pru = s.pru ∧ (s.grantOverlay).crp = s.crp ∧
    (s.grantOverlay).ssch = s.ssch ∧ (s.grantOverlay).seng = s.seng ∧ (s.grantOverlay).panel = s.panel ∧
    (s.grantOverlay).ocap = s.ocap ∧ (s.grantOverlay).ocmp = s.ocmp ∧ (s.grantOverlay).tbc = s.tbc ∧
    (s.grantOverlay).zsu = s.zsu ∧ (s.grantOverlay).frl = s.frl ∧ (s.grantOverlay).rct = s.rct ∧
    (s.grantOverlay).evu = s.evu ∧ (s.grantOverlay).lfb = s.lfb ∧ (s.grantOverlay).dctl = s.dctl ∧
    (s.grantOverlay).mem = s.mem ∧ (s.grantOverlay).free = s.free ∧ (s.grantOverlay).pending = s.pending := by
  unfold State.grantOverlay; (repeat' split) <;> simp

@[simp] theorem State.grant_frame :
    (s.grant).clock = s.clock ∧ (s.grant).pins = s.pins ∧ (s.grant).lrx = s.lrx ∧ (s.grant).capu = s.capu ∧
    (s.grant).pru = s.pru ∧ (s.grant).crp = s.crp ∧ (s.grant).ssch = s.ssch ∧ (s.grant).seng = s.seng ∧
    (s.grant).panel = s.panel ∧ (s.grant).ocap = s.ocap ∧ (s.grant).ocmp = s.ocmp ∧ (s.grant).tbc = s.tbc ∧
    (s.grant).zsu = s.zsu ∧ (s.grant).frl = s.frl ∧ (s.grant).rct = s.rct ∧ (s.grant).evu = s.evu ∧ (s.grant).lfb
    = s.lfb ∧ (s.grant).dctl = s.dctl ∧ (s.grant).mem = s.mem ∧ (s.grant).free = s.free ∧ (s.grant).pending =
    s.pending := by
  unfold State.grant; (repeat' split) <;> simp

@[simp] theorem State.grantOverlayReadFirst_frame :
    (s.grantOverlayReadFirst).clock = s.clock ∧ (s.grantOverlayReadFirst).pins = s.pins ∧
    (s.grantOverlayReadFirst).lrx = s.lrx ∧ (s.grantOverlayReadFirst).capu = s.capu ∧
    (s.grantOverlayReadFirst).pru = s.pru ∧ (s.grantOverlayReadFirst).crp = s.crp ∧ (s.grantOverlayReadFirst).ssch
    = s.ssch ∧ (s.grantOverlayReadFirst).seng = s.seng ∧ (s.grantOverlayReadFirst).panel = s.panel ∧
    (s.grantOverlayReadFirst).ocap = s.ocap ∧ (s.grantOverlayReadFirst).ocmp = s.ocmp ∧
    (s.grantOverlayReadFirst).tbc = s.tbc ∧ (s.grantOverlayReadFirst).zsu = s.zsu ∧ (s.grantOverlayReadFirst).frl
    = s.frl ∧ (s.grantOverlayReadFirst).rct = s.rct ∧ (s.grantOverlayReadFirst).evu = s.evu ∧
    (s.grantOverlayReadFirst).lfb = s.lfb ∧ (s.grantOverlayReadFirst).dctl = s.dctl ∧
    (s.grantOverlayReadFirst).mem = s.mem ∧ (s.grantOverlayReadFirst).free = s.free ∧
    (s.grantOverlayReadFirst).pending = s.pending := by
  unfold State.grantOverlayReadFirst; split <;> simp

@[simp] theorem State.serve_frame :
    (s.serve).clock = s.clock ∧ (s.serve).pins = s.pins ∧ (s.serve).lrx = s.lrx ∧ (s.serve).capu = s.capu ∧
    (s.serve).pru = s.pru ∧ (s.serve).crp = s.crp ∧ (s.serve).ssch = s.ssch ∧ (s.serve).seng = s.seng ∧
    (s.serve).panel = s.panel ∧ (s.serve).ocap = s.ocap ∧ (s.serve).ocmp = s.ocmp ∧ (s.serve).tbc = s.tbc ∧
    (s.serve).zsu = s.zsu ∧ (s.serve).frl = s.frl ∧ (s.serve).rct = s.rct ∧ (s.serve).evu = s.evu ∧ (s.serve).lfb
    = s.lfb ∧ (s.serve).dctl = s.dctl ∧ (s.serve).mem = s.mem ∧ (s.serve).pending = s.pending := by
  simp only [State.serve]; split_ifs <;> simp

@[simp] theorem State.storeProfile_frame (i : Fin 4) (p : Profile) :
    (s.storeProfile i p).clock = s.clock ∧ (s.storeProfile i p).pins = s.pins ∧ (s.storeProfile i p).lrx = s.lrx ∧
    (s.storeProfile i p).capu = s.capu ∧ (s.storeProfile i p).marb = s.marb ∧ (s.storeProfile i p).crp = s.crp ∧
    (s.storeProfile i p).ssch = s.ssch ∧ (s.storeProfile i p).seng = s.seng ∧ (s.storeProfile i p).panel = s.panel
    ∧ (s.storeProfile i p).ocap = s.ocap ∧ (s.storeProfile i p).ocmp = s.ocmp ∧ (s.storeProfile i p).tbc = s.tbc ∧
    (s.storeProfile i p).zsu = s.zsu ∧ (s.storeProfile i p).frl = s.frl ∧ (s.storeProfile i p).rct = s.rct ∧
    (s.storeProfile i p).evu = s.evu ∧ (s.storeProfile i p).lfb = s.lfb ∧ (s.storeProfile i p).dctl = s.dctl ∧
    (s.storeProfile i p).mem = s.mem ∧ (s.storeProfile i p).free = s.free ∧ (s.storeProfile i p).pending =
    s.pending := by
  simp [State.storeProfile]

@[simp] theorem State.takeLockedLimits_frame :
    (s.takeLockedLimits).clock = s.clock ∧ (s.takeLockedLimits).pins = s.pins ∧ (s.takeLockedLimits).lrx = s.lrx ∧
    (s.takeLockedLimits).capu = s.capu ∧ (s.takeLockedLimits).marb = s.marb ∧ (s.takeLockedLimits).crp = s.crp ∧
    (s.takeLockedLimits).ssch = s.ssch ∧ (s.takeLockedLimits).seng = s.seng ∧ (s.takeLockedLimits).panel = s.panel
    ∧ (s.takeLockedLimits).ocap = s.ocap ∧ (s.takeLockedLimits).ocmp = s.ocmp ∧ (s.takeLockedLimits).tbc = s.tbc ∧
    (s.takeLockedLimits).zsu = s.zsu ∧ (s.takeLockedLimits).frl = s.frl ∧ (s.takeLockedLimits).rct = s.rct ∧
    (s.takeLockedLimits).lfb = s.lfb ∧ (s.takeLockedLimits).dctl = s.dctl ∧ (s.takeLockedLimits).mem = s.mem ∧
    (s.takeLockedLimits).free = s.free ∧ (s.takeLockedLimits).pending = s.pending := by
  unfold State.takeLockedLimits
  (try dsimp only); (repeat' split) <;> simp

@[simp] theorem State.withCrp_frame (c : Crp) :
    (s.withCrp c).clock = s.clock ∧ (s.withCrp c).pins = s.pins ∧ (s.withCrp c).lrx = s.lrx ∧ (s.withCrp c).capu =
    s.capu ∧ (s.withCrp c).marb = s.marb ∧ (s.withCrp c).pru = s.pru ∧ (s.withCrp c).seng = s.seng ∧ (s.withCrp
    c).panel = s.panel ∧ (s.withCrp c).ocap = s.ocap ∧ (s.withCrp c).ocmp = s.ocmp ∧ (s.withCrp c).tbc = s.tbc ∧
    (s.withCrp c).zsu = s.zsu ∧ (s.withCrp c).frl = s.frl ∧ (s.withCrp c).rct = s.rct ∧ (s.withCrp c).evu = s.evu
    ∧ (s.withCrp c).lfb = s.lfb ∧ (s.withCrp c).dctl = s.dctl ∧ (s.withCrp c).mem = s.mem ∧ (s.withCrp c).free =
    s.free ∧ (s.withCrp c).pending = s.pending := by
  simp [State.withCrp]

@[simp] theorem State.cadenceLfs_frame (frame time : Word) :
    (s.cadenceLfs frame time).clock = s.clock ∧ (s.cadenceLfs frame time).pins = s.pins ∧ (s.cadenceLfs frame
    time).lrx = s.lrx ∧ (s.cadenceLfs frame time).capu = s.capu ∧ (s.cadenceLfs frame time).marb = s.marb ∧
    (s.cadenceLfs frame time).pru = s.pru ∧ (s.cadenceLfs frame time).seng = s.seng ∧ (s.cadenceLfs frame
    time).panel = s.panel ∧ (s.cadenceLfs frame time).ocap = s.ocap ∧ (s.cadenceLfs frame time).ocmp = s.ocmp ∧
    (s.cadenceLfs frame time).tbc = s.tbc ∧ (s.cadenceLfs frame time).zsu = s.zsu ∧ (s.cadenceLfs frame time).frl
    = s.frl ∧ (s.cadenceLfs frame time).rct = s.rct ∧ (s.cadenceLfs frame time).lfb = s.lfb ∧ (s.cadenceLfs frame
    time).dctl = s.dctl ∧ (s.cadenceLfs frame time).mem = s.mem ∧ (s.cadenceLfs frame time).free = s.free ∧
    (s.cadenceLfs frame time).pending = s.pending := by
  unfold State.cadenceLfs; split <;> simp

@[simp] theorem State.reportFormatChange_frame (frame : Option Word) :
    (s.reportFormatChange frame).clock = s.clock ∧ (s.reportFormatChange frame).pins = s.pins ∧
    (s.reportFormatChange frame).lrx = s.lrx ∧ (s.reportFormatChange frame).capu = s.capu ∧ (s.reportFormatChange
    frame).marb = s.marb ∧ (s.reportFormatChange frame).pru = s.pru ∧ (s.reportFormatChange frame).seng = s.seng ∧
    (s.reportFormatChange frame).panel = s.panel ∧ (s.reportFormatChange frame).ocap = s.ocap ∧
    (s.reportFormatChange frame).ocmp = s.ocmp ∧ (s.reportFormatChange frame).tbc = s.tbc ∧ (s.reportFormatChange
    frame).zsu = s.zsu ∧ (s.reportFormatChange frame).frl = s.frl ∧ (s.reportFormatChange frame).rct = s.rct ∧
    (s.reportFormatChange frame).evu = s.evu ∧ (s.reportFormatChange frame).lfb = s.lfb ∧ (s.reportFormatChange
    frame).dctl = s.dctl ∧ (s.reportFormatChange frame).mem = s.mem ∧ (s.reportFormatChange frame).free = s.free ∧
    (s.reportFormatChange frame).pending = s.pending := by
  simp [State.reportFormatChange]

@[simp] theorem State.takeCommit_frame (marker : Half) :
    (s.takeCommit marker).clock = s.clock ∧ (s.takeCommit marker).pins = s.pins ∧ (s.takeCommit marker).lrx =
    s.lrx ∧ (s.takeCommit marker).capu = s.capu ∧ (s.takeCommit marker).marb = s.marb ∧ (s.takeCommit marker).pru
    = s.pru ∧ (s.takeCommit marker).crp = s.crp ∧ (s.takeCommit marker).ssch = s.ssch ∧ (s.takeCommit marker).seng
    = s.seng ∧ (s.takeCommit marker).panel = s.panel ∧ (s.takeCommit marker).ocap = s.ocap ∧ (s.takeCommit
    marker).ocmp = s.ocmp ∧ (s.takeCommit marker).zsu = s.zsu ∧ (s.takeCommit marker).frl = s.frl ∧ (s.takeCommit
    marker).rct = s.rct ∧ (s.takeCommit marker).lfb = s.lfb ∧ (s.takeCommit marker).dctl = s.dctl ∧ (s.takeCommit
    marker).mem = s.mem ∧ (s.takeCommit marker).free = s.free ∧ (s.takeCommit marker).pending = s.pending := by
  simp [State.takeCommit]

@[simp] theorem State.commitWithoutScan_frame (marker : Half) :
    (s.commitWithoutScan marker).clock = s.clock ∧ (s.commitWithoutScan marker).pins = s.pins ∧
    (s.commitWithoutScan marker).lrx = s.lrx ∧ (s.commitWithoutScan marker).capu = s.capu ∧ (s.commitWithoutScan
    marker).marb = s.marb ∧ (s.commitWithoutScan marker).pru = s.pru ∧ (s.commitWithoutScan marker).seng = s.seng
    ∧ (s.commitWithoutScan marker).panel = s.panel ∧ (s.commitWithoutScan marker).ocap = s.ocap ∧
    (s.commitWithoutScan marker).ocmp = s.ocmp ∧ (s.commitWithoutScan marker).zsu = s.zsu ∧ (s.commitWithoutScan
    marker).frl = s.frl ∧ (s.commitWithoutScan marker).rct = s.rct ∧ (s.commitWithoutScan marker).lfb = s.lfb ∧
    (s.commitWithoutScan marker).dctl = s.dctl ∧ (s.commitWithoutScan marker).mem = s.mem ∧ (s.commitWithoutScan
    marker).free = s.free ∧ (s.commitWithoutScan marker).pending = s.pending := by
  unfold State.commitWithoutScan; split <;> simp

@[simp] theorem State.commitAtOff_frame :
    (s.commitAtOff).clock = s.clock ∧ (s.commitAtOff).pins = s.pins ∧ (s.commitAtOff).lrx = s.lrx ∧
    (s.commitAtOff).capu = s.capu ∧ (s.commitAtOff).marb = s.marb ∧ (s.commitAtOff).pru = s.pru ∧
    (s.commitAtOff).seng = s.seng ∧ (s.commitAtOff).panel = s.panel ∧ (s.commitAtOff).ocap = s.ocap ∧
    (s.commitAtOff).ocmp = s.ocmp ∧ (s.commitAtOff).zsu = s.zsu ∧ (s.commitAtOff).frl = s.frl ∧
    (s.commitAtOff).rct = s.rct ∧ (s.commitAtOff).lfb = s.lfb ∧ (s.commitAtOff).dctl = s.dctl ∧
    (s.commitAtOff).mem = s.mem ∧ (s.commitAtOff).free = s.free ∧ (s.commitAtOff).pending = s.pending := by
  unfold State.commitAtOff; split <;> simp

@[simp] theorem State.setShadow_frame (b : Bank) :
    (s.setShadow b).clock = s.clock ∧ (s.setShadow b).pins = s.pins ∧ (s.setShadow b).lrx = s.lrx ∧ (s.setShadow
    b).capu = s.capu ∧ (s.setShadow b).marb = s.marb ∧ (s.setShadow b).pru = s.pru ∧ (s.setShadow b).crp = s.crp ∧
    (s.setShadow b).ssch = s.ssch ∧ (s.setShadow b).seng = s.seng ∧ (s.setShadow b).panel = s.panel ∧ (s.setShadow
    b).ocap = s.ocap ∧ (s.setShadow b).ocmp = s.ocmp ∧ (s.setShadow b).zsu = s.zsu ∧ (s.setShadow b).frl = s.frl ∧
    (s.setShadow b).rct = s.rct ∧ (s.setShadow b).evu = s.evu ∧ (s.setShadow b).lfb = s.lfb ∧ (s.setShadow b).dctl
    = s.dctl ∧ (s.setShadow b).mem = s.mem ∧ (s.setShadow b).free = s.free ∧ (s.setShadow b).pending = s.pending := by
  simp [State.setShadow]

@[simp] theorem State.dropBackFrame_frame :
    (s.dropBackFrame).clock = s.clock ∧ (s.dropBackFrame).pins = s.pins ∧ (s.dropBackFrame).lrx = s.lrx ∧
    (s.dropBackFrame).capu = s.capu ∧ (s.dropBackFrame).pru = s.pru ∧ (s.dropBackFrame).crp = s.crp ∧
    (s.dropBackFrame).ssch = s.ssch ∧ (s.dropBackFrame).seng = s.seng ∧ (s.dropBackFrame).panel = s.panel ∧
    (s.dropBackFrame).ocmp = s.ocmp ∧ (s.dropBackFrame).tbc = s.tbc ∧ (s.dropBackFrame).zsu = s.zsu ∧
    (s.dropBackFrame).frl = s.frl ∧ (s.dropBackFrame).rct = s.rct ∧ (s.dropBackFrame).evu = s.evu ∧
    (s.dropBackFrame).lfb = s.lfb ∧ (s.dropBackFrame).dctl = s.dctl ∧ (s.dropBackFrame).mem = s.mem ∧
    (s.dropBackFrame).free = s.free ∧ (s.dropBackFrame).pending = s.pending := by
  simp [State.dropBackFrame]

@[simp] theorem State.discardOverlay_frame (begun : Bool) (phase : OverlayPhase) :
    (s.discardOverlay begun phase).clock = s.clock ∧ (s.discardOverlay begun phase).pins = s.pins ∧
    (s.discardOverlay begun phase).lrx = s.lrx ∧ (s.discardOverlay begun phase).capu = s.capu ∧ (s.discardOverlay
    begun phase).pru = s.pru ∧ (s.discardOverlay begun phase).crp = s.crp ∧ (s.discardOverlay begun phase).ssch =
    s.ssch ∧ (s.discardOverlay begun phase).seng = s.seng ∧ (s.discardOverlay begun phase).panel = s.panel ∧
    (s.discardOverlay begun phase).ocmp = s.ocmp ∧ (s.discardOverlay begun phase).tbc = s.tbc ∧ (s.discardOverlay
    begun phase).zsu = s.zsu ∧ (s.discardOverlay begun phase).frl = s.frl ∧ (s.discardOverlay begun phase).rct =
    s.rct ∧ (s.discardOverlay begun phase).lfb = s.lfb ∧ (s.discardOverlay begun phase).dctl = s.dctl ∧
    (s.discardOverlay begun phase).mem = s.mem ∧ (s.discardOverlay begun phase).free = s.free ∧ (s.discardOverlay
    begun phase).pending = s.pending := by
  unfold State.discardOverlay; split <;> simp

@[simp] theorem State.beginBackFrame_frame :
    (s.beginBackFrame).clock = s.clock ∧ (s.beginBackFrame).pins = s.pins ∧ (s.beginBackFrame).lrx = s.lrx ∧
    (s.beginBackFrame).capu = s.capu ∧ (s.beginBackFrame).marb = s.marb ∧ (s.beginBackFrame).pru = s.pru ∧
    (s.beginBackFrame).crp = s.crp ∧ (s.beginBackFrame).ssch = s.ssch ∧ (s.beginBackFrame).seng = s.seng ∧
    (s.beginBackFrame).panel = s.panel ∧ (s.beginBackFrame).ocmp = s.ocmp ∧ (s.beginBackFrame).tbc = s.tbc ∧
    (s.beginBackFrame).zsu = s.zsu ∧ (s.beginBackFrame).frl = s.frl ∧ (s.beginBackFrame).rct = s.rct ∧
    (s.beginBackFrame).evu = s.evu ∧ (s.beginBackFrame).lfb = s.lfb ∧ (s.beginBackFrame).dctl = s.dctl ∧
    (s.beginBackFrame).mem = s.mem ∧ (s.beginBackFrame).free = s.free ∧ (s.beginBackFrame).pending = s.pending := by
  simp [State.beginBackFrame]

@[simp] theorem State.overlayFrameStart_frame :
    (s.overlayFrameStart).clock = s.clock ∧ (s.overlayFrameStart).pins = s.pins ∧ (s.overlayFrameStart).lrx =
    s.lrx ∧ (s.overlayFrameStart).capu = s.capu ∧ (s.overlayFrameStart).pru = s.pru ∧ (s.overlayFrameStart).crp =
    s.crp ∧ (s.overlayFrameStart).ssch = s.ssch ∧ (s.overlayFrameStart).seng = s.seng ∧
    (s.overlayFrameStart).panel = s.panel ∧ (s.overlayFrameStart).ocmp = s.ocmp ∧ (s.overlayFrameStart).tbc =
    s.tbc ∧ (s.overlayFrameStart).zsu = s.zsu ∧ (s.overlayFrameStart).frl = s.frl ∧ (s.overlayFrameStart).rct =
    s.rct ∧ (s.overlayFrameStart).lfb = s.lfb ∧ (s.overlayFrameStart).dctl = s.dctl ∧ (s.overlayFrameStart).mem =
    s.mem ∧ (s.overlayFrameStart).free = s.free ∧ (s.overlayFrameStart).pending = s.pending := by
  unfold State.overlayFrameStart; (repeat' split) <;> simp

@[simp] theorem State.overlayLinePasses_frame (px : List OverlayPixel) :
    (s.overlayLinePasses px).clock = s.clock ∧ (s.overlayLinePasses px).pins = s.pins ∧ (s.overlayLinePasses
    px).lrx = s.lrx ∧ (s.overlayLinePasses px).capu = s.capu ∧ (s.overlayLinePasses px).pru = s.pru ∧
    (s.overlayLinePasses px).crp = s.crp ∧ (s.overlayLinePasses px).ssch = s.ssch ∧ (s.overlayLinePasses px).seng
    = s.seng ∧ (s.overlayLinePasses px).panel = s.panel ∧ (s.overlayLinePasses px).ocmp = s.ocmp ∧
    (s.overlayLinePasses px).tbc = s.tbc ∧ (s.overlayLinePasses px).zsu = s.zsu ∧ (s.overlayLinePasses px).frl =
    s.frl ∧ (s.overlayLinePasses px).rct = s.rct ∧ (s.overlayLinePasses px).lfb = s.lfb ∧ (s.overlayLinePasses
    px).dctl = s.dctl ∧ (s.overlayLinePasses px).mem = s.mem ∧ (s.overlayLinePasses px).free = s.free ∧
    (s.overlayLinePasses px).pending = s.pending := by
  unfold State.overlayLinePasses; split <;> simp

@[simp] theorem State.overlayLineEnd_frame (px : List OverlayPixel) :
    (s.overlayLineEnd px).clock = s.clock ∧ (s.overlayLineEnd px).pins = s.pins ∧ (s.overlayLineEnd px).lrx =
    s.lrx ∧ (s.overlayLineEnd px).capu = s.capu ∧ (s.overlayLineEnd px).pru = s.pru ∧ (s.overlayLineEnd px).crp =
    s.crp ∧ (s.overlayLineEnd px).ssch = s.ssch ∧ (s.overlayLineEnd px).seng = s.seng ∧ (s.overlayLineEnd
    px).panel = s.panel ∧ (s.overlayLineEnd px).ocmp = s.ocmp ∧ (s.overlayLineEnd px).tbc = s.tbc ∧
    (s.overlayLineEnd px).zsu = s.zsu ∧ (s.overlayLineEnd px).frl = s.frl ∧ (s.overlayLineEnd px).rct = s.rct ∧
    (s.overlayLineEnd px).lfb = s.lfb ∧ (s.overlayLineEnd px).dctl = s.dctl ∧ (s.overlayLineEnd px).mem = s.mem ∧
    (s.overlayLineEnd px).free = s.free ∧ (s.overlayLineEnd px).pending = s.pending := by
  unfold State.overlayLineEnd; (repeat' split) <;> simp

@[simp] theorem State.returnLost_frame (b : Bool) :
    (s.returnLost b).clock = s.clock ∧ (s.returnLost b).pins = s.pins ∧ (s.returnLost b).lrx = s.lrx ∧
    (s.returnLost b).capu = s.capu ∧ (s.returnLost b).marb = s.marb ∧ (s.returnLost b).pru = s.pru ∧ (s.returnLost
    b).crp = s.crp ∧ (s.returnLost b).ssch = s.ssch ∧ (s.returnLost b).seng = s.seng ∧ (s.returnLost b).panel =
    s.panel ∧ (s.returnLost b).ocap = s.ocap ∧ (s.returnLost b).ocmp = s.ocmp ∧ (s.returnLost b).tbc = s.tbc ∧
    (s.returnLost b).zsu = s.zsu ∧ (s.returnLost b).frl = s.frl ∧ (s.returnLost b).evu = s.evu ∧ (s.returnLost
    b).lfb = s.lfb ∧ (s.returnLost b).dctl = s.dctl ∧ (s.returnLost b).mem = s.mem ∧ (s.returnLost b).pending =
    s.pending := by
  unfold State.returnLost; split <;> simp

@[simp] theorem State.overlayLossTaken_frame :
    (s.overlayLossTaken).clock = s.clock ∧ (s.overlayLossTaken).pins = s.pins ∧ (s.overlayLossTaken).lrx = s.lrx ∧
    (s.overlayLossTaken).capu = s.capu ∧ (s.overlayLossTaken).pru = s.pru ∧ (s.overlayLossTaken).crp = s.crp ∧
    (s.overlayLossTaken).ssch = s.ssch ∧ (s.overlayLossTaken).seng = s.seng ∧ (s.overlayLossTaken).panel = s.panel
    ∧ (s.overlayLossTaken).ocmp = s.ocmp ∧ (s.overlayLossTaken).tbc = s.tbc ∧ (s.overlayLossTaken).zsu = s.zsu ∧
    (s.overlayLossTaken).frl = s.frl ∧ (s.overlayLossTaken).lfb = s.lfb ∧ (s.overlayLossTaken).dctl = s.dctl ∧
    (s.overlayLossTaken).mem = s.mem ∧ (s.overlayLossTaken).pending = s.pending := by
  unfold State.overlayLossTaken
  dsimp only; (repeat' split) <;> simp

@[simp] theorem State.overlayLockTaken_frame :
    (s.overlayLockTaken).clock = s.clock ∧ (s.overlayLockTaken).pins = s.pins ∧ (s.overlayLockTaken).lrx = s.lrx ∧
    (s.overlayLockTaken).capu = s.capu ∧ (s.overlayLockTaken).marb = s.marb ∧ (s.overlayLockTaken).pru = s.pru ∧
    (s.overlayLockTaken).crp = s.crp ∧ (s.overlayLockTaken).ssch = s.ssch ∧ (s.overlayLockTaken).seng = s.seng ∧
    (s.overlayLockTaken).panel = s.panel ∧ (s.overlayLockTaken).ocmp = s.ocmp ∧ (s.overlayLockTaken).tbc = s.tbc ∧
    (s.overlayLockTaken).zsu = s.zsu ∧ (s.overlayLockTaken).frl = s.frl ∧ (s.overlayLockTaken).rct = s.rct ∧
    (s.overlayLockTaken).evu = s.evu ∧ (s.overlayLockTaken).lfb = s.lfb ∧ (s.overlayLockTaken).dctl = s.dctl ∧
    (s.overlayLockTaken).mem = s.mem ∧ (s.overlayLockTaken).free = s.free ∧ (s.overlayLockTaken).pending =
    s.pending := by
  simp [State.overlayLockTaken]

@[simp] theorem State.advanceTarget_frame (sc : Scan) (y : Nat) :
    (s.advanceTarget sc y).clock = s.clock ∧ (s.advanceTarget sc y).pins = s.pins ∧ (s.advanceTarget sc y).lrx =
    s.lrx ∧ (s.advanceTarget sc y).capu = s.capu ∧ (s.advanceTarget sc y).pru = s.pru ∧ (s.advanceTarget sc y).crp
    = s.crp ∧ (s.advanceTarget sc y).ssch = s.ssch ∧ (s.advanceTarget sc y).seng = s.seng ∧ (s.advanceTarget sc
    y).panel = s.panel ∧ (s.advanceTarget sc y).ocap = s.ocap ∧ (s.advanceTarget sc y).tbc = s.tbc ∧
    (s.advanceTarget sc y).zsu = s.zsu ∧ (s.advanceTarget sc y).frl = s.frl ∧ (s.advanceTarget sc y).rct = s.rct ∧
    (s.advanceTarget sc y).evu = s.evu ∧ (s.advanceTarget sc y).lfb = s.lfb ∧ (s.advanceTarget sc y).dctl = s.dctl
    ∧ (s.advanceTarget sc y).mem = s.mem ∧ (s.advanceTarget sc y).free = s.free ∧ (s.advanceTarget sc y).pending =
    s.pending := by
  unfold State.advanceTarget; split <;> simp

@[simp] theorem State.cachePlaneLine_frame (line : Nat) (px : List OverlayPixel) :
    (s.cachePlaneLine line px).clock = s.clock ∧ (s.cachePlaneLine line px).pins = s.pins ∧ (s.cachePlaneLine line
    px).lrx = s.lrx ∧ (s.cachePlaneLine line px).capu = s.capu ∧ (s.cachePlaneLine line px).marb = s.marb ∧
    (s.cachePlaneLine line px).pru = s.pru ∧ (s.cachePlaneLine line px).crp = s.crp ∧ (s.cachePlaneLine line
    px).ssch = s.ssch ∧ (s.cachePlaneLine line px).seng = s.seng ∧ (s.cachePlaneLine line px).panel = s.panel ∧
    (s.cachePlaneLine line px).ocap = s.ocap ∧ (s.cachePlaneLine line px).tbc = s.tbc ∧ (s.cachePlaneLine line
    px).zsu = s.zsu ∧ (s.cachePlaneLine line px).frl = s.frl ∧ (s.cachePlaneLine line px).rct = s.rct ∧
    (s.cachePlaneLine line px).evu = s.evu ∧ (s.cachePlaneLine line px).lfb = s.lfb ∧ (s.cachePlaneLine line
    px).dctl = s.dctl ∧ (s.cachePlaneLine line px).mem = s.mem ∧ (s.cachePlaneLine line px).free = s.free ∧
    (s.cachePlaneLine line px).pending = s.pending := by
  unfold State.cachePlaneLine; (repeat' split) <;> simp

@[simp] theorem State.statsScanEnd_frame (cut : Bool) (q : Half) :
    (s.statsScanEnd cut q).clock = s.clock ∧ (s.statsScanEnd cut q).pins = s.pins ∧ (s.statsScanEnd cut q).lrx =
    s.lrx ∧ (s.statsScanEnd cut q).capu = s.capu ∧ (s.statsScanEnd cut q).marb = s.marb ∧ (s.statsScanEnd cut
    q).pru = s.pru ∧ (s.statsScanEnd cut q).crp = s.crp ∧ (s.statsScanEnd cut q).ssch = s.ssch ∧ (s.statsScanEnd
    cut q).seng = s.seng ∧ (s.statsScanEnd cut q).panel = s.panel ∧ (s.statsScanEnd cut q).ocap = s.ocap ∧
    (s.statsScanEnd cut q).ocmp = s.ocmp ∧ (s.statsScanEnd cut q).tbc = s.tbc ∧ (s.statsScanEnd cut q).frl = s.frl
    ∧ (s.statsScanEnd cut q).rct = s.rct ∧ (s.statsScanEnd cut q).lfb = s.lfb ∧ (s.statsScanEnd cut q).dctl =
    s.dctl ∧ (s.statsScanEnd cut q).mem = s.mem ∧ (s.statsScanEnd cut q).free = s.free ∧ (s.statsScanEnd cut
    q).pending = s.pending := by
  unfold State.statsScanEnd; (repeat' split) <;> simp

@[simp] theorem State.switchToPatching_frame :
    (s.switchToPatching).clock = s.clock ∧ (s.switchToPatching).pins = s.pins ∧ (s.switchToPatching).lrx = s.lrx ∧
    (s.switchToPatching).capu = s.capu ∧ (s.switchToPatching).marb = s.marb ∧ (s.switchToPatching).pru = s.pru ∧
    (s.switchToPatching).crp = s.crp ∧ (s.switchToPatching).ssch = s.ssch ∧ (s.switchToPatching).panel = s.panel ∧
    (s.switchToPatching).ocap = s.ocap ∧ (s.switchToPatching).ocmp = s.ocmp ∧ (s.switchToPatching).tbc = s.tbc ∧
    (s.switchToPatching).zsu = s.zsu ∧ (s.switchToPatching).frl = s.frl ∧ (s.switchToPatching).rct = s.rct ∧
    (s.switchToPatching).evu = s.evu ∧ (s.switchToPatching).lfb = s.lfb ∧ (s.switchToPatching).dctl = s.dctl ∧
    (s.switchToPatching).mem = s.mem ∧ (s.switchToPatching).free = s.free ∧ (s.switchToPatching).pending =
    s.pending := by
  unfold State.switchToPatching; (repeat' split) <;> simp

@[simp] theorem State.engineMalformed_frame (frame : Word) (line : Nat) :
    (s.engineMalformed frame line).clock = s.clock ∧ (s.engineMalformed frame line).pins = s.pins ∧
    (s.engineMalformed frame line).lrx = s.lrx ∧ (s.engineMalformed frame line).capu = s.capu ∧ (s.engineMalformed
    frame line).marb = s.marb ∧ (s.engineMalformed frame line).pru = s.pru ∧ (s.engineMalformed frame line).crp =
    s.crp ∧ (s.engineMalformed frame line).ssch = s.ssch ∧ (s.engineMalformed frame line).panel = s.panel ∧
    (s.engineMalformed frame line).ocap = s.ocap ∧ (s.engineMalformed frame line).ocmp = s.ocmp ∧
    (s.engineMalformed frame line).tbc = s.tbc ∧ (s.engineMalformed frame line).zsu = s.zsu ∧ (s.engineMalformed
    frame line).frl = s.frl ∧ (s.engineMalformed frame line).rct = s.rct ∧ (s.engineMalformed frame line).evu =
    s.evu ∧ (s.engineMalformed frame line).lfb = s.lfb ∧ (s.engineMalformed frame line).dctl = s.dctl ∧
    (s.engineMalformed frame line).mem = s.mem ∧ (s.engineMalformed frame line).free = s.free ∧ (s.engineMalformed
    frame line).pending = s.pending := by
  unfold State.engineMalformed; (repeat' split) <;> simp

@[simp] theorem State.engineAbandoned_frame (slot : SlotId) :
    (s.engineAbandoned slot).clock = s.clock ∧ (s.engineAbandoned slot).pins = s.pins ∧ (s.engineAbandoned
    slot).lrx = s.lrx ∧ (s.engineAbandoned slot).capu = s.capu ∧ (s.engineAbandoned slot).marb = s.marb ∧
    (s.engineAbandoned slot).pru = s.pru ∧ (s.engineAbandoned slot).crp = s.crp ∧ (s.engineAbandoned slot).ssch =
    s.ssch ∧ (s.engineAbandoned slot).panel = s.panel ∧ (s.engineAbandoned slot).ocap = s.ocap ∧
    (s.engineAbandoned slot).ocmp = s.ocmp ∧ (s.engineAbandoned slot).tbc = s.tbc ∧ (s.engineAbandoned slot).zsu =
    s.zsu ∧ (s.engineAbandoned slot).frl = s.frl ∧ (s.engineAbandoned slot).rct = s.rct ∧ (s.engineAbandoned
    slot).evu = s.evu ∧ (s.engineAbandoned slot).lfb = s.lfb ∧ (s.engineAbandoned slot).dctl = s.dctl ∧
    (s.engineAbandoned slot).mem = s.mem ∧ (s.engineAbandoned slot).free = s.free ∧ (s.engineAbandoned
    slot).pending = s.pending := by
  unfold State.engineAbandoned; (repeat' split) <;> simp

@[simp] theorem State.clearPending_frame (frame : Word) :
    (s.clearPending frame).clock = s.clock ∧ (s.clearPending frame).pins = s.pins ∧ (s.clearPending frame).lrx =
    s.lrx ∧ (s.clearPending frame).capu = s.capu ∧ (s.clearPending frame).marb = s.marb ∧ (s.clearPending
    frame).pru = s.pru ∧ (s.clearPending frame).crp = s.crp ∧ (s.clearPending frame).seng = s.seng ∧
    (s.clearPending frame).panel = s.panel ∧ (s.clearPending frame).ocap = s.ocap ∧ (s.clearPending frame).ocmp =
    s.ocmp ∧ (s.clearPending frame).tbc = s.tbc ∧ (s.clearPending frame).zsu = s.zsu ∧ (s.clearPending frame).frl
    = s.frl ∧ (s.clearPending frame).rct = s.rct ∧ (s.clearPending frame).evu = s.evu ∧ (s.clearPending frame).lfb
    = s.lfb ∧ (s.clearPending frame).dctl = s.dctl ∧ (s.clearPending frame).mem = s.mem ∧ (s.clearPending
    frame).free = s.free ∧ (s.clearPending frame).pending = s.pending := by
  unfold State.clearPending; (repeat' split) <;> simp

@[simp] theorem State.undoCapture_frame (i : SlotId) :
    (s.undoCapture i).clock = s.clock ∧ (s.undoCapture i).pins = s.pins ∧ (s.undoCapture i).lrx = s.lrx ∧
    (s.undoCapture i).pru = s.pru ∧ (s.undoCapture i).crp = s.crp ∧ (s.undoCapture i).ssch = s.ssch ∧
    (s.undoCapture i).seng = s.seng ∧ (s.undoCapture i).panel = s.panel ∧ (s.undoCapture i).ocap = s.ocap ∧
    (s.undoCapture i).ocmp = s.ocmp ∧ (s.undoCapture i).tbc = s.tbc ∧ (s.undoCapture i).zsu = s.zsu ∧
    (s.undoCapture i).frl = s.frl ∧ (s.undoCapture i).rct = s.rct ∧ (s.undoCapture i).evu = s.evu ∧ (s.undoCapture
    i).lfb = s.lfb ∧ (s.undoCapture i).dctl = s.dctl ∧ (s.undoCapture i).mem = s.mem ∧ (s.undoCapture i).free =
    s.free ∧ (s.undoCapture i).pending = s.pending := by
  simp [State.undoCapture]

@[simp] theorem State.abandonCapture_frame (i : SlotId) :
    (s.abandonCapture i).clock = s.clock ∧ (s.abandonCapture i).pins = s.pins ∧ (s.abandonCapture i).lrx = s.lrx ∧
    (s.abandonCapture i).pru = s.pru ∧ (s.abandonCapture i).crp = s.crp ∧ (s.abandonCapture i).panel = s.panel ∧
    (s.abandonCapture i).ocap = s.ocap ∧ (s.abandonCapture i).ocmp = s.ocmp ∧ (s.abandonCapture i).tbc = s.tbc ∧
    (s.abandonCapture i).zsu = s.zsu ∧ (s.abandonCapture i).frl = s.frl ∧ (s.abandonCapture i).rct = s.rct ∧
    (s.abandonCapture i).evu = s.evu ∧ (s.abandonCapture i).lfb = s.lfb ∧ (s.abandonCapture i).dctl = s.dctl ∧
    (s.abandonCapture i).mem = s.mem ∧ (s.abandonCapture i).free = s.free ∧ (s.abandonCapture i).pending =
    s.pending := by
  unfold State.abandonCapture; split <;> simp

@[simp] theorem State.captureFrameEnd_frame (frame : Word) :
    (s.captureFrameEnd frame).clock = s.clock ∧ (s.captureFrameEnd frame).pins = s.pins ∧ (s.captureFrameEnd
    frame).lrx = s.lrx ∧ (s.captureFrameEnd frame).marb = s.marb ∧ (s.captureFrameEnd frame).pru = s.pru ∧
    (s.captureFrameEnd frame).crp = s.crp ∧ (s.captureFrameEnd frame).ssch = s.ssch ∧ (s.captureFrameEnd
    frame).seng = s.seng ∧ (s.captureFrameEnd frame).panel = s.panel ∧ (s.captureFrameEnd frame).ocap = s.ocap ∧
    (s.captureFrameEnd frame).ocmp = s.ocmp ∧ (s.captureFrameEnd frame).tbc = s.tbc ∧ (s.captureFrameEnd
    frame).zsu = s.zsu ∧ (s.captureFrameEnd frame).frl = s.frl ∧ (s.captureFrameEnd frame).rct = s.rct ∧
    (s.captureFrameEnd frame).evu = s.evu ∧ (s.captureFrameEnd frame).lfb = s.lfb ∧ (s.captureFrameEnd frame).dctl
    = s.dctl ∧ (s.captureFrameEnd frame).mem = s.mem ∧ (s.captureFrameEnd frame).free = s.free ∧
    (s.captureFrameEnd frame).pending = s.pending := by
  unfold State.captureFrameEnd; split <;> simp

@[simp] theorem State.allocate_frame (frame : Word) (w l : Nat) :
    (s.allocate frame w l).clock = s.clock ∧ (s.allocate frame w l).pins = s.pins ∧ (s.allocate frame w l).lrx =
    s.lrx ∧ (s.allocate frame w l).marb = s.marb ∧ (s.allocate frame w l).pru = s.pru ∧ (s.allocate frame w l).crp
    = s.crp ∧ (s.allocate frame w l).ssch = s.ssch ∧ (s.allocate frame w l).seng = s.seng ∧ (s.allocate frame w
    l).panel = s.panel ∧ (s.allocate frame w l).ocap = s.ocap ∧ (s.allocate frame w l).ocmp = s.ocmp ∧ (s.allocate
    frame w l).tbc = s.tbc ∧ (s.allocate frame w l).zsu = s.zsu ∧ (s.allocate frame w l).frl = s.frl ∧ (s.allocate
    frame w l).rct = s.rct ∧ (s.allocate frame w l).evu = s.evu ∧ (s.allocate frame w l).lfb = s.lfb ∧ (s.allocate
    frame w l).dctl = s.dctl ∧ (s.allocate frame w l).mem = s.mem ∧ (s.allocate frame w l).free = s.free ∧
    (s.allocate frame w l).pending = s.pending := by
  unfold State.allocate; split <;> simp

@[simp] theorem State.captureLine_frame (frame : Word) (line : Nat) (px : List GamePixel) :
    (s.captureLine frame line px).clock = s.clock ∧ (s.captureLine frame line px).pins = s.pins ∧ (s.captureLine
    frame line px).lrx = s.lrx ∧ (s.captureLine frame line px).pru = s.pru ∧ (s.captureLine frame line px).crp =
    s.crp ∧ (s.captureLine frame line px).panel = s.panel ∧ (s.captureLine frame line px).ocap = s.ocap ∧
    (s.captureLine frame line px).ocmp = s.ocmp ∧ (s.captureLine frame line px).tbc = s.tbc ∧ (s.captureLine frame
    line px).zsu = s.zsu ∧ (s.captureLine frame line px).frl = s.frl ∧ (s.captureLine frame line px).rct = s.rct ∧
    (s.captureLine frame line px).lfb = s.lfb ∧ (s.captureLine frame line px).dctl = s.dctl ∧ (s.captureLine frame
    line px).mem = s.mem ∧ (s.captureLine frame line px).free = s.free ∧ (s.captureLine frame line px).pending =
    s.pending := by
  unfold State.captureLine; (repeat' split) <;> simp

@[simp] theorem State.engineLine_frame (frame : Word) (line start : Nat) (px : List GamePixel) :
    (s.engineLine frame line start px).clock = s.clock ∧ (s.engineLine frame line start px).pins = s.pins ∧
    (s.engineLine frame line start px).lrx = s.lrx ∧ (s.engineLine frame line start px).capu = s.capu ∧
    (s.engineLine frame line start px).marb = s.marb ∧ (s.engineLine frame line start px).pru = s.pru ∧
    (s.engineLine frame line start px).crp = s.crp ∧ (s.engineLine frame line start px).ssch = s.ssch ∧
    (s.engineLine frame line start px).panel = s.panel ∧ (s.engineLine frame line start px).ocap = s.ocap ∧
    (s.engineLine frame line start px).ocmp = s.ocmp ∧ (s.engineLine frame line start px).tbc = s.tbc ∧
    (s.engineLine frame line start px).zsu = s.zsu ∧ (s.engineLine frame line start px).frl = s.frl ∧
    (s.engineLine frame line start px).rct = s.rct ∧ (s.engineLine frame line start px).evu = s.evu ∧
    (s.engineLine frame line start px).lfb = s.lfb ∧ (s.engineLine frame line start px).dctl = s.dctl ∧
    (s.engineLine frame line start px).mem = s.mem ∧ (s.engineLine frame line start px).free = s.free ∧
    (s.engineLine frame line start px).pending = s.pending := by
  unfold State.engineLine; (repeat' split) <;> simp

@[simp] theorem State.emitLine_frame (sc : Scan) (made : Produced) (b : Bool) :
    (s.emitLine sc made b).clock = s.clock ∧ (s.emitLine sc made b).pins = s.pins ∧ (s.emitLine sc made b).lrx =
    s.lrx ∧ (s.emitLine sc made b).capu = s.capu ∧ (s.emitLine sc made b).pru = s.pru ∧ (s.emitLine sc made b).crp
    = s.crp ∧ (s.emitLine sc made b).ssch = s.ssch ∧ (s.emitLine sc made b).ocap = s.ocap ∧ (s.emitLine sc made
    b).tbc = s.tbc ∧ (s.emitLine sc made b).frl = s.frl ∧ (s.emitLine sc made b).rct = s.rct ∧ (s.emitLine sc made
    b).lfb = s.lfb ∧ (s.emitLine sc made b).dctl = s.dctl ∧ (s.emitLine sc made b).mem = s.mem ∧ (s.emitLine sc
    made b).free = s.free ∧ (s.emitLine sc made b).pending = s.pending := by
  unfold State.emitLine
  (try dsimp only); (repeat' split) <;> simp

@[simp] theorem State.outputLine_frame (sc : Scan) :
    (s.outputLine sc).clock = s.clock ∧ (s.outputLine sc).pins = s.pins ∧ (s.outputLine sc).lrx = s.lrx ∧
    (s.outputLine sc).capu = s.capu ∧ (s.outputLine sc).pru = s.pru ∧ (s.outputLine sc).crp = s.crp ∧
    (s.outputLine sc).ssch = s.ssch ∧ (s.outputLine sc).ocap = s.ocap ∧ (s.outputLine sc).tbc = s.tbc ∧
    (s.outputLine sc).frl = s.frl ∧ (s.outputLine sc).rct = s.rct ∧ (s.outputLine sc).lfb = s.lfb ∧ (s.outputLine
    sc).dctl = s.dctl ∧ (s.outputLine sc).mem = s.mem ∧ (s.outputLine sc).pending = s.pending := by
  unfold State.outputLine
  (try dsimp only); (repeat' split) <;> simp

@[simp] theorem State.keepSlotLine_frame (slot : SlotId) (line : Nat) :
    (s.keepSlotLine slot line).clock = s.clock ∧ (s.keepSlotLine slot line).pins = s.pins ∧ (s.keepSlotLine slot
    line).lrx = s.lrx ∧ (s.keepSlotLine slot line).capu = s.capu ∧ (s.keepSlotLine slot line).marb = s.marb ∧
    (s.keepSlotLine slot line).pru = s.pru ∧ (s.keepSlotLine slot line).crp = s.crp ∧ (s.keepSlotLine slot
    line).ssch = s.ssch ∧ (s.keepSlotLine slot line).panel = s.panel ∧ (s.keepSlotLine slot line).ocap = s.ocap ∧
    (s.keepSlotLine slot line).ocmp = s.ocmp ∧ (s.keepSlotLine slot line).tbc = s.tbc ∧ (s.keepSlotLine slot
    line).zsu = s.zsu ∧ (s.keepSlotLine slot line).frl = s.frl ∧ (s.keepSlotLine slot line).rct = s.rct ∧
    (s.keepSlotLine slot line).evu = s.evu ∧ (s.keepSlotLine slot line).lfb = s.lfb ∧ (s.keepSlotLine slot
    line).dctl = s.dctl ∧ (s.keepSlotLine slot line).mem = s.mem ∧ (s.keepSlotLine slot line).free = s.free ∧
    (s.keepSlotLine slot line).pending = s.pending := by
  unfold State.keepSlotLine; (repeat' split) <;> simp

@[simp] theorem State.clearEngine_frame :
    (s.clearEngine).clock = s.clock ∧ (s.clearEngine).pins = s.pins ∧ (s.clearEngine).lrx = s.lrx ∧
    (s.clearEngine).capu = s.capu ∧ (s.clearEngine).pru = s.pru ∧ (s.clearEngine).crp = s.crp ∧
    (s.clearEngine).ssch = s.ssch ∧ (s.clearEngine).panel = s.panel ∧ (s.clearEngine).ocap = s.ocap ∧
    (s.clearEngine).tbc = s.tbc ∧ (s.clearEngine).zsu = s.zsu ∧ (s.clearEngine).frl = s.frl ∧ (s.clearEngine).rct
    = s.rct ∧ (s.clearEngine).evu = s.evu ∧ (s.clearEngine).lfb = s.lfb ∧ (s.clearEngine).dctl = s.dctl ∧
    (s.clearEngine).mem = s.mem ∧ (s.clearEngine).free = s.free ∧ (s.clearEngine).pending = s.pending := by
  simp [State.clearEngine]

@[simp] theorem State.engineScanEnd_frame (cut : Bool) (sc : Scan) :
    (s.engineScanEnd cut sc).clock = s.clock ∧ (s.engineScanEnd cut sc).pins = s.pins ∧ (s.engineScanEnd cut
    sc).lrx = s.lrx ∧ (s.engineScanEnd cut sc).pru = s.pru ∧ (s.engineScanEnd cut sc).crp = s.crp ∧
    (s.engineScanEnd cut sc).ssch = s.ssch ∧ (s.engineScanEnd cut sc).panel = s.panel ∧ (s.engineScanEnd cut
    sc).ocap = s.ocap ∧ (s.engineScanEnd cut sc).tbc = s.tbc ∧ (s.engineScanEnd cut sc).rct = s.rct ∧
    (s.engineScanEnd cut sc).lfb = s.lfb ∧ (s.engineScanEnd cut sc).dctl = s.dctl ∧ (s.engineScanEnd cut sc).mem =
    s.mem ∧ (s.engineScanEnd cut sc).free = s.free ∧ (s.engineScanEnd cut sc).pending = s.pending := by
  simp [State.engineScanEnd]

@[simp] theorem State.commitAtStart_frame :
    (s.commitAtStart).clock = s.clock ∧ (s.commitAtStart).pins = s.pins ∧ (s.commitAtStart).lrx = s.lrx ∧
    (s.commitAtStart).capu = s.capu ∧ (s.commitAtStart).marb = s.marb ∧ (s.commitAtStart).pru = s.pru ∧
    (s.commitAtStart).crp = s.crp ∧ (s.commitAtStart).ssch = s.ssch ∧ (s.commitAtStart).seng = s.seng ∧
    (s.commitAtStart).panel = s.panel ∧ (s.commitAtStart).ocap = s.ocap ∧ (s.commitAtStart).ocmp = s.ocmp ∧
    (s.commitAtStart).zsu = s.zsu ∧ (s.commitAtStart).frl = s.frl ∧ (s.commitAtStart).rct = s.rct ∧
    (s.commitAtStart).lfb = s.lfb ∧ (s.commitAtStart).dctl = s.dctl ∧ (s.commitAtStart).mem = s.mem ∧
    (s.commitAtStart).free = s.free ∧ (s.commitAtStart).pending = s.pending := by
  unfold State.commitAtStart; split <;> simp

@[simp] theorem State.freshReport_frame (t : Word) :
    (s.freshReport t).clock = s.clock ∧ (s.freshReport t).pins = s.pins ∧ (s.freshReport t).lrx = s.lrx ∧
    (s.freshReport t).capu = s.capu ∧ (s.freshReport t).marb = s.marb ∧ (s.freshReport t).pru = s.pru ∧
    (s.freshReport t).seng = s.seng ∧ (s.freshReport t).panel = s.panel ∧ (s.freshReport t).ocap = s.ocap ∧
    (s.freshReport t).ocmp = s.ocmp ∧ (s.freshReport t).tbc = s.tbc ∧ (s.freshReport t).zsu = s.zsu ∧
    (s.freshReport t).frl = s.frl ∧ (s.freshReport t).rct = s.rct ∧ (s.freshReport t).lfb = s.lfb ∧ (s.freshReport
    t).dctl = s.dctl ∧ (s.freshReport t).mem = s.mem ∧ (s.freshReport t).free = s.free ∧ (s.freshReport t).pending
    = s.pending := by
  unfold State.freshReport
  (try dsimp only); (repeat' split) <;> simp

@[simp] theorem State.liveReports_frame (frame : Word) (b : Bool) :
    (s.liveReports frame b).clock = s.clock ∧ (s.liveReports frame b).pins = s.pins ∧ (s.liveReports frame b).lrx
    = s.lrx ∧ (s.liveReports frame b).capu = s.capu ∧ (s.liveReports frame b).marb = s.marb ∧ (s.liveReports frame
    b).pru = s.pru ∧ (s.liveReports frame b).seng = s.seng ∧ (s.liveReports frame b).panel = s.panel ∧
    (s.liveReports frame b).ocap = s.ocap ∧ (s.liveReports frame b).ocmp = s.ocmp ∧ (s.liveReports frame b).tbc =
    s.tbc ∧ (s.liveReports frame b).zsu = s.zsu ∧ (s.liveReports frame b).frl = s.frl ∧ (s.liveReports frame
    b).rct = s.rct ∧ (s.liveReports frame b).lfb = s.lfb ∧ (s.liveReports frame b).dctl = s.dctl ∧ (s.liveReports
    frame b).mem = s.mem ∧ (s.liveReports frame b).pending = s.pending := by
  unfold State.liveReports; (repeat' split) <;> simp

@[simp] theorem State.reportWithoutFrame_frame (b : Bool) :
    (s.reportWithoutFrame b).clock = s.clock ∧ (s.reportWithoutFrame b).pins = s.pins ∧ (s.reportWithoutFrame
    b).lrx = s.lrx ∧ (s.reportWithoutFrame b).capu = s.capu ∧ (s.reportWithoutFrame b).marb = s.marb ∧
    (s.reportWithoutFrame b).pru = s.pru ∧ (s.reportWithoutFrame b).seng = s.seng ∧ (s.reportWithoutFrame b).panel
    = s.panel ∧ (s.reportWithoutFrame b).ocap = s.ocap ∧ (s.reportWithoutFrame b).ocmp = s.ocmp ∧
    (s.reportWithoutFrame b).tbc = s.tbc ∧ (s.reportWithoutFrame b).zsu = s.zsu ∧ (s.reportWithoutFrame b).frl =
    s.frl ∧ (s.reportWithoutFrame b).rct = s.rct ∧ (s.reportWithoutFrame b).evu = s.evu ∧ (s.reportWithoutFrame
    b).lfb = s.lfb ∧ (s.reportWithoutFrame b).dctl = s.dctl ∧ (s.reportWithoutFrame b).mem = s.mem ∧
    (s.reportWithoutFrame b).free = s.free ∧ (s.reportWithoutFrame b).pending = s.pending := by
  unfold State.reportWithoutFrame; split <;> simp

@[simp] theorem State.cadenceAtStart_frame (r : StartReason) (a b : Bool) :
    (s.cadenceAtStart r a b).clock = s.clock ∧ (s.cadenceAtStart r a b).pins = s.pins ∧ (s.cadenceAtStart r a
    b).lrx = s.lrx ∧ (s.cadenceAtStart r a b).capu = s.capu ∧ (s.cadenceAtStart r a b).marb = s.marb ∧
    (s.cadenceAtStart r a b).pru = s.pru ∧ (s.cadenceAtStart r a b).seng = s.seng ∧ (s.cadenceAtStart r a b).panel
    = s.panel ∧ (s.cadenceAtStart r a b).ocap = s.ocap ∧ (s.cadenceAtStart r a b).ocmp = s.ocmp ∧
    (s.cadenceAtStart r a b).tbc = s.tbc ∧ (s.cadenceAtStart r a b).zsu = s.zsu ∧ (s.cadenceAtStart r a b).frl =
    s.frl ∧ (s.cadenceAtStart r a b).rct = s.rct ∧ (s.cadenceAtStart r a b).lfb = s.lfb ∧ (s.cadenceAtStart r a
    b).dctl = s.dctl ∧ (s.cadenceAtStart r a b).mem = s.mem ∧ (s.cadenceAtStart r a b).pending = s.pending := by
  unfold State.cadenceAtStart; (repeat' split) <;> simp

@[simp] theorem State.schedulerAtStart_frame (r : StartReason) (b : Bool) :
    (s.schedulerAtStart r b).clock = s.clock ∧ (s.schedulerAtStart r b).pins = s.pins ∧ (s.schedulerAtStart r
    b).lrx = s.lrx ∧ (s.schedulerAtStart r b).capu = s.capu ∧ (s.schedulerAtStart r b).marb = s.marb ∧
    (s.schedulerAtStart r b).pru = s.pru ∧ (s.schedulerAtStart r b).crp = s.crp ∧ (s.schedulerAtStart r b).seng =
    s.seng ∧ (s.schedulerAtStart r b).panel = s.panel ∧ (s.schedulerAtStart r b).ocap = s.ocap ∧
    (s.schedulerAtStart r b).ocmp = s.ocmp ∧ (s.schedulerAtStart r b).tbc = s.tbc ∧ (s.schedulerAtStart r b).zsu =
    s.zsu ∧ (s.schedulerAtStart r b).frl = s.frl ∧ (s.schedulerAtStart r b).rct = s.rct ∧ (s.schedulerAtStart r
    b).evu = s.evu ∧ (s.schedulerAtStart r b).lfb = s.lfb ∧ (s.schedulerAtStart r b).dctl = s.dctl ∧
    (s.schedulerAtStart r b).mem = s.mem ∧ (s.schedulerAtStart r b).free = s.free ∧ (s.schedulerAtStart r
    b).pending = s.pending := by
  simp [State.schedulerAtStart]

@[simp] theorem State.imageAtStart_frame (k : Kind) :
    (s.imageAtStart k).clock = s.clock ∧ (s.imageAtStart k).pins = s.pins ∧ (s.imageAtStart k).lrx = s.lrx ∧
    (s.imageAtStart k).capu = s.capu ∧ (s.imageAtStart k).marb = s.marb ∧ (s.imageAtStart k).pru = s.pru ∧
    (s.imageAtStart k).crp = s.crp ∧ (s.imageAtStart k).ssch = s.ssch ∧ (s.imageAtStart k).seng = s.seng ∧
    (s.imageAtStart k).panel = s.panel ∧ (s.imageAtStart k).ocmp = s.ocmp ∧ (s.imageAtStart k).tbc = s.tbc ∧
    (s.imageAtStart k).frl = s.frl ∧ (s.imageAtStart k).rct = s.rct ∧ (s.imageAtStart k).evu = s.evu ∧
    (s.imageAtStart k).lfb = s.lfb ∧ (s.imageAtStart k).dctl = s.dctl ∧ (s.imageAtStart k).mem = s.mem ∧
    (s.imageAtStart k).free = s.free ∧ (s.imageAtStart k).pending = s.pending := by
  simp [State.imageAtStart]

@[simp] theorem State.engineAtStart_frame (sc : Scan) :
    (s.engineAtStart sc).clock = s.clock ∧ (s.engineAtStart sc).pins = s.pins ∧ (s.engineAtStart sc).lrx = s.lrx ∧
    (s.engineAtStart sc).capu = s.capu ∧ (s.engineAtStart sc).marb = s.marb ∧ (s.engineAtStart sc).pru = s.pru ∧
    (s.engineAtStart sc).crp = s.crp ∧ (s.engineAtStart sc).ssch = s.ssch ∧ (s.engineAtStart sc).ocap = s.ocap ∧
    (s.engineAtStart sc).tbc = s.tbc ∧ (s.engineAtStart sc).zsu = s.zsu ∧ (s.engineAtStart sc).frl = s.frl ∧
    (s.engineAtStart sc).rct = s.rct ∧ (s.engineAtStart sc).evu = s.evu ∧ (s.engineAtStart sc).lfb = s.lfb ∧
    (s.engineAtStart sc).dctl = s.dctl ∧ (s.engineAtStart sc).mem = s.mem ∧ (s.engineAtStart sc).free = s.free ∧
    (s.engineAtStart sc).pending = s.pending := by
  simp [State.engineAtStart]

@[simp] theorem State.startScan_frame (r : StartReason) :
    (s.startScan r).clock = s.clock ∧ (s.startScan r).pins = s.pins ∧ (s.startScan r).lrx = s.lrx ∧ (s.startScan
    r).capu = s.capu ∧ (s.startScan r).marb = s.marb ∧ (s.startScan r).pru = s.pru ∧ (s.startScan r).frl = s.frl ∧
    (s.startScan r).rct = s.rct ∧ (s.startScan r).lfb = s.lfb ∧ (s.startScan r).dctl = s.dctl ∧ (s.startScan
    r).mem = s.mem ∧ (s.startScan r).pending = s.pending := by
  simp [State.startScan]

@[simp] theorem State.takeOpen_frame :
    (s.takeOpen).clock = s.clock ∧ (s.takeOpen).pins = s.pins ∧ (s.takeOpen).lrx = s.lrx ∧ (s.takeOpen).capu =
    s.capu ∧ (s.takeOpen).marb = s.marb ∧ (s.takeOpen).pru = s.pru ∧ (s.takeOpen).frl = s.frl ∧ (s.takeOpen).rct =
    s.rct ∧ (s.takeOpen).lfb = s.lfb ∧ (s.takeOpen).dctl = s.dctl ∧ (s.takeOpen).mem = s.mem ∧
    (s.takeOpen).pending = s.pending := by
  unfold State.takeOpen; (repeat' split) <;> simp

@[simp] theorem State.takeMin_frame :
    (s.takeMin).clock = s.clock ∧ (s.takeMin).pins = s.pins ∧ (s.takeMin).lrx = s.lrx ∧ (s.takeMin).capu = s.capu
    ∧ (s.takeMin).marb = s.marb ∧ (s.takeMin).pru = s.pru ∧ (s.takeMin).frl = s.frl ∧ (s.takeMin).rct = s.rct ∧
    (s.takeMin).lfb = s.lfb ∧ (s.takeMin).dctl = s.dctl ∧ (s.takeMin).mem = s.mem ∧ (s.takeMin).pending =
    s.pending := by
  unfold State.takeMin; split <;> simp

@[simp] theorem State.takeActive_frame :
    (s.takeActive).clock = s.clock ∧ (s.takeActive).pins = s.pins ∧ (s.takeActive).lrx = s.lrx ∧
    (s.takeActive).capu = s.capu ∧ (s.takeActive).marb = s.marb ∧ (s.takeActive).pru = s.pru ∧ (s.takeActive).frl
    = s.frl ∧ (s.takeActive).rct = s.rct ∧ (s.takeActive).lfb = s.lfb ∧ (s.takeActive).dctl = s.dctl ∧
    (s.takeActive).mem = s.mem ∧ (s.takeActive).pending = s.pending := by
  unfold State.takeActive; (repeat' split) <;> simp

@[simp] theorem State.minExpires_frame :
    (s.minExpires).clock = s.clock ∧ (s.minExpires).pins = s.pins ∧ (s.minExpires).lrx = s.lrx ∧
    (s.minExpires).capu = s.capu ∧ (s.minExpires).marb = s.marb ∧ (s.minExpires).pru = s.pru ∧ (s.minExpires).frl
    = s.frl ∧ (s.minExpires).rct = s.rct ∧ (s.minExpires).lfb = s.lfb ∧ (s.minExpires).dctl = s.dctl ∧
    (s.minExpires).mem = s.mem ∧ (s.minExpires).pending = s.pending := by
  unfold State.minExpires; split <;> simp

@[simp] theorem State.deadlineExpires_frame :
    (s.deadlineExpires).clock = s.clock ∧ (s.deadlineExpires).pins = s.pins ∧ (s.deadlineExpires).lrx = s.lrx ∧
    (s.deadlineExpires).capu = s.capu ∧ (s.deadlineExpires).marb = s.marb ∧ (s.deadlineExpires).pru = s.pru ∧
    (s.deadlineExpires).frl = s.frl ∧ (s.deadlineExpires).rct = s.rct ∧ (s.deadlineExpires).lfb = s.lfb ∧
    (s.deadlineExpires).dctl = s.dctl ∧ (s.deadlineExpires).mem = s.mem ∧ (s.deadlineExpires).pending = s.pending := by
  unfold State.deadlineExpires; split <;> simp

@[simp] theorem State.freeRunExpires_frame :
    (s.freeRunExpires).clock = s.clock ∧ (s.freeRunExpires).pins = s.pins ∧ (s.freeRunExpires).lrx = s.lrx ∧
    (s.freeRunExpires).capu = s.capu ∧ (s.freeRunExpires).marb = s.marb ∧ (s.freeRunExpires).pru = s.pru ∧
    (s.freeRunExpires).frl = s.frl ∧ (s.freeRunExpires).rct = s.rct ∧ (s.freeRunExpires).lfb = s.lfb ∧
    (s.freeRunExpires).dctl = s.dctl ∧ (s.freeRunExpires).mem = s.mem ∧ (s.freeRunExpires).pending = s.pending := by
  unfold State.freeRunExpires; split <;> simp

@[simp] theorem State.repeatDue_frame (p : Word) (n : Nat) :
    (s.repeatDue p n).clock = s.clock ∧ (s.repeatDue p n).pins = s.pins ∧ (s.repeatDue p n).lrx = s.lrx ∧
    (s.repeatDue p n).capu = s.capu ∧ (s.repeatDue p n).marb = s.marb ∧ (s.repeatDue p n).pru = s.pru ∧
    (s.repeatDue p n).frl = s.frl ∧ (s.repeatDue p n).rct = s.rct ∧ (s.repeatDue p n).lfb = s.lfb ∧ (s.repeatDue p
    n).dctl = s.dctl ∧ (s.repeatDue p n).mem = s.mem ∧ (s.repeatDue p n).pending = s.pending := by
  unfold State.repeatDue; (repeat' split) <;> simp

@[simp] theorem State.planPoint_frame (p : Word) :
    (s.planPoint p).clock = s.clock ∧ (s.planPoint p).pins = s.pins ∧ (s.planPoint p).lrx = s.lrx ∧ (s.planPoint
    p).capu = s.capu ∧ (s.planPoint p).marb = s.marb ∧ (s.planPoint p).pru = s.pru ∧ (s.planPoint p).frl = s.frl ∧
    (s.planPoint p).rct = s.rct ∧ (s.planPoint p).lfb = s.lfb ∧ (s.planPoint p).dctl = s.dctl ∧ (s.planPoint
    p).mem = s.mem ∧ (s.planPoint p).pending = s.pending := by
  simp [State.planPoint]

@[simp] theorem State.planTimerExpires_frame :
    (s.planTimerExpires).clock = s.clock ∧ (s.planTimerExpires).pins = s.pins ∧ (s.planTimerExpires).lrx = s.lrx ∧
    (s.planTimerExpires).capu = s.capu ∧ (s.planTimerExpires).marb = s.marb ∧ (s.planTimerExpires).pru = s.pru ∧
    (s.planTimerExpires).frl = s.frl ∧ (s.planTimerExpires).rct = s.rct ∧ (s.planTimerExpires).lfb = s.lfb ∧
    (s.planTimerExpires).dctl = s.dctl ∧ (s.planTimerExpires).mem = s.mem ∧ (s.planTimerExpires).pending =
    s.pending := by
  unfold State.planTimerExpires; (repeat' split) <;> simp

@[simp] theorem State.reachOff_frame :
    (s.reachOff).clock = s.clock ∧ (s.reachOff).pins = s.pins ∧ (s.reachOff).lrx = s.lrx ∧ (s.reachOff).capu =
    s.capu ∧ (s.reachOff).marb = s.marb ∧ (s.reachOff).pru = s.pru ∧ (s.reachOff).panel = s.panel ∧
    (s.reachOff).ocap = s.ocap ∧ (s.reachOff).ocmp = s.ocmp ∧ (s.reachOff).zsu = s.zsu ∧ (s.reachOff).frl = s.frl
    ∧ (s.reachOff).rct = s.rct ∧ (s.reachOff).lfb = s.lfb ∧ (s.reachOff).mem = s.mem ∧ (s.reachOff).free = s.free
    ∧ (s.reachOff).pending = s.pending := by
  simp [State.reachOff]

@[simp] theorem State.afterScanEnd_frame :
    (s.afterScanEnd).clock = s.clock ∧ (s.afterScanEnd).pins = s.pins ∧ (s.afterScanEnd).lrx = s.lrx ∧
    (s.afterScanEnd).capu = s.capu ∧ (s.afterScanEnd).marb = s.marb ∧ (s.afterScanEnd).pru = s.pru ∧
    (s.afterScanEnd).frl = s.frl ∧ (s.afterScanEnd).rct = s.rct ∧ (s.afterScanEnd).lfb = s.lfb ∧
    (s.afterScanEnd).mem = s.mem ∧ (s.afterScanEnd).pending = s.pending := by
  unfold State.afterScanEnd; split <;> simp

@[simp] theorem State.outputTime_frame :
    (s.outputTime).clock = s.clock ∧ (s.outputTime).pins = s.pins ∧ (s.outputTime).lrx = s.lrx ∧
    (s.outputTime).pru = s.pru ∧ (s.outputTime).rct = s.rct ∧ (s.outputTime).lfb = s.lfb ∧ (s.outputTime).mem =
    s.mem ∧ (s.outputTime).pending = s.pending := by
  unfold State.outputTime; (repeat' split) <;> simp

@[simp] theorem State.leaveOff_frame :
    (s.leaveOff).clock = s.clock ∧ (s.leaveOff).pins = s.pins ∧ (s.leaveOff).lrx = s.lrx ∧ (s.leaveOff).capu =
    s.capu ∧ (s.leaveOff).marb = s.marb ∧ (s.leaveOff).pru = s.pru ∧ (s.leaveOff).crp = s.crp ∧ (s.leaveOff).seng
    = s.seng ∧ (s.leaveOff).panel = s.panel ∧ (s.leaveOff).ocap = s.ocap ∧ (s.leaveOff).ocmp = s.ocmp ∧
    (s.leaveOff).tbc = s.tbc ∧ (s.leaveOff).zsu = s.zsu ∧ (s.leaveOff).frl = s.frl ∧ (s.leaveOff).rct = s.rct ∧
    (s.leaveOff).evu = s.evu ∧ (s.leaveOff).lfb = s.lfb ∧ (s.leaveOff).dctl = s.dctl ∧ (s.leaveOff).mem = s.mem ∧
    (s.leaveOff).free = s.free ∧ (s.leaveOff).pending = s.pending := by
  unfold State.leaveOff; split <;> simp

@[simp] theorem State.markOpening_frame (k : Option Kept) :
    (s.markOpening k).clock = s.clock ∧ (s.markOpening k).pins = s.pins ∧ (s.markOpening k).lrx = s.lrx ∧
    (s.markOpening k).capu = s.capu ∧ (s.markOpening k).marb = s.marb ∧ (s.markOpening k).pru = s.pru ∧
    (s.markOpening k).crp = s.crp ∧ (s.markOpening k).ssch = s.ssch ∧ (s.markOpening k).panel = s.panel ∧
    (s.markOpening k).ocap = s.ocap ∧ (s.markOpening k).ocmp = s.ocmp ∧ (s.markOpening k).tbc = s.tbc ∧
    (s.markOpening k).zsu = s.zsu ∧ (s.markOpening k).frl = s.frl ∧ (s.markOpening k).rct = s.rct ∧
    (s.markOpening k).evu = s.evu ∧ (s.markOpening k).lfb = s.lfb ∧ (s.markOpening k).dctl = s.dctl ∧
    (s.markOpening k).mem = s.mem ∧ (s.markOpening k).free = s.free ∧ (s.markOpening k).pending = s.pending :=
    by
  simp [State.markOpening]

@[simp] theorem State.startRun_frame :
    (s.startRun).clock = s.clock ∧ (s.startRun).pins = s.pins ∧ (s.startRun).lrx = s.lrx ∧ (s.startRun).capu =
    s.capu ∧ (s.startRun).marb = s.marb ∧ (s.startRun).pru = s.pru ∧ (s.startRun).frl = s.frl ∧ (s.startRun).rct =
    s.rct ∧ (s.startRun).lfb = s.lfb ∧ (s.startRun).mem = s.mem ∧ (s.startRun).pending = s.pending := by
  simp [State.startRun]

@[simp] theorem State.forceStop_frame :
    (s.forceStop).clock = s.clock ∧ (s.forceStop).pins = s.pins ∧ (s.forceStop).lrx = s.lrx ∧ (s.forceStop).pru =
    s.pru ∧ (s.forceStop).rct = s.rct ∧ (s.forceStop).lfb = s.lfb ∧ (s.forceStop).mem = s.mem ∧
    (s.forceStop).pending = s.pending := by
  unfold State.forceStop; (repeat' split) <;> simp

@[simp] theorem State.closeCheck_frame :
    (s.closeCheck).clock = s.clock ∧ (s.closeCheck).pins = s.pins ∧ (s.closeCheck).capu = s.capu ∧
    (s.closeCheck).marb = s.marb ∧ (s.closeCheck).pru = s.pru ∧ (s.closeCheck).crp = s.crp ∧ (s.closeCheck).ssch =
    s.ssch ∧ (s.closeCheck).seng = s.seng ∧ (s.closeCheck).panel = s.panel ∧ (s.closeCheck).ocap = s.ocap ∧
    (s.closeCheck).ocmp = s.ocmp ∧ (s.closeCheck).tbc = s.tbc ∧ (s.closeCheck).zsu = s.zsu ∧ (s.closeCheck).frl =
    s.frl ∧ (s.closeCheck).rct = s.rct ∧ (s.closeCheck).evu = s.evu ∧ (s.closeCheck).lfb = s.lfb ∧
    (s.closeCheck).dctl = s.dctl ∧ (s.closeCheck).mem = s.mem ∧ (s.closeCheck).free = s.free ∧
    (s.closeCheck).pending = s.pending := by
  simp [State.closeCheck]

@[simp] theorem State.abandonFrame_frame (frame : Word) :
    (s.abandonFrame frame).clock = s.clock ∧ (s.abandonFrame frame).pins = s.pins ∧ (s.abandonFrame frame).lrx =
    s.lrx ∧ (s.abandonFrame frame).pru = s.pru ∧ (s.abandonFrame frame).crp = s.crp ∧ (s.abandonFrame frame).panel
    = s.panel ∧ (s.abandonFrame frame).ocap = s.ocap ∧ (s.abandonFrame frame).ocmp = s.ocmp ∧ (s.abandonFrame
    frame).tbc = s.tbc ∧ (s.abandonFrame frame).zsu = s.zsu ∧ (s.abandonFrame frame).frl = s.frl ∧ (s.abandonFrame
    frame).rct = s.rct ∧ (s.abandonFrame frame).evu = s.evu ∧ (s.abandonFrame frame).lfb = s.lfb ∧ (s.abandonFrame
    frame).dctl = s.dctl ∧ (s.abandonFrame frame).mem = s.mem ∧ (s.abandonFrame frame).free = s.free ∧
    (s.abandonFrame frame).pending = s.pending := by
  unfold State.abandonFrame; split <;> simp

@[simp] theorem State.malformed_frame (frame : Word) (k : Nat) :
    (s.malformed frame k).clock = s.clock ∧ (s.malformed frame k).pins = s.pins ∧ (s.malformed frame k).pru =
    s.pru ∧ (s.malformed frame k).crp = s.crp ∧ (s.malformed frame k).panel = s.panel ∧ (s.malformed frame k).ocap
    = s.ocap ∧ (s.malformed frame k).ocmp = s.ocmp ∧ (s.malformed frame k).tbc = s.tbc ∧ (s.malformed frame k).zsu
    = s.zsu ∧ (s.malformed frame k).frl = s.frl ∧ (s.malformed frame k).rct = s.rct ∧ (s.malformed frame k).lfb =
    s.lfb ∧ (s.malformed frame k).dctl = s.dctl ∧ (s.malformed frame k).mem = s.mem ∧ (s.malformed frame k).free =
    s.free ∧ (s.malformed frame k).pending = s.pending := by
  simp [State.malformed]

@[simp] theorem State.cutArriving_frame :
    (s.cutArriving).clock = s.clock ∧ (s.cutArriving).pins = s.pins ∧ (s.cutArriving).pru = s.pru ∧
    (s.cutArriving).crp = s.crp ∧ (s.cutArriving).panel = s.panel ∧ (s.cutArriving).ocap = s.ocap ∧
    (s.cutArriving).ocmp = s.ocmp ∧ (s.cutArriving).tbc = s.tbc ∧ (s.cutArriving).zsu = s.zsu ∧
    (s.cutArriving).frl = s.frl ∧ (s.cutArriving).rct = s.rct ∧ (s.cutArriving).lfb = s.lfb ∧ (s.cutArriving).dctl
    = s.dctl ∧ (s.cutArriving).mem = s.mem ∧ (s.cutArriving).free = s.free ∧ (s.cutArriving).pending = s.pending := by
  unfold State.cutArriving; split <;> simp

@[simp] theorem State.lockTaken_frame :
    (s.lockTaken).clock = s.clock ∧ (s.lockTaken).pins = s.pins ∧ (s.lockTaken).capu = s.capu ∧ (s.lockTaken).marb
    = s.marb ∧ (s.lockTaken).pru = s.pru ∧ (s.lockTaken).frl = s.frl ∧ (s.lockTaken).rct = s.rct ∧
    (s.lockTaken).lfb = s.lfb ∧ (s.lockTaken).dctl = s.dctl ∧ (s.lockTaken).mem = s.mem ∧ (s.lockTaken).pending =
    s.pending := by
  simp [State.lockTaken]

@[simp] theorem State.lossTaken_frame :
    (s.lossTaken).clock = s.clock ∧ (s.lossTaken).pins = s.pins ∧ (s.lossTaken).pru = s.pru ∧ (s.lossTaken).frl =
    s.frl ∧ (s.lossTaken).rct = s.rct ∧ (s.lossTaken).lfb = s.lfb ∧ (s.lossTaken).dctl = s.dctl ∧
    (s.lossTaken).mem = s.mem ∧ (s.lossTaken).pending = s.pending := by
  simp [State.lossTaken]

@[simp] theorem State.followLiveLock_frame :
    (s.followLiveLock).clock = s.clock ∧ (s.followLiveLock).pins = s.pins ∧ (s.followLiveLock).pru = s.pru ∧
    (s.followLiveLock).frl = s.frl ∧ (s.followLiveLock).rct = s.rct ∧ (s.followLiveLock).lfb = s.lfb ∧
    (s.followLiveLock).dctl = s.dctl ∧ (s.followLiveLock).mem = s.mem ∧ (s.followLiveLock).pending = s.pending := by
  unfold State.followLiveLock; split <;> simp

@[simp] theorem State.lfsBeforeStart_frame (sc : Scan) (frame : Word) :
    (s.lfsBeforeStart sc frame).clock = s.clock ∧ (s.lfsBeforeStart sc frame).pins = s.pins ∧ (s.lfsBeforeStart sc
    frame).lrx = s.lrx ∧ (s.lfsBeforeStart sc frame).capu = s.capu ∧ (s.lfsBeforeStart sc frame).marb = s.marb ∧
    (s.lfsBeforeStart sc frame).pru = s.pru ∧ (s.lfsBeforeStart sc frame).panel = s.panel ∧ (s.lfsBeforeStart sc
    frame).ocap = s.ocap ∧ (s.lfsBeforeStart sc frame).ocmp = s.ocmp ∧ (s.lfsBeforeStart sc frame).tbc = s.tbc ∧
    (s.lfsBeforeStart sc frame).zsu = s.zsu ∧ (s.lfsBeforeStart sc frame).frl = s.frl ∧ (s.lfsBeforeStart sc
    frame).rct = s.rct ∧ (s.lfsBeforeStart sc frame).lfb = s.lfb ∧ (s.lfsBeforeStart sc frame).dctl = s.dctl ∧
    (s.lfsBeforeStart sc frame).mem = s.mem ∧ (s.lfsBeforeStart sc frame).free = s.free ∧ (s.lfsBeforeStart sc
    frame).pending = s.pending := by
  unfold State.lfsBeforeStart; dsimp only; split <;> simp

@[simp] theorem State.cadenceInScan_frame (frame : Word) :
    (s.cadenceInScan frame).clock = s.clock ∧ (s.cadenceInScan frame).pins = s.pins ∧ (s.cadenceInScan frame).lrx
    = s.lrx ∧ (s.cadenceInScan frame).capu = s.capu ∧ (s.cadenceInScan frame).marb = s.marb ∧ (s.cadenceInScan
    frame).pru = s.pru ∧ (s.cadenceInScan frame).panel = s.panel ∧ (s.cadenceInScan frame).ocap = s.ocap ∧
    (s.cadenceInScan frame).ocmp = s.ocmp ∧ (s.cadenceInScan frame).tbc = s.tbc ∧ (s.cadenceInScan frame).zsu =
    s.zsu ∧ (s.cadenceInScan frame).frl = s.frl ∧ (s.cadenceInScan frame).rct = s.rct ∧ (s.cadenceInScan
    frame).lfb = s.lfb ∧ (s.cadenceInScan frame).dctl = s.dctl ∧ (s.cadenceInScan frame).mem = s.mem ∧
    (s.cadenceInScan frame).pending = s.pending := by
  unfold State.cadenceInScan; (repeat' split) <;> simp

@[simp] theorem State.pend_frame (frame : Word) :
    (s.pend frame).clock = s.clock ∧ (s.pend frame).pins = s.pins ∧ (s.pend frame).lrx = s.lrx ∧ (s.pend
    frame).capu = s.capu ∧ (s.pend frame).marb = s.marb ∧ (s.pend frame).pru = s.pru ∧ (s.pend frame).crp = s.crp
    ∧ (s.pend frame).seng = s.seng ∧ (s.pend frame).panel = s.panel ∧ (s.pend frame).ocap = s.ocap ∧ (s.pend
    frame).ocmp = s.ocmp ∧ (s.pend frame).tbc = s.tbc ∧ (s.pend frame).zsu = s.zsu ∧ (s.pend frame).frl = s.frl ∧
    (s.pend frame).rct = s.rct ∧ (s.pend frame).evu = s.evu ∧ (s.pend frame).lfb = s.lfb ∧ (s.pend frame).dctl =
    s.dctl ∧ (s.pend frame).mem = s.mem ∧ (s.pend frame).free = s.free ∧ (s.pend frame).pending = s.pending := by
  simp [State.pend]

@[simp] theorem State.reportLfs_frame (frame : Word) :
    (s.reportLfs frame).clock = s.clock ∧ (s.reportLfs frame).pins = s.pins ∧ (s.reportLfs frame).lrx = s.lrx ∧
    (s.reportLfs frame).capu = s.capu ∧ (s.reportLfs frame).marb = s.marb ∧ (s.reportLfs frame).pru = s.pru ∧
    (s.reportLfs frame).frl = s.frl ∧ (s.reportLfs frame).rct = s.rct ∧ (s.reportLfs frame).lfb = s.lfb ∧
    (s.reportLfs frame).dctl = s.dctl ∧ (s.reportLfs frame).mem = s.mem ∧ (s.reportLfs frame).pending = s.pending := by
  unfold State.reportLfs; split <;> simp

@[simp] theorem State.resolveCapture_frame :
    (s.resolveCapture).clock = s.clock ∧ (s.resolveCapture).pins = s.pins ∧ (s.resolveCapture).lrx = s.lrx ∧
    (s.resolveCapture).pru = s.pru ∧ (s.resolveCapture).crp = s.crp ∧ (s.resolveCapture).panel = s.panel ∧
    (s.resolveCapture).ocap = s.ocap ∧ (s.resolveCapture).ocmp = s.ocmp ∧ (s.resolveCapture).tbc = s.tbc ∧
    (s.resolveCapture).zsu = s.zsu ∧ (s.resolveCapture).frl = s.frl ∧ (s.resolveCapture).rct = s.rct ∧
    (s.resolveCapture).evu = s.evu ∧ (s.resolveCapture).lfb = s.lfb ∧ (s.resolveCapture).dctl = s.dctl ∧
    (s.resolveCapture).mem = s.mem ∧ (s.resolveCapture).free = s.free ∧ (s.resolveCapture).pending = s.pending := by
  unfold State.resolveCapture; split <;> simp

@[simp] theorem State.openFrame_frame (frame : Word) :
    (s.openFrame frame).clock = s.clock ∧ (s.openFrame frame).pins = s.pins ∧ (s.openFrame frame).marb = s.marb ∧
    (s.openFrame frame).pru = s.pru ∧ (s.openFrame frame).crp = s.crp ∧ (s.openFrame frame).ssch = s.ssch ∧
    (s.openFrame frame).seng = s.seng ∧ (s.openFrame frame).panel = s.panel ∧ (s.openFrame frame).ocap = s.ocap ∧
    (s.openFrame frame).ocmp = s.ocmp ∧ (s.openFrame frame).tbc = s.tbc ∧ (s.openFrame frame).zsu = s.zsu ∧
    (s.openFrame frame).frl = s.frl ∧ (s.openFrame frame).rct = s.rct ∧ (s.openFrame frame).evu = s.evu ∧
    (s.openFrame frame).lfb = s.lfb ∧ (s.openFrame frame).dctl = s.dctl ∧ (s.openFrame frame).mem = s.mem ∧
    (s.openFrame frame).free = s.free ∧ (s.openFrame frame).pending = s.pending := by
  unfold State.openFrame; dsimp only; (repeat' split) <;> simp

@[simp] theorem State.takeLfs_frame :
    (s.takeLfs).clock = s.clock ∧ (s.takeLfs).pins = s.pins ∧ (s.takeLfs).pru = s.pru ∧ (s.takeLfs).frl = s.frl ∧
    (s.takeLfs).rct = s.rct ∧ (s.takeLfs).lfb = s.lfb ∧ (s.takeLfs).dctl = s.dctl ∧ (s.takeLfs).mem = s.mem ∧
    (s.takeLfs).pending = s.pending := by
  simp [State.takeLfs]

@[simp] theorem State.arrivingLineStart_frame (f : FrameCheck) :
    (s.arrivingLineStart f).clock = s.clock ∧ (s.arrivingLineStart f).pins = s.pins ∧ (s.arrivingLineStart f).pru
    = s.pru ∧ (s.arrivingLineStart f).crp = s.crp ∧ (s.arrivingLineStart f).panel = s.panel ∧ (s.arrivingLineStart
    f).ocap = s.ocap ∧ (s.arrivingLineStart f).ocmp = s.ocmp ∧ (s.arrivingLineStart f).tbc = s.tbc ∧
    (s.arrivingLineStart f).zsu = s.zsu ∧ (s.arrivingLineStart f).frl = s.frl ∧ (s.arrivingLineStart f).rct =
    s.rct ∧ (s.arrivingLineStart f).lfb = s.lfb ∧ (s.arrivingLineStart f).dctl = s.dctl ∧ (s.arrivingLineStart
    f).mem = s.mem ∧ (s.arrivingLineStart f).free = s.free ∧ (s.arrivingLineStart f).pending = s.pending := by
  unfold State.arrivingLineStart; (repeat' split) <;> simp

@[simp] theorem State.takeLineStart_frame :
    (s.takeLineStart).clock = s.clock ∧ (s.takeLineStart).pins = s.pins ∧ (s.takeLineStart).pru = s.pru ∧
    (s.takeLineStart).crp = s.crp ∧ (s.takeLineStart).panel = s.panel ∧ (s.takeLineStart).ocap = s.ocap ∧
    (s.takeLineStart).ocmp = s.ocmp ∧ (s.takeLineStart).tbc = s.tbc ∧ (s.takeLineStart).zsu = s.zsu ∧
    (s.takeLineStart).frl = s.frl ∧ (s.takeLineStart).rct = s.rct ∧ (s.takeLineStart).lfb = s.lfb ∧
    (s.takeLineStart).dctl = s.dctl ∧ (s.takeLineStart).mem = s.mem ∧ (s.takeLineStart).free = s.free ∧
    (s.takeLineStart).pending = s.pending := by
  unfold State.takeLineStart; split <;> simp

@[simp] theorem State.handOn_frame (f : FrameCheck) (px : List GamePixel) :
    (s.handOn f px).clock = s.clock ∧ (s.handOn f px).pins = s.pins ∧ (s.handOn f px).lrx = s.lrx ∧ (s.handOn f
    px).pru = s.pru ∧ (s.handOn f px).crp = s.crp ∧ (s.handOn f px).panel = s.panel ∧ (s.handOn f px).ocap =
    s.ocap ∧ (s.handOn f px).ocmp = s.ocmp ∧ (s.handOn f px).tbc = s.tbc ∧ (s.handOn f px).zsu = s.zsu ∧ (s.handOn
    f px).frl = s.frl ∧ (s.handOn f px).rct = s.rct ∧ (s.handOn f px).lfb = s.lfb ∧ (s.handOn f px).dctl = s.dctl
    ∧ (s.handOn f px).mem = s.mem ∧ (s.handOn f px).free = s.free ∧ (s.handOn f px).pending = s.pending := by
  simp [State.handOn]

@[simp] theorem State.countLine_frame (f : FrameCheck) :
    (s.countLine f).clock = s.clock ∧ (s.countLine f).pins = s.pins ∧ (s.countLine f).marb = s.marb ∧ (s.countLine
    f).pru = s.pru ∧ (s.countLine f).crp = s.crp ∧ (s.countLine f).ssch = s.ssch ∧ (s.countLine f).seng = s.seng ∧
    (s.countLine f).panel = s.panel ∧ (s.countLine f).ocap = s.ocap ∧ (s.countLine f).ocmp = s.ocmp ∧ (s.countLine
    f).tbc = s.tbc ∧ (s.countLine f).zsu = s.zsu ∧ (s.countLine f).frl = s.frl ∧ (s.countLine f).rct = s.rct ∧
    (s.countLine f).evu = s.evu ∧ (s.countLine f).lfb = s.lfb ∧ (s.countLine f).dctl = s.dctl ∧ (s.countLine
    f).mem = s.mem ∧ (s.countLine f).free = s.free ∧ (s.countLine f).pending = s.pending := by
  unfold State.countLine; dsimp only; (repeat' split) <;> simp

@[simp] theorem State.takeLineEnd_frame (px : List GamePixel) :
    (s.takeLineEnd px).clock = s.clock ∧ (s.takeLineEnd px).pins = s.pins ∧ (s.takeLineEnd px).pru = s.pru ∧
    (s.takeLineEnd px).crp = s.crp ∧ (s.takeLineEnd px).panel = s.panel ∧ (s.takeLineEnd px).ocap = s.ocap ∧
    (s.takeLineEnd px).ocmp = s.ocmp ∧ (s.takeLineEnd px).tbc = s.tbc ∧ (s.takeLineEnd px).zsu = s.zsu ∧
    (s.takeLineEnd px).frl = s.frl ∧ (s.takeLineEnd px).rct = s.rct ∧ (s.takeLineEnd px).lfb = s.lfb ∧
    (s.takeLineEnd px).dctl = s.dctl ∧ (s.takeLineEnd px).mem = s.mem ∧ (s.takeLineEnd px).free = s.free ∧
    (s.takeLineEnd px).pending = s.pending := by
  unfold State.takeLineEnd; (repeat' split) <;> simp

@[simp] theorem State.takeBlanking_frame :
    (s.takeBlanking).clock = s.clock ∧ (s.takeBlanking).pins = s.pins ∧ (s.takeBlanking).pru = s.pru ∧
    (s.takeBlanking).crp = s.crp ∧ (s.takeBlanking).panel = s.panel ∧ (s.takeBlanking).ocap = s.ocap ∧
    (s.takeBlanking).ocmp = s.ocmp ∧ (s.takeBlanking).tbc = s.tbc ∧ (s.takeBlanking).zsu = s.zsu ∧
    (s.takeBlanking).frl = s.frl ∧ (s.takeBlanking).rct = s.rct ∧ (s.takeBlanking).lfb = s.lfb ∧
    (s.takeBlanking).dctl = s.dctl ∧ (s.takeBlanking).mem = s.mem ∧ (s.takeBlanking).free = s.free ∧
    (s.takeBlanking).pending = s.pending := by
  unfold State.takeBlanking; split <;> simp

@[simp] theorem State.lineOverdue_frame :
    (s.lineOverdue).clock = s.clock ∧ (s.lineOverdue).pins = s.pins ∧ (s.lineOverdue).pru = s.pru ∧
    (s.lineOverdue).crp = s.crp ∧ (s.lineOverdue).panel = s.panel ∧ (s.lineOverdue).ocap = s.ocap ∧
    (s.lineOverdue).ocmp = s.ocmp ∧ (s.lineOverdue).tbc = s.tbc ∧ (s.lineOverdue).zsu = s.zsu ∧
    (s.lineOverdue).frl = s.frl ∧ (s.lineOverdue).rct = s.rct ∧ (s.lineOverdue).lfb = s.lfb ∧ (s.lineOverdue).dctl
    = s.dctl ∧ (s.lineOverdue).mem = s.mem ∧ (s.lineOverdue).free = s.free ∧ (s.lineOverdue).pending = s.pending := by
  unfold State.lineOverdue; (repeat' split) <;> simp

@[simp] theorem State.setLiveLock_frame (b : Bool) :
    (s.setLiveLock b).clock = s.clock ∧ (s.setLiveLock b).lrx = s.lrx ∧ (s.setLiveLock b).capu = s.capu ∧
    (s.setLiveLock b).marb = s.marb ∧ (s.setLiveLock b).pru = s.pru ∧ (s.setLiveLock b).crp = s.crp ∧
    (s.setLiveLock b).ssch = s.ssch ∧ (s.setLiveLock b).seng = s.seng ∧ (s.setLiveLock b).panel = s.panel ∧
    (s.setLiveLock b).ocap = s.ocap ∧ (s.setLiveLock b).ocmp = s.ocmp ∧ (s.setLiveLock b).tbc = s.tbc ∧
    (s.setLiveLock b).zsu = s.zsu ∧ (s.setLiveLock b).frl = s.frl ∧ (s.setLiveLock b).rct = s.rct ∧ (s.setLiveLock
    b).evu = s.evu ∧ (s.setLiveLock b).lfb = s.lfb ∧ (s.setLiveLock b).dctl = s.dctl ∧ (s.setLiveLock b).mem =
    s.mem ∧ (s.setLiveLock b).free = s.free ∧ (s.setLiveLock b).pending = s.pending := by
  simp [State.setLiveLock]

@[simp] theorem State.captureWriteEnds_frame (i : SlotId) (line : Nat) :
    (s.captureWriteEnds i line).clock = s.clock ∧ (s.captureWriteEnds i line).pins = s.pins ∧ (s.captureWriteEnds
    i line).lrx = s.lrx ∧ (s.captureWriteEnds i line).marb = s.marb ∧ (s.captureWriteEnds i line).pru = s.pru ∧
    (s.captureWriteEnds i line).crp = s.crp ∧ (s.captureWriteEnds i line).ssch = s.ssch ∧ (s.captureWriteEnds i
    line).seng = s.seng ∧ (s.captureWriteEnds i line).panel = s.panel ∧ (s.captureWriteEnds i line).ocap = s.ocap
    ∧ (s.captureWriteEnds i line).ocmp = s.ocmp ∧ (s.captureWriteEnds i line).tbc = s.tbc ∧ (s.captureWriteEnds i
    line).zsu = s.zsu ∧ (s.captureWriteEnds i line).frl = s.frl ∧ (s.captureWriteEnds i line).rct = s.rct ∧
    (s.captureWriteEnds i line).evu = s.evu ∧ (s.captureWriteEnds i line).lfb = s.lfb ∧ (s.captureWriteEnds i
    line).dctl = s.dctl ∧ (s.captureWriteEnds i line).free = s.free ∧ (s.captureWriteEnds i line).pending =
    s.pending := by
  unfold State.captureWriteEnds; split <;> simp

@[simp] theorem State.overlayWriteEnds_frame (e : OverlayEntry) (b : Bool) :
    (s.overlayWriteEnds e b).clock = s.clock ∧ (s.overlayWriteEnds e b).pins = s.pins ∧ (s.overlayWriteEnds e
    b).lrx = s.lrx ∧ (s.overlayWriteEnds e b).capu = s.capu ∧ (s.overlayWriteEnds e b).marb = s.marb ∧
    (s.overlayWriteEnds e b).pru = s.pru ∧ (s.overlayWriteEnds e b).crp = s.crp ∧ (s.overlayWriteEnds e b).ssch =
    s.ssch ∧ (s.overlayWriteEnds e b).seng = s.seng ∧ (s.overlayWriteEnds e b).panel = s.panel ∧
    (s.overlayWriteEnds e b).ocmp = s.ocmp ∧ (s.overlayWriteEnds e b).tbc = s.tbc ∧ (s.overlayWriteEnds e b).zsu =
    s.zsu ∧ (s.overlayWriteEnds e b).frl = s.frl ∧ (s.overlayWriteEnds e b).rct = s.rct ∧ (s.overlayWriteEnds e
    b).evu = s.evu ∧ (s.overlayWriteEnds e b).lfb = s.lfb ∧ (s.overlayWriteEnds e b).dctl = s.dctl ∧
    (s.overlayWriteEnds e b).free = s.free ∧ (s.overlayWriteEnds e b).pending = s.pending := by
  unfold State.overlayWriteEnds; split <;> simp

@[simp] theorem State.transferActs_frame (x : Transfer) :
    (s.transferActs x).clock = s.clock ∧ (s.transferActs x).pins = s.pins ∧ (s.transferActs x).lrx = s.lrx ∧
    (s.transferActs x).marb = s.marb ∧ (s.transferActs x).pru = s.pru ∧ (s.transferActs x).crp = s.crp ∧
    (s.transferActs x).ssch = s.ssch ∧ (s.transferActs x).panel = s.panel ∧ (s.transferActs x).tbc = s.tbc ∧
    (s.transferActs x).zsu = s.zsu ∧ (s.transferActs x).frl = s.frl ∧ (s.transferActs x).rct = s.rct ∧
    (s.transferActs x).evu = s.evu ∧ (s.transferActs x).lfb = s.lfb ∧ (s.transferActs x).dctl = s.dctl ∧
    (s.transferActs x).free = s.free ∧ (s.transferActs x).pending = s.pending := by
  unfold State.transferActs; (repeat' split) <;> simp

@[simp] theorem State.portFreed_frame :
    (s.portFreed).clock = s.clock ∧ (s.portFreed).pins = s.pins ∧ (s.portFreed).lrx = s.lrx ∧ (s.portFreed).capu =
    s.capu ∧ (s.portFreed).pru = s.pru ∧ (s.portFreed).crp = s.crp ∧ (s.portFreed).ssch = s.ssch ∧
    (s.portFreed).seng = s.seng ∧ (s.portFreed).panel = s.panel ∧ (s.portFreed).ocap = s.ocap ∧ (s.portFreed).ocmp
    = s.ocmp ∧ (s.portFreed).tbc = s.tbc ∧ (s.portFreed).zsu = s.zsu ∧ (s.portFreed).frl = s.frl ∧
    (s.portFreed).rct = s.rct ∧ (s.portFreed).evu = s.evu ∧ (s.portFreed).lfb = s.lfb ∧ (s.portFreed).dctl =
    s.dctl ∧ (s.portFreed).mem = s.mem ∧ (s.portFreed).free = s.free ∧ (s.portFreed).pending = s.pending := by
  unfold State.portFreed; dsimp only; (repeat' split) <;> simp

@[simp] theorem State.maintenanceDue_frame :
    (s.maintenanceDue).clock = s.clock ∧ (s.maintenanceDue).pins = s.pins ∧ (s.maintenanceDue).lrx = s.lrx ∧
    (s.maintenanceDue).capu = s.capu ∧ (s.maintenanceDue).pru = s.pru ∧ (s.maintenanceDue).crp = s.crp ∧
    (s.maintenanceDue).ssch = s.ssch ∧ (s.maintenanceDue).seng = s.seng ∧ (s.maintenanceDue).panel = s.panel ∧
    (s.maintenanceDue).ocap = s.ocap ∧ (s.maintenanceDue).ocmp = s.ocmp ∧ (s.maintenanceDue).tbc = s.tbc ∧
    (s.maintenanceDue).zsu = s.zsu ∧ (s.maintenanceDue).frl = s.frl ∧ (s.maintenanceDue).rct = s.rct ∧
    (s.maintenanceDue).evu = s.evu ∧ (s.maintenanceDue).lfb = s.lfb ∧ (s.maintenanceDue).dctl = s.dctl ∧
    (s.maintenanceDue).mem = s.mem ∧ (s.maintenanceDue).free = s.free ∧ (s.maintenanceDue).pending = s.pending := by
  unfold State.maintenanceDue; split <;> simp

@[simp] theorem State.maintenanceEnds_frame :
    (s.maintenanceEnds).clock = s.clock ∧ (s.maintenanceEnds).pins = s.pins ∧ (s.maintenanceEnds).lrx = s.lrx ∧
    (s.maintenanceEnds).capu = s.capu ∧ (s.maintenanceEnds).pru = s.pru ∧ (s.maintenanceEnds).crp = s.crp ∧
    (s.maintenanceEnds).ssch = s.ssch ∧ (s.maintenanceEnds).seng = s.seng ∧ (s.maintenanceEnds).panel = s.panel ∧
    (s.maintenanceEnds).ocap = s.ocap ∧ (s.maintenanceEnds).ocmp = s.ocmp ∧ (s.maintenanceEnds).tbc = s.tbc ∧
    (s.maintenanceEnds).zsu = s.zsu ∧ (s.maintenanceEnds).frl = s.frl ∧ (s.maintenanceEnds).rct = s.rct ∧
    (s.maintenanceEnds).evu = s.evu ∧ (s.maintenanceEnds).lfb = s.lfb ∧ (s.maintenanceEnds).dctl = s.dctl ∧
    (s.maintenanceEnds).mem = s.mem ∧ (s.maintenanceEnds).free = s.free ∧ (s.maintenanceEnds).pending = s.pending := by
  unfold State.maintenanceEnds; dsimp only; (repeat' split) <;> simp

@[simp] theorem State.openWindow_frame :
    (s.openWindow).clock = s.clock ∧ (s.openWindow).pins = s.pins ∧ (s.openWindow).lrx = s.lrx ∧
    (s.openWindow).capu = s.capu ∧ (s.openWindow).marb = s.marb ∧ (s.openWindow).pru = s.pru ∧ (s.openWindow).crp
    = s.crp ∧ (s.openWindow).ssch = s.ssch ∧ (s.openWindow).seng = s.seng ∧ (s.openWindow).panel = s.panel ∧
    (s.openWindow).ocap = s.ocap ∧ (s.openWindow).ocmp = s.ocmp ∧ (s.openWindow).tbc = s.tbc ∧ (s.openWindow).lfb
    = s.lfb ∧ (s.openWindow).dctl = s.dctl ∧ (s.openWindow).mem = s.mem ∧ (s.openWindow).free = s.free ∧
    (s.openWindow).pending = s.pending := by
  simp [State.openWindow]

@[simp] theorem State.overlayLineStart_frame :
    (s.overlayLineStart).clock = s.clock ∧ (s.overlayLineStart).pins = s.pins ∧ (s.overlayLineStart).lrx = s.lrx ∧
    (s.overlayLineStart).capu = s.capu ∧ (s.overlayLineStart).pru = s.pru ∧ (s.overlayLineStart).crp = s.crp ∧
    (s.overlayLineStart).ssch = s.ssch ∧ (s.overlayLineStart).seng = s.seng ∧ (s.overlayLineStart).panel = s.panel
    ∧ (s.overlayLineStart).ocmp = s.ocmp ∧ (s.overlayLineStart).tbc = s.tbc ∧ (s.overlayLineStart).lfb = s.lfb ∧
    (s.overlayLineStart).dctl = s.dctl ∧ (s.overlayLineStart).mem = s.mem ∧ (s.overlayLineStart).free = s.free ∧
    (s.overlayLineStart).pending = s.pending := by
  unfold State.overlayLineStart; (repeat' split) <;> simp

@[simp] theorem State.followOverlayLock_frame :
    (s.followOverlayLock).clock = s.clock ∧ (s.followOverlayLock).pins = s.pins ∧ (s.followOverlayLock).lrx =
    s.lrx ∧ (s.followOverlayLock).capu = s.capu ∧ (s.followOverlayLock).pru = s.pru ∧ (s.followOverlayLock).crp =
    s.crp ∧ (s.followOverlayLock).ssch = s.ssch ∧ (s.followOverlayLock).seng = s.seng ∧
    (s.followOverlayLock).panel = s.panel ∧ (s.followOverlayLock).ocmp = s.ocmp ∧ (s.followOverlayLock).tbc =
    s.tbc ∧ (s.followOverlayLock).zsu = s.zsu ∧ (s.followOverlayLock).frl = s.frl ∧ (s.followOverlayLock).lfb =
    s.lfb ∧ (s.followOverlayLock).dctl = s.dctl ∧ (s.followOverlayLock).mem = s.mem ∧
    (s.followOverlayLock).pending = s.pending := by
  unfold State.followOverlayLock; split <;> simp

@[simp] theorem State.setOverlayLock_frame (b : Bool) :
    (s.setOverlayLock b).clock = s.clock ∧ (s.setOverlayLock b).lrx = s.lrx ∧ (s.setOverlayLock b).capu = s.capu ∧
    (s.setOverlayLock b).marb = s.marb ∧ (s.setOverlayLock b).pru = s.pru ∧ (s.setOverlayLock b).crp = s.crp ∧
    (s.setOverlayLock b).ssch = s.ssch ∧ (s.setOverlayLock b).seng = s.seng ∧ (s.setOverlayLock b).panel = s.panel
    ∧ (s.setOverlayLock b).ocap = s.ocap ∧ (s.setOverlayLock b).ocmp = s.ocmp ∧ (s.setOverlayLock b).tbc = s.tbc ∧
    (s.setOverlayLock b).zsu = s.zsu ∧ (s.setOverlayLock b).frl = s.frl ∧ (s.setOverlayLock b).rct = s.rct ∧
    (s.setOverlayLock b).evu = s.evu ∧ (s.setOverlayLock b).lfb = s.lfb ∧ (s.setOverlayLock b).dctl = s.dctl ∧
    (s.setOverlayLock b).mem = s.mem ∧ (s.setOverlayLock b).free = s.free ∧ (s.setOverlayLock b).pending =
    s.pending := by
  simp [State.setOverlayLock]

@[simp] theorem State.programEnds_frame (tag : Byte) (w : Fin 8) (v : Half) :
    (s.programEnds tag w v).clock = s.clock ∧ (s.programEnds tag w v).pins = s.pins ∧ (s.programEnds tag w v).lrx
    = s.lrx ∧ (s.programEnds tag w v).capu = s.capu ∧ (s.programEnds tag w v).marb = s.marb ∧ (s.programEnds tag w
    v).pru = s.pru ∧ (s.programEnds tag w v).crp = s.crp ∧ (s.programEnds tag w v).ssch = s.ssch ∧ (s.programEnds
    tag w v).seng = s.seng ∧ (s.programEnds tag w v).panel = s.panel ∧ (s.programEnds tag w v).ocap = s.ocap ∧
    (s.programEnds tag w v).ocmp = s.ocmp ∧ (s.programEnds tag w v).tbc = s.tbc ∧ (s.programEnds tag w v).zsu =
    s.zsu ∧ (s.programEnds tag w v).frl = s.frl ∧ (s.programEnds tag w v).dctl = s.dctl ∧ (s.programEnds tag w
    v).mem = s.mem ∧ (s.programEnds tag w v).free = s.free ∧ (s.programEnds tag w v).pending = s.pending := by
  simp [State.programEnds]

@[simp] theorem State.lockEnds_frame (tag : Byte) :
    (s.lockEnds tag).clock = s.clock ∧ (s.lockEnds tag).pins = s.pins ∧ (s.lockEnds tag).lrx = s.lrx ∧ (s.lockEnds
    tag).capu = s.capu ∧ (s.lockEnds tag).marb = s.marb ∧ (s.lockEnds tag).crp = s.crp ∧ (s.lockEnds tag).ssch =
    s.ssch ∧ (s.lockEnds tag).seng = s.seng ∧ (s.lockEnds tag).panel = s.panel ∧ (s.lockEnds tag).ocap = s.ocap ∧
    (s.lockEnds tag).ocmp = s.ocmp ∧ (s.lockEnds tag).tbc = s.tbc ∧ (s.lockEnds tag).zsu = s.zsu ∧ (s.lockEnds
    tag).frl = s.frl ∧ (s.lockEnds tag).dctl = s.dctl ∧ (s.lockEnds tag).mem = s.mem ∧ (s.lockEnds tag).free =
    s.free ∧ (s.lockEnds tag).pending = s.pending := by
  simp [State.lockEnds]

@[simp] theorem State.programInterrupted_frame (tag : Byte) (w : Fin 8) (v : Half) :
    (s.programInterrupted tag w v).clock = s.clock ∧ (s.programInterrupted tag w v).pins = s.pins ∧
    (s.programInterrupted tag w v).lrx = s.lrx ∧ (s.programInterrupted tag w v).capu = s.capu ∧
    (s.programInterrupted tag w v).marb = s.marb ∧ (s.programInterrupted tag w v).pru = s.pru ∧
    (s.programInterrupted tag w v).crp = s.crp ∧ (s.programInterrupted tag w v).ssch = s.ssch ∧
    (s.programInterrupted tag w v).seng = s.seng ∧ (s.programInterrupted tag w v).panel = s.panel ∧
    (s.programInterrupted tag w v).ocap = s.ocap ∧ (s.programInterrupted tag w v).ocmp = s.ocmp ∧
    (s.programInterrupted tag w v).tbc = s.tbc ∧ (s.programInterrupted tag w v).zsu = s.zsu ∧
    (s.programInterrupted tag w v).frl = s.frl ∧ (s.programInterrupted tag w v).dctl = s.dctl ∧
    (s.programInterrupted tag w v).mem = s.mem ∧ (s.programInterrupted tag w v).pending = s.pending := by
  simp [State.programInterrupted]

@[simp] theorem State.lockInterrupted_frame (tag : Byte) :
    (s.lockInterrupted tag).clock = s.clock ∧ (s.lockInterrupted tag).pins = s.pins ∧ (s.lockInterrupted tag).lrx
    = s.lrx ∧ (s.lockInterrupted tag).capu = s.capu ∧ (s.lockInterrupted tag).marb = s.marb ∧ (s.lockInterrupted
    tag).pru = s.pru ∧ (s.lockInterrupted tag).crp = s.crp ∧ (s.lockInterrupted tag).ssch = s.ssch ∧
    (s.lockInterrupted tag).seng = s.seng ∧ (s.lockInterrupted tag).panel = s.panel ∧ (s.lockInterrupted tag).ocap
    = s.ocap ∧ (s.lockInterrupted tag).ocmp = s.ocmp ∧ (s.lockInterrupted tag).tbc = s.tbc ∧ (s.lockInterrupted
    tag).zsu = s.zsu ∧ (s.lockInterrupted tag).frl = s.frl ∧ (s.lockInterrupted tag).dctl = s.dctl ∧
    (s.lockInterrupted tag).mem = s.mem ∧ (s.lockInterrupted tag).free = s.free ∧ (s.lockInterrupted tag).pending
    = s.pending := by
  simp [State.lockInterrupted]

@[simp] theorem State.fuseProgramEnd_frame :
    (s.fuseProgramEnd).clock = s.clock ∧ (s.fuseProgramEnd).pins = s.pins ∧ (s.fuseProgramEnd).lrx = s.lrx ∧
    (s.fuseProgramEnd).capu = s.capu ∧ (s.fuseProgramEnd).marb = s.marb ∧ (s.fuseProgramEnd).pru = s.pru ∧
    (s.fuseProgramEnd).crp = s.crp ∧ (s.fuseProgramEnd).ssch = s.ssch ∧ (s.fuseProgramEnd).seng = s.seng ∧
    (s.fuseProgramEnd).panel = s.panel ∧ (s.fuseProgramEnd).ocap = s.ocap ∧ (s.fuseProgramEnd).ocmp = s.ocmp ∧
    (s.fuseProgramEnd).tbc = s.tbc ∧ (s.fuseProgramEnd).zsu = s.zsu ∧ (s.fuseProgramEnd).frl = s.frl ∧
    (s.fuseProgramEnd).dctl = s.dctl ∧ (s.fuseProgramEnd).mem = s.mem ∧ (s.fuseProgramEnd).free = s.free ∧
    (s.fuseProgramEnd).pending = s.pending := by
  unfold State.fuseProgramEnd; (repeat' split) <;> simp

@[simp] theorem State.fuseLockEnd_frame :
    (s.fuseLockEnd).clock = s.clock ∧ (s.fuseLockEnd).pins = s.pins ∧ (s.fuseLockEnd).lrx = s.lrx ∧
    (s.fuseLockEnd).capu = s.capu ∧ (s.fuseLockEnd).marb = s.marb ∧ (s.fuseLockEnd).crp = s.crp ∧
    (s.fuseLockEnd).ssch = s.ssch ∧ (s.fuseLockEnd).seng = s.seng ∧ (s.fuseLockEnd).panel = s.panel ∧
    (s.fuseLockEnd).ocap = s.ocap ∧ (s.fuseLockEnd).ocmp = s.ocmp ∧ (s.fuseLockEnd).tbc = s.tbc ∧
    (s.fuseLockEnd).zsu = s.zsu ∧ (s.fuseLockEnd).frl = s.frl ∧ (s.fuseLockEnd).dctl = s.dctl ∧
    (s.fuseLockEnd).mem = s.mem ∧ (s.fuseLockEnd).free = s.free ∧ (s.fuseLockEnd).pending = s.pending := by
  unfold State.fuseLockEnd; (repeat' split) <;> simp

@[simp] theorem State.fprogFalls_frame :
    (s.fprogFalls).clock = s.clock ∧ (s.fprogFalls).pins = s.pins ∧ (s.fprogFalls).lrx = s.lrx ∧
    (s.fprogFalls).capu = s.capu ∧ (s.fprogFalls).marb = s.marb ∧ (s.fprogFalls).pru = s.pru ∧ (s.fprogFalls).crp
    = s.crp ∧ (s.fprogFalls).ssch = s.ssch ∧ (s.fprogFalls).seng = s.seng ∧ (s.fprogFalls).panel = s.panel ∧
    (s.fprogFalls).ocap = s.ocap ∧ (s.fprogFalls).ocmp = s.ocmp ∧ (s.fprogFalls).tbc = s.tbc ∧ (s.fprogFalls).zsu
    = s.zsu ∧ (s.fprogFalls).frl = s.frl ∧ (s.fprogFalls).dctl = s.dctl ∧ (s.fprogFalls).mem = s.mem ∧
    (s.fprogFalls).pending = s.pending := by
  unfold State.fprogFalls; split <;> simp

@[simp] theorem State.setFprog_frame (b : Bool) :
    (s.setFprog b).clock = s.clock ∧ (s.setFprog b).lrx = s.lrx ∧ (s.setFprog b).capu = s.capu ∧ (s.setFprog
    b).marb = s.marb ∧ (s.setFprog b).pru = s.pru ∧ (s.setFprog b).crp = s.crp ∧ (s.setFprog b).ssch = s.ssch ∧
    (s.setFprog b).seng = s.seng ∧ (s.setFprog b).panel = s.panel ∧ (s.setFprog b).ocap = s.ocap ∧ (s.setFprog
    b).ocmp = s.ocmp ∧ (s.setFprog b).tbc = s.tbc ∧ (s.setFprog b).zsu = s.zsu ∧ (s.setFprog b).frl = s.frl ∧
    (s.setFprog b).rct = s.rct ∧ (s.setFprog b).evu = s.evu ∧ (s.setFprog b).lfb = s.lfb ∧ (s.setFprog b).dctl =
    s.dctl ∧ (s.setFprog b).mem = s.mem ∧ (s.setFprog b).free = s.free ∧ (s.setFprog b).pending = s.pending := by
  simp [State.setFprog]

@[simp] theorem State.fprogLevel_frame (b : Bool) :
    (s.fprogLevel b).clock = s.clock ∧ (s.fprogLevel b).lrx = s.lrx ∧ (s.fprogLevel b).capu = s.capu ∧
    (s.fprogLevel b).marb = s.marb ∧ (s.fprogLevel b).pru = s.pru ∧ (s.fprogLevel b).crp = s.crp ∧ (s.fprogLevel
    b).ssch = s.ssch ∧ (s.fprogLevel b).seng = s.seng ∧ (s.fprogLevel b).panel = s.panel ∧ (s.fprogLevel b).ocap =
    s.ocap ∧ (s.fprogLevel b).ocmp = s.ocmp ∧ (s.fprogLevel b).tbc = s.tbc ∧ (s.fprogLevel b).zsu = s.zsu ∧
    (s.fprogLevel b).frl = s.frl ∧ (s.fprogLevel b).dctl = s.dctl ∧ (s.fprogLevel b).mem = s.mem ∧ (s.fprogLevel
    b).pending = s.pending := by
  unfold State.fprogLevel; split <;> simp

@[simp] theorem State.cutTransfer_frame :
    (s.cutTransfer).clock = s.clock ∧ (s.cutTransfer).pins = s.pins ∧ (s.cutTransfer).lrx = s.lrx ∧
    (s.cutTransfer).capu = s.capu ∧ (s.cutTransfer).marb = s.marb ∧ (s.cutTransfer).pru = s.pru ∧
    (s.cutTransfer).crp = s.crp ∧ (s.cutTransfer).ssch = s.ssch ∧ (s.cutTransfer).seng = s.seng ∧
    (s.cutTransfer).panel = s.panel ∧ (s.cutTransfer).ocap = s.ocap ∧ (s.cutTransfer).ocmp = s.ocmp ∧
    (s.cutTransfer).tbc = s.tbc ∧ (s.cutTransfer).zsu = s.zsu ∧ (s.cutTransfer).frl = s.frl ∧ (s.cutTransfer).rct
    = s.rct ∧ (s.cutTransfer).evu = s.evu ∧ (s.cutTransfer).lfb = s.lfb ∧ (s.cutTransfer).dctl = s.dctl ∧
    (s.cutTransfer).pending = s.pending := by
  unfold State.cutTransfer; (repeat' split) <;> simp

@[simp] theorem State.cutFuses_frame :
    (s.cutFuses).clock = s.clock ∧ (s.cutFuses).pins = s.pins ∧ (s.cutFuses).lrx = s.lrx ∧ (s.cutFuses).capu =
    s.capu ∧ (s.cutFuses).marb = s.marb ∧ (s.cutFuses).pru = s.pru ∧ (s.cutFuses).crp = s.crp ∧ (s.cutFuses).ssch
    = s.ssch ∧ (s.cutFuses).seng = s.seng ∧ (s.cutFuses).panel = s.panel ∧ (s.cutFuses).ocap = s.ocap ∧
    (s.cutFuses).ocmp = s.ocmp ∧ (s.cutFuses).tbc = s.tbc ∧ (s.cutFuses).zsu = s.zsu ∧ (s.cutFuses).frl = s.frl ∧
    (s.cutFuses).rct = s.rct ∧ (s.cutFuses).evu = s.evu ∧ (s.cutFuses).dctl = s.dctl ∧ (s.cutFuses).mem = s.mem ∧
    (s.cutFuses).pending = s.pending := by
  unfold State.cutFuses; split <;> simp

@[simp] theorem State.readFuses_frame :
    (s.readFuses).clock = s.clock ∧ (s.readFuses).pins = s.pins ∧ (s.readFuses).lrx = s.lrx ∧ (s.readFuses).capu =
    s.capu ∧ (s.readFuses).marb = s.marb ∧ (s.readFuses).pru = s.pru ∧ (s.readFuses).crp = s.crp ∧
    (s.readFuses).ssch = s.ssch ∧ (s.readFuses).seng = s.seng ∧ (s.readFuses).panel = s.panel ∧ (s.readFuses).ocap
    = s.ocap ∧ (s.readFuses).ocmp = s.ocmp ∧ (s.readFuses).tbc = s.tbc ∧ (s.readFuses).zsu = s.zsu ∧
    (s.readFuses).frl = s.frl ∧ (s.readFuses).rct = s.rct ∧ (s.readFuses).evu = s.evu ∧ (s.readFuses).dctl =
    s.dctl ∧ (s.readFuses).mem = s.mem ∧ (s.readFuses).free = s.free ∧ (s.readFuses).pending = s.pending := by
  simp [State.readFuses]

@[simp] theorem State.payOwed_frame (o : Option Byte) :
    (s.payOwed o).clock = s.clock ∧ (s.payOwed o).pins = s.pins ∧ (s.payOwed o).lrx = s.lrx ∧ (s.payOwed o).capu =
    s.capu ∧ (s.payOwed o).marb = s.marb ∧ (s.payOwed o).pru = s.pru ∧ (s.payOwed o).crp = s.crp ∧ (s.payOwed
    o).ssch = s.ssch ∧ (s.payOwed o).seng = s.seng ∧ (s.payOwed o).panel = s.panel ∧ (s.payOwed o).ocap = s.ocap ∧
    (s.payOwed o).ocmp = s.ocmp ∧ (s.payOwed o).tbc = s.tbc ∧ (s.payOwed o).zsu = s.zsu ∧ (s.payOwed o).frl =
    s.frl ∧ (s.payOwed o).evu = s.evu ∧ (s.payOwed o).lfb = s.lfb ∧ (s.payOwed o).dctl = s.dctl ∧ (s.payOwed
    o).mem = s.mem ∧ (s.payOwed o).free = s.free ∧ (s.payOwed o).pending = s.pending := by
  unfold State.payOwed; split <;> simp

@[simp] theorem State.overlayAtLoadingEnd_frame (o : Option Byte) :
    (s.overlayAtLoadingEnd o).clock = s.clock ∧ (s.overlayAtLoadingEnd o).pins = s.pins ∧ (s.overlayAtLoadingEnd
    o).lrx = s.lrx ∧ (s.overlayAtLoadingEnd o).capu = s.capu ∧ (s.overlayAtLoadingEnd o).pru = s.pru ∧
    (s.overlayAtLoadingEnd o).crp = s.crp ∧ (s.overlayAtLoadingEnd o).ssch = s.ssch ∧ (s.overlayAtLoadingEnd
    o).seng = s.seng ∧ (s.overlayAtLoadingEnd o).panel = s.panel ∧ (s.overlayAtLoadingEnd o).ocmp = s.ocmp ∧
    (s.overlayAtLoadingEnd o).tbc = s.tbc ∧ (s.overlayAtLoadingEnd o).zsu = s.zsu ∧ (s.overlayAtLoadingEnd o).frl
    = s.frl ∧ (s.overlayAtLoadingEnd o).lfb = s.lfb ∧ (s.overlayAtLoadingEnd o).dctl = s.dctl ∧
    (s.overlayAtLoadingEnd o).mem = s.mem ∧ (s.overlayAtLoadingEnd o).pending = s.pending := by
  unfold State.overlayAtLoadingEnd; (repeat' split) <;> simp

@[simp] theorem startEffect_frame (tag : Byte) :
    (startEffect tag s).clock = s.clock ∧ (startEffect tag s).pins = s.pins ∧ (startEffect tag s).lrx = s.lrx ∧
    (startEffect tag s).capu = s.capu ∧ (startEffect tag s).pru = s.pru ∧ (startEffect tag s).frl = s.frl ∧
    (startEffect tag s).lfb = s.lfb ∧ (startEffect tag s).mem = s.mem ∧ (startEffect tag s).pending = s.pending := by
  unfold startEffect; (repeat' split) <;> simp

@[simp] theorem stopEffect_frame (tag : Byte) :
    (stopEffect tag s).clock = s.clock ∧ (stopEffect tag s).pins = s.pins ∧ (stopEffect tag s).lrx = s.lrx ∧
    (stopEffect tag s).pru = s.pru ∧ (stopEffect tag s).lfb = s.lfb ∧ (stopEffect tag s).mem = s.mem ∧ (stopEffect
    tag s).pending = s.pending := by
  unfold stopEffect; (repeat' split) <;> simp

@[simp] theorem statusEffect_frame (tag : Byte) :
    (statusEffect tag s).clock = s.clock ∧ (statusEffect tag s).pins = s.pins ∧ (statusEffect tag s).lrx = s.lrx ∧
    (statusEffect tag s).capu = s.capu ∧ (statusEffect tag s).marb = s.marb ∧ (statusEffect tag s).pru = s.pru ∧
    (statusEffect tag s).crp = s.crp ∧ (statusEffect tag s).ssch = s.ssch ∧ (statusEffect tag s).seng = s.seng ∧
    (statusEffect tag s).panel = s.panel ∧ (statusEffect tag s).ocap = s.ocap ∧ (statusEffect tag s).ocmp = s.ocmp
    ∧ (statusEffect tag s).tbc = s.tbc ∧ (statusEffect tag s).zsu = s.zsu ∧ (statusEffect tag s).frl = s.frl ∧
    (statusEffect tag s).evu = s.evu ∧ (statusEffect tag s).lfb = s.lfb ∧ (statusEffect tag s).dctl = s.dctl ∧
    (statusEffect tag s).mem = s.mem ∧ (statusEffect tag s).free = s.free ∧ (statusEffect tag s).pending =
    s.pending := by
  simp [statusEffect]

@[simp] theorem State.answerProfile_frame (tag : Byte) (r : ProfileRequest) (d : Except Status Profile) :
    (s.answerProfile tag r d).clock = s.clock ∧ (s.answerProfile tag r d).pins = s.pins ∧
    (s.answerProfile tag r d).lrx = s.lrx ∧ (s.answerProfile tag r d).capu = s.capu ∧ (s.answerProfile tag r d).marb = s.marb ∧ (s.answerProfile tag r d).crp = s.crp ∧ (s.answerProfile tag r d).ssch = s.ssch
    ∧ (s.answerProfile tag r d).seng = s.seng ∧ (s.answerProfile tag r d).panel = s.panel ∧
    (s.answerProfile tag r d).ocap = s.ocap ∧ (s.answerProfile tag r d).ocmp = s.ocmp ∧ (s.answerProfile tag r d).tbc = s.tbc ∧ (s.answerProfile tag r d).zsu = s.zsu ∧ (s.answerProfile tag r d).frl = s.frl ∧
    (s.answerProfile tag r d).lfb = s.lfb ∧ (s.answerProfile tag r d).dctl = s.dctl ∧ (s.answerProfile tag r d).mem = s.mem ∧ (s.answerProfile tag r d).free = s.free ∧ (s.answerProfile tag r d).pending =
    s.pending := by
  unfold State.answerProfile; (repeat' split) <;> simp

@[simp] theorem writeProfileEffect_frame (tag : Byte) (r : ProfileRequest) :
    (writeProfileEffect tag r s).clock = s.clock ∧ (writeProfileEffect tag r s).pins = s.pins ∧
    (writeProfileEffect tag r s).lrx = s.lrx ∧ (writeProfileEffect tag r s).capu = s.capu ∧ (writeProfileEffect
    tag r s).marb = s.marb ∧ (writeProfileEffect tag r s).crp = s.crp ∧ (writeProfileEffect tag r s).ssch = s.ssch
    ∧ (writeProfileEffect tag r s).seng = s.seng ∧ (writeProfileEffect tag r s).panel = s.panel ∧
    (writeProfileEffect tag r s).ocap = s.ocap ∧ (writeProfileEffect tag r s).ocmp = s.ocmp ∧ (writeProfileEffect
    tag r s).tbc = s.tbc ∧ (writeProfileEffect tag r s).zsu = s.zsu ∧ (writeProfileEffect tag r s).frl = s.frl ∧
    (writeProfileEffect tag r s).lfb = s.lfb ∧ (writeProfileEffect tag r s).dctl = s.dctl ∧ (writeProfileEffect
    tag r s).mem = s.mem ∧ (writeProfileEffect tag r s).free = s.free ∧ (writeProfileEffect tag r s).pending =
    s.pending := by
  simp [writeProfileEffect]

@[simp] theorem readProfileEffect_frame (tag i : Byte) :
    (readProfileEffect tag i s).clock = s.clock ∧ (readProfileEffect tag i s).pins = s.pins ∧ (readProfileEffect
    tag i s).lrx = s.lrx ∧ (readProfileEffect tag i s).capu = s.capu ∧ (readProfileEffect tag i s).marb = s.marb ∧
    (readProfileEffect tag i s).pru = s.pru ∧ (readProfileEffect tag i s).crp = s.crp ∧ (readProfileEffect tag i
    s).ssch = s.ssch ∧ (readProfileEffect tag i s).seng = s.seng ∧ (readProfileEffect tag i s).panel = s.panel ∧
    (readProfileEffect tag i s).ocap = s.ocap ∧ (readProfileEffect tag i s).ocmp = s.ocmp ∧ (readProfileEffect tag
    i s).tbc = s.tbc ∧ (readProfileEffect tag i s).zsu = s.zsu ∧ (readProfileEffect tag i s).frl = s.frl ∧
    (readProfileEffect tag i s).evu = s.evu ∧ (readProfileEffect tag i s).lfb = s.lfb ∧ (readProfileEffect tag i
    s).dctl = s.dctl ∧ (readProfileEffect tag i s).mem = s.mem ∧ (readProfileEffect tag i s).free = s.free ∧
    (readProfileEffect tag i s).pending = s.pending := by
  unfold readProfileEffect; split <;> simp

@[simp] theorem resetCadenceEffect_frame (tag : Byte) :
    (resetCadenceEffect tag s).clock = s.clock ∧ (resetCadenceEffect tag s).pins = s.pins ∧ (resetCadenceEffect
    tag s).lrx = s.lrx ∧ (resetCadenceEffect tag s).capu = s.capu ∧ (resetCadenceEffect tag s).pru = s.pru ∧
    (resetCadenceEffect tag s).frl = s.frl ∧ (resetCadenceEffect tag s).lfb = s.lfb ∧ (resetCadenceEffect tag
    s).dctl = s.dctl ∧ (resetCadenceEffect tag s).mem = s.mem ∧ (resetCadenceEffect tag s).pending = s.pending := by
  simp [resetCadenceEffect]

@[simp] theorem writeTonePointsEffect_frame (tag c f : Byte) (p : List Half) :
    (writeTonePointsEffect tag c f p s).clock = s.clock ∧ (writeTonePointsEffect tag c f p s).pins = s.pins ∧
    (writeTonePointsEffect tag c f p s).lrx = s.lrx ∧ (writeTonePointsEffect tag c f p s).capu = s.capu ∧
    (writeTonePointsEffect tag c f p s).marb = s.marb ∧ (writeTonePointsEffect tag c f p s).pru = s.pru ∧
    (writeTonePointsEffect tag c f p s).crp = s.crp ∧ (writeTonePointsEffect tag c f p s).ssch = s.ssch ∧
    (writeTonePointsEffect tag c f p s).seng = s.seng ∧ (writeTonePointsEffect tag c f p s).panel = s.panel ∧
    (writeTonePointsEffect tag c f p s).ocap = s.ocap ∧ (writeTonePointsEffect tag c f p s).ocmp = s.ocmp ∧
    (writeTonePointsEffect tag c f p s).zsu = s.zsu ∧ (writeTonePointsEffect tag c f p s).frl = s.frl ∧
    (writeTonePointsEffect tag c f p s).evu = s.evu ∧ (writeTonePointsEffect tag c f p s).lfb = s.lfb ∧
    (writeTonePointsEffect tag c f p s).dctl = s.dctl ∧ (writeTonePointsEffect tag c f p s).mem = s.mem ∧
    (writeTonePointsEffect tag c f p s).free = s.free ∧ (writeTonePointsEffect tag c f p s).pending = s.pending := by
  unfold writeTonePointsEffect; (repeat' split) <;> simp

@[simp] theorem readTonePointsEffect_frame (tag b c f n : Byte) :
    (readTonePointsEffect tag b c f n s).clock = s.clock ∧ (readTonePointsEffect tag b c f n s).pins = s.pins ∧
    (readTonePointsEffect tag b c f n s).lrx = s.lrx ∧ (readTonePointsEffect tag b c f n s).capu = s.capu ∧
    (readTonePointsEffect tag b c f n s).marb = s.marb ∧ (readTonePointsEffect tag b c f n s).pru = s.pru ∧
    (readTonePointsEffect tag b c f n s).crp = s.crp ∧ (readTonePointsEffect tag b c f n s).ssch = s.ssch ∧
    (readTonePointsEffect tag b c f n s).seng = s.seng ∧ (readTonePointsEffect tag b c f n s).panel = s.panel ∧
    (readTonePointsEffect tag b c f n s).ocap = s.ocap ∧ (readTonePointsEffect tag b c f n s).ocmp = s.ocmp ∧
    (readTonePointsEffect tag b c f n s).tbc = s.tbc ∧ (readTonePointsEffect tag b c f n s).zsu = s.zsu ∧
    (readTonePointsEffect tag b c f n s).frl = s.frl ∧ (readTonePointsEffect tag b c f n s).evu = s.evu ∧
    (readTonePointsEffect tag b c f n s).lfb = s.lfb ∧ (readTonePointsEffect tag b c f n s).dctl = s.dctl ∧
    (readTonePointsEffect tag b c f n s).mem = s.mem ∧ (readTonePointsEffect tag b c f n s).free = s.free ∧
    (readTonePointsEffect tag b c f n s).pending = s.pending := by
  unfold readTonePointsEffect; split <;> simp

@[simp] theorem writeRegionEffect_frame (tag : Byte) (r : RegionRequest) :
    (writeRegionEffect tag r s).clock = s.clock ∧ (writeRegionEffect tag r s).pins = s.pins ∧ (writeRegionEffect
    tag r s).lrx = s.lrx ∧ (writeRegionEffect tag r s).capu = s.capu ∧ (writeRegionEffect tag r s).marb = s.marb ∧
    (writeRegionEffect tag r s).pru = s.pru ∧ (writeRegionEffect tag r s).crp = s.crp ∧ (writeRegionEffect tag r
    s).ssch = s.ssch ∧ (writeRegionEffect tag r s).seng = s.seng ∧ (writeRegionEffect tag r s).panel = s.panel ∧
    (writeRegionEffect tag r s).ocap = s.ocap ∧ (writeRegionEffect tag r s).ocmp = s.ocmp ∧ (writeRegionEffect tag
    r s).zsu = s.zsu ∧ (writeRegionEffect tag r s).frl = s.frl ∧ (writeRegionEffect tag r s).evu = s.evu ∧
    (writeRegionEffect tag r s).lfb = s.lfb ∧ (writeRegionEffect tag r s).dctl = s.dctl ∧ (writeRegionEffect tag r
    s).mem = s.mem ∧ (writeRegionEffect tag r s).free = s.free ∧ (writeRegionEffect tag r s).pending = s.pending := by
  unfold writeRegionEffect; (repeat' split) <;> simp

@[simp] theorem readRegionEffect_frame (tag b i : Byte) :
    (readRegionEffect tag b i s).clock = s.clock ∧ (readRegionEffect tag b i s).pins = s.pins ∧ (readRegionEffect
    tag b i s).lrx = s.lrx ∧ (readRegionEffect tag b i s).capu = s.capu ∧ (readRegionEffect tag b i s).marb =
    s.marb ∧ (readRegionEffect tag b i s).pru = s.pru ∧ (readRegionEffect tag b i s).crp = s.crp ∧
    (readRegionEffect tag b i s).ssch = s.ssch ∧ (readRegionEffect tag b i s).seng = s.seng ∧ (readRegionEffect
    tag b i s).panel = s.panel ∧ (readRegionEffect tag b i s).ocap = s.ocap ∧ (readRegionEffect tag b i s).ocmp =
    s.ocmp ∧ (readRegionEffect tag b i s).tbc = s.tbc ∧ (readRegionEffect tag b i s).zsu = s.zsu ∧
    (readRegionEffect tag b i s).frl = s.frl ∧ (readRegionEffect tag b i s).evu = s.evu ∧ (readRegionEffect tag b
    i s).lfb = s.lfb ∧ (readRegionEffect tag b i s).dctl = s.dctl ∧ (readRegionEffect tag b i s).mem = s.mem ∧
    (readRegionEffect tag b i s).free = s.free ∧ (readRegionEffect tag b i s).pending = s.pending := by
  unfold readRegionEffect; split <;> simp

@[simp] theorem setFillEffect_frame (tag : Byte) (r g b : Half) :
    (setFillEffect tag r g b s).clock = s.clock ∧ (setFillEffect tag r g b s).pins = s.pins ∧ (setFillEffect tag r
    g b s).lrx = s.lrx ∧ (setFillEffect tag r g b s).capu = s.capu ∧ (setFillEffect tag r g b s).marb = s.marb ∧
    (setFillEffect tag r g b s).pru = s.pru ∧ (setFillEffect tag r g b s).crp = s.crp ∧ (setFillEffect tag r g b
    s).ssch = s.ssch ∧ (setFillEffect tag r g b s).seng = s.seng ∧ (setFillEffect tag r g b s).panel = s.panel ∧
    (setFillEffect tag r g b s).ocap = s.ocap ∧ (setFillEffect tag r g b s).ocmp = s.ocmp ∧ (setFillEffect tag r g
    b s).zsu = s.zsu ∧ (setFillEffect tag r g b s).frl = s.frl ∧ (setFillEffect tag r g b s).evu = s.evu ∧
    (setFillEffect tag r g b s).lfb = s.lfb ∧ (setFillEffect tag r g b s).dctl = s.dctl ∧ (setFillEffect tag r g b
    s).mem = s.mem ∧ (setFillEffect tag r g b s).free = s.free ∧ (setFillEffect tag r g b s).pending = s.pending := by
  unfold setFillEffect; (repeat' split) <;> simp

@[simp] theorem selectProfileEffect_frame (tag i : Byte) :
    (selectProfileEffect tag i s).clock = s.clock ∧ (selectProfileEffect tag i s).pins = s.pins ∧
    (selectProfileEffect tag i s).lrx = s.lrx ∧ (selectProfileEffect tag i s).capu = s.capu ∧ (selectProfileEffect
    tag i s).marb = s.marb ∧ (selectProfileEffect tag i s).pru = s.pru ∧ (selectProfileEffect tag i s).crp = s.crp
    ∧ (selectProfileEffect tag i s).ssch = s.ssch ∧ (selectProfileEffect tag i s).seng = s.seng ∧
    (selectProfileEffect tag i s).panel = s.panel ∧ (selectProfileEffect tag i s).ocap = s.ocap ∧
    (selectProfileEffect tag i s).ocmp = s.ocmp ∧ (selectProfileEffect tag i s).zsu = s.zsu ∧ (selectProfileEffect
    tag i s).frl = s.frl ∧ (selectProfileEffect tag i s).evu = s.evu ∧ (selectProfileEffect tag i s).lfb = s.lfb ∧
    (selectProfileEffect tag i s).dctl = s.dctl ∧ (selectProfileEffect tag i s).mem = s.mem ∧ (selectProfileEffect
    tag i s).free = s.free ∧ (selectProfileEffect tag i s).pending = s.pending := by
  unfold selectProfileEffect; (repeat' split) <;> simp

@[simp] theorem State.beforeOpening_frame (sc : Scan) (k : Kept) :
    (s.beforeOpening sc k).clock = s.clock ∧ (s.beforeOpening sc k).pins = s.pins ∧ (s.beforeOpening sc k).lrx =
    s.lrx ∧ (s.beforeOpening sc k).pru = s.pru ∧ (s.beforeOpening sc k).crp = s.crp ∧ (s.beforeOpening sc
    k).panel = s.panel ∧ (s.beforeOpening sc k).ocap = s.ocap ∧ (s.beforeOpening sc k).tbc = s.tbc ∧
    (s.beforeOpening sc k).zsu = s.zsu ∧ (s.beforeOpening sc k).frl = s.frl ∧ (s.beforeOpening sc k).rct = s.rct
    ∧ (s.beforeOpening sc k).evu = s.evu ∧ (s.beforeOpening sc k).lfb = s.lfb ∧ (s.beforeOpening sc k).dctl =
    s.dctl ∧ (s.beforeOpening sc k).mem = s.mem ∧ (s.beforeOpening sc k).free = s.free ∧ (s.beforeOpening sc
    k).pending = s.pending := by
  simp [State.beforeOpening]

@[simp] theorem State.commitAtOpening_frame (m : Half) (sc : Scan) (k : Kept) :
    (s.commitAtOpening m sc k).clock = s.clock ∧ (s.commitAtOpening m sc k).pins = s.pins ∧ (s.commitAtOpening m
    sc k).lrx = s.lrx ∧ (s.commitAtOpening m sc k).pru = s.pru ∧ (s.commitAtOpening m sc k).frl = s.frl ∧
    (s.commitAtOpening m sc k).lfb = s.lfb ∧ (s.commitAtOpening m sc k).dctl = s.dctl ∧ (s.commitAtOpening m sc
    k).mem = s.mem ∧ (s.commitAtOpening m sc k).pending = s.pending ∧ (s.commitAtOpening m sc k).rct = s.rct :=
    by
  simp [State.commitAtOpening]

@[simp] theorem commitInRun_frame (tag : Byte) (m : Half) :
    (commitInRun tag m s).clock = s.clock ∧ (commitInRun tag m s).pins = s.pins ∧ (commitInRun tag m s).lrx =
    s.lrx ∧ (commitInRun tag m s).pru = s.pru ∧ (commitInRun tag m s).frl = s.frl ∧ (commitInRun tag m s).lfb =
    s.lfb ∧ (commitInRun tag m s).dctl = s.dctl ∧ (commitInRun tag m s).mem = s.mem ∧ (commitInRun tag m
    s).pending = s.pending := by
  unfold commitInRun; split <;> simp

@[simp] theorem commitEffect_frame (tag : Byte) (m : Half) :
    (commitEffect tag m s).clock = s.clock ∧ (commitEffect tag m s).pins = s.pins ∧ (commitEffect tag m s).lrx =
    s.lrx ∧ (commitEffect tag m s).pru = s.pru ∧ (commitEffect tag m s).frl = s.frl ∧ (commitEffect tag m s).lfb
    = s.lfb ∧ (commitEffect tag m s).dctl = s.dctl ∧ (commitEffect tag m s).mem = s.mem ∧ (commitEffect tag m
    s).pending = s.pending := by
  unfold commitEffect; (repeat' split) <;> simp

@[simp] theorem discardShadowEffect_frame (tag : Byte) :
    (discardShadowEffect tag s).clock = s.clock ∧ (discardShadowEffect tag s).pins = s.pins ∧ (discardShadowEffect
    tag s).lrx = s.lrx ∧ (discardShadowEffect tag s).capu = s.capu ∧ (discardShadowEffect tag s).marb = s.marb ∧
    (discardShadowEffect tag s).pru = s.pru ∧ (discardShadowEffect tag s).crp = s.crp ∧ (discardShadowEffect tag
    s).ssch = s.ssch ∧ (discardShadowEffect tag s).seng = s.seng ∧ (discardShadowEffect tag s).panel = s.panel ∧
    (discardShadowEffect tag s).ocap = s.ocap ∧ (discardShadowEffect tag s).ocmp = s.ocmp ∧ (discardShadowEffect
    tag s).zsu = s.zsu ∧ (discardShadowEffect tag s).frl = s.frl ∧ (discardShadowEffect tag s).evu = s.evu ∧
    (discardShadowEffect tag s).lfb = s.lfb ∧ (discardShadowEffect tag s).dctl = s.dctl ∧ (discardShadowEffect tag
    s).mem = s.mem ∧ (discardShadowEffect tag s).free = s.free ∧ (discardShadowEffect tag s).pending = s.pending := by
  unfold discardShadowEffect; split <;> simp

@[simp] theorem statsConfigEffect_frame (tag : Byte) (r : StatsRequest) :
    (statsConfigEffect tag r s).clock = s.clock ∧ (statsConfigEffect tag r s).pins = s.pins ∧ (statsConfigEffect
    tag r s).lrx = s.lrx ∧ (statsConfigEffect tag r s).capu = s.capu ∧ (statsConfigEffect tag r s).marb = s.marb ∧
    (statsConfigEffect tag r s).pru = s.pru ∧ (statsConfigEffect tag r s).crp = s.crp ∧ (statsConfigEffect tag r
    s).ssch = s.ssch ∧ (statsConfigEffect tag r s).seng = s.seng ∧ (statsConfigEffect tag r s).panel = s.panel ∧
    (statsConfigEffect tag r s).ocap = s.ocap ∧ (statsConfigEffect tag r s).ocmp = s.ocmp ∧ (statsConfigEffect tag
    r s).tbc = s.tbc ∧ (statsConfigEffect tag r s).frl = s.frl ∧ (statsConfigEffect tag r s).evu = s.evu ∧
    (statsConfigEffect tag r s).lfb = s.lfb ∧ (statsConfigEffect tag r s).dctl = s.dctl ∧ (statsConfigEffect tag r
    s).mem = s.mem ∧ (statsConfigEffect tag r s).free = s.free ∧ (statsConfigEffect tag r s).pending = s.pending := by
  unfold statsConfigEffect; (repeat' split) <;> simp

@[simp] theorem statsStartEffect_frame (tag : Byte) :
    (statsStartEffect tag s).clock = s.clock ∧ (statsStartEffect tag s).pins = s.pins ∧ (statsStartEffect tag
    s).lrx = s.lrx ∧ (statsStartEffect tag s).capu = s.capu ∧ (statsStartEffect tag s).marb = s.marb ∧
    (statsStartEffect tag s).pru = s.pru ∧ (statsStartEffect tag s).crp = s.crp ∧ (statsStartEffect tag s).ssch =
    s.ssch ∧ (statsStartEffect tag s).seng = s.seng ∧ (statsStartEffect tag s).panel = s.panel ∧ (statsStartEffect
    tag s).ocap = s.ocap ∧ (statsStartEffect tag s).ocmp = s.ocmp ∧ (statsStartEffect tag s).tbc = s.tbc ∧
    (statsStartEffect tag s).frl = s.frl ∧ (statsStartEffect tag s).evu = s.evu ∧ (statsStartEffect tag s).lfb =
    s.lfb ∧ (statsStartEffect tag s).dctl = s.dctl ∧ (statsStartEffect tag s).mem = s.mem ∧ (statsStartEffect tag
    s).free = s.free ∧ (statsStartEffect tag s).pending = s.pending := by
  unfold statsStartEffect; split <;> simp

@[simp] theorem statsStopEffect_frame (tag : Byte) :
    (statsStopEffect tag s).clock = s.clock ∧ (statsStopEffect tag s).pins = s.pins ∧ (statsStopEffect tag s).lrx
    = s.lrx ∧ (statsStopEffect tag s).capu = s.capu ∧ (statsStopEffect tag s).marb = s.marb ∧ (statsStopEffect tag
    s).pru = s.pru ∧ (statsStopEffect tag s).crp = s.crp ∧ (statsStopEffect tag s).ssch = s.ssch ∧
    (statsStopEffect tag s).seng = s.seng ∧ (statsStopEffect tag s).panel = s.panel ∧ (statsStopEffect tag s).ocap
    = s.ocap ∧ (statsStopEffect tag s).ocmp = s.ocmp ∧ (statsStopEffect tag s).tbc = s.tbc ∧ (statsStopEffect tag
    s).frl = s.frl ∧ (statsStopEffect tag s).evu = s.evu ∧ (statsStopEffect tag s).lfb = s.lfb ∧ (statsStopEffect
    tag s).dctl = s.dctl ∧ (statsStopEffect tag s).mem = s.mem ∧ (statsStopEffect tag s).free = s.free ∧
    (statsStopEffect tag s).pending = s.pending := by
  unfold statsStopEffect; split <;> simp

@[simp] theorem recordStreamEffect_frame (tag v : Byte) :
    (recordStreamEffect tag v s).clock = s.clock ∧ (recordStreamEffect tag v s).pins = s.pins ∧
    (recordStreamEffect tag v s).lrx = s.lrx ∧ (recordStreamEffect tag v s).capu = s.capu ∧ (recordStreamEffect
    tag v s).marb = s.marb ∧ (recordStreamEffect tag v s).pru = s.pru ∧ (recordStreamEffect tag v s).crp = s.crp ∧
    (recordStreamEffect tag v s).ssch = s.ssch ∧ (recordStreamEffect tag v s).seng = s.seng ∧ (recordStreamEffect
    tag v s).panel = s.panel ∧ (recordStreamEffect tag v s).ocap = s.ocap ∧ (recordStreamEffect tag v s).ocmp =
    s.ocmp ∧ (recordStreamEffect tag v s).tbc = s.tbc ∧ (recordStreamEffect tag v s).zsu = s.zsu ∧
    (recordStreamEffect tag v s).evu = s.evu ∧ (recordStreamEffect tag v s).lfb = s.lfb ∧ (recordStreamEffect tag
    v s).dctl = s.dctl ∧ (recordStreamEffect tag v s).mem = s.mem ∧ (recordStreamEffect tag v s).free = s.free ∧
    (recordStreamEffect tag v s).pending = s.pending := by
  unfold recordStreamEffect; (repeat' split) <;> simp

@[simp] theorem fetchRecordEffect_frame (tag : Byte) (q : Half) :
    (fetchRecordEffect tag q s).clock = s.clock ∧ (fetchRecordEffect tag q s).pins = s.pins ∧ (fetchRecordEffect
    tag q s).lrx = s.lrx ∧ (fetchRecordEffect tag q s).capu = s.capu ∧ (fetchRecordEffect tag q s).marb = s.marb ∧
    (fetchRecordEffect tag q s).pru = s.pru ∧ (fetchRecordEffect tag q s).crp = s.crp ∧ (fetchRecordEffect tag q
    s).ssch = s.ssch ∧ (fetchRecordEffect tag q s).seng = s.seng ∧ (fetchRecordEffect tag q s).panel = s.panel ∧
    (fetchRecordEffect tag q s).ocap = s.ocap ∧ (fetchRecordEffect tag q s).ocmp = s.ocmp ∧ (fetchRecordEffect tag
    q s).tbc = s.tbc ∧ (fetchRecordEffect tag q s).zsu = s.zsu ∧ (fetchRecordEffect tag q s).frl = s.frl ∧
    (fetchRecordEffect tag q s).evu = s.evu ∧ (fetchRecordEffect tag q s).lfb = s.lfb ∧ (fetchRecordEffect tag q
    s).dctl = s.dctl ∧ (fetchRecordEffect tag q s).mem = s.mem ∧ (fetchRecordEffect tag q s).free = s.free ∧
    (fetchRecordEffect tag q s).pending = s.pending := by
  unfold fetchRecordEffect; split <;> simp

@[simp] theorem eventConfigEffect_frame (tag e l r : Byte) :
    (eventConfigEffect tag e l r s).clock = s.clock ∧ (eventConfigEffect tag e l r s).pins = s.pins ∧
    (eventConfigEffect tag e l r s).lrx = s.lrx ∧ (eventConfigEffect tag e l r s).capu = s.capu ∧
    (eventConfigEffect tag e l r s).marb = s.marb ∧ (eventConfigEffect tag e l r s).pru = s.pru ∧
    (eventConfigEffect tag e l r s).crp = s.crp ∧ (eventConfigEffect tag e l r s).ssch = s.ssch ∧
    (eventConfigEffect tag e l r s).seng = s.seng ∧ (eventConfigEffect tag e l r s).panel = s.panel ∧
    (eventConfigEffect tag e l r s).ocap = s.ocap ∧ (eventConfigEffect tag e l r s).ocmp = s.ocmp ∧
    (eventConfigEffect tag e l r s).tbc = s.tbc ∧ (eventConfigEffect tag e l r s).zsu = s.zsu ∧ (eventConfigEffect
    tag e l r s).frl = s.frl ∧ (eventConfigEffect tag e l r s).lfb = s.lfb ∧ (eventConfigEffect tag e l r s).dctl
    = s.dctl ∧ (eventConfigEffect tag e l r s).mem = s.mem ∧ (eventConfigEffect tag e l r s).free = s.free ∧
    (eventConfigEffect tag e l r s).pending = s.pending := by
  unfold eventConfigEffect; (repeat' split) <;> simp

@[simp] theorem setThresholdsEffect_frame (tag n a : Byte) :
    (setThresholdsEffect tag n a s).clock = s.clock ∧ (setThresholdsEffect tag n a s).pins = s.pins ∧
    (setThresholdsEffect tag n a s).lrx = s.lrx ∧ (setThresholdsEffect tag n a s).capu = s.capu ∧
    (setThresholdsEffect tag n a s).marb = s.marb ∧ (setThresholdsEffect tag n a s).pru = s.pru ∧
    (setThresholdsEffect tag n a s).crp = s.crp ∧ (setThresholdsEffect tag n a s).ssch = s.ssch ∧
    (setThresholdsEffect tag n a s).seng = s.seng ∧ (setThresholdsEffect tag n a s).panel = s.panel ∧
    (setThresholdsEffect tag n a s).ocap = s.ocap ∧ (setThresholdsEffect tag n a s).ocmp = s.ocmp ∧
    (setThresholdsEffect tag n a s).tbc = s.tbc ∧ (setThresholdsEffect tag n a s).zsu = s.zsu ∧
    (setThresholdsEffect tag n a s).frl = s.frl ∧ (setThresholdsEffect tag n a s).lfb = s.lfb ∧
    (setThresholdsEffect tag n a s).dctl = s.dctl ∧ (setThresholdsEffect tag n a s).mem = s.mem ∧
    (setThresholdsEffect tag n a s).free = s.free ∧ (setThresholdsEffect tag n a s).pending = s.pending := by
  unfold setThresholdsEffect; split <;> simp

@[simp] theorem clearEventsEffect_frame (tag : Byte) (x : Half) :
    (clearEventsEffect tag x s).clock = s.clock ∧ (clearEventsEffect tag x s).pins = s.pins ∧ (clearEventsEffect
    tag x s).lrx = s.lrx ∧ (clearEventsEffect tag x s).capu = s.capu ∧ (clearEventsEffect tag x s).marb = s.marb ∧
    (clearEventsEffect tag x s).pru = s.pru ∧ (clearEventsEffect tag x s).crp = s.crp ∧ (clearEventsEffect tag x
    s).ssch = s.ssch ∧ (clearEventsEffect tag x s).seng = s.seng ∧ (clearEventsEffect tag x s).panel = s.panel ∧
    (clearEventsEffect tag x s).ocap = s.ocap ∧ (clearEventsEffect tag x s).ocmp = s.ocmp ∧ (clearEventsEffect tag
    x s).tbc = s.tbc ∧ (clearEventsEffect tag x s).zsu = s.zsu ∧ (clearEventsEffect tag x s).frl = s.frl ∧
    (clearEventsEffect tag x s).lfb = s.lfb ∧ (clearEventsEffect tag x s).dctl = s.dctl ∧ (clearEventsEffect tag x
    s).mem = s.mem ∧ (clearEventsEffect tag x s).free = s.free ∧ (clearEventsEffect tag x s).pending = s.pending := by
  unfold clearEventsEffect; split <;> simp

@[simp] theorem readEventsEffect_frame (tag : Byte) :
    (readEventsEffect tag s).clock = s.clock ∧ (readEventsEffect tag s).pins = s.pins ∧ (readEventsEffect tag
    s).lrx = s.lrx ∧ (readEventsEffect tag s).capu = s.capu ∧ (readEventsEffect tag s).marb = s.marb ∧
    (readEventsEffect tag s).pru = s.pru ∧ (readEventsEffect tag s).crp = s.crp ∧ (readEventsEffect tag s).ssch =
    s.ssch ∧ (readEventsEffect tag s).seng = s.seng ∧ (readEventsEffect tag s).panel = s.panel ∧ (readEventsEffect
    tag s).ocap = s.ocap ∧ (readEventsEffect tag s).ocmp = s.ocmp ∧ (readEventsEffect tag s).tbc = s.tbc ∧
    (readEventsEffect tag s).zsu = s.zsu ∧ (readEventsEffect tag s).frl = s.frl ∧ (readEventsEffect tag s).evu =
    s.evu ∧ (readEventsEffect tag s).lfb = s.lfb ∧ (readEventsEffect tag s).dctl = s.dctl ∧ (readEventsEffect tag
    s).mem = s.mem ∧ (readEventsEffect tag s).free = s.free ∧ (readEventsEffect tag s).pending = s.pending := by
  simp [readEventsEffect]

@[simp] theorem fuseReadEffect_frame (tag w : Byte) :
    (fuseReadEffect tag w s).clock = s.clock ∧ (fuseReadEffect tag w s).pins = s.pins ∧ (fuseReadEffect tag w
    s).lrx = s.lrx ∧ (fuseReadEffect tag w s).capu = s.capu ∧ (fuseReadEffect tag w s).marb = s.marb ∧
    (fuseReadEffect tag w s).pru = s.pru ∧ (fuseReadEffect tag w s).crp = s.crp ∧ (fuseReadEffect tag w s).ssch =
    s.ssch ∧ (fuseReadEffect tag w s).seng = s.seng ∧ (fuseReadEffect tag w s).panel = s.panel ∧ (fuseReadEffect
    tag w s).ocap = s.ocap ∧ (fuseReadEffect tag w s).ocmp = s.ocmp ∧ (fuseReadEffect tag w s).tbc = s.tbc ∧
    (fuseReadEffect tag w s).zsu = s.zsu ∧ (fuseReadEffect tag w s).frl = s.frl ∧ (fuseReadEffect tag w s).evu =
    s.evu ∧ (fuseReadEffect tag w s).lfb = s.lfb ∧ (fuseReadEffect tag w s).dctl = s.dctl ∧ (fuseReadEffect tag w
    s).mem = s.mem ∧ (fuseReadEffect tag w s).free = s.free ∧ (fuseReadEffect tag w s).pending = s.pending := by
  unfold fuseReadEffect; (repeat' split) <;> simp

@[simp] theorem fuseProgramEffect_frame (tag w : Byte) (v : Half) :
    (fuseProgramEffect tag w v s).clock = s.clock ∧ (fuseProgramEffect tag w v s).pins = s.pins ∧
    (fuseProgramEffect tag w v s).lrx = s.lrx ∧ (fuseProgramEffect tag w v s).capu = s.capu ∧ (fuseProgramEffect
    tag w v s).marb = s.marb ∧ (fuseProgramEffect tag w v s).pru = s.pru ∧ (fuseProgramEffect tag w v s).crp =
    s.crp ∧ (fuseProgramEffect tag w v s).ssch = s.ssch ∧ (fuseProgramEffect tag w v s).seng = s.seng ∧
    (fuseProgramEffect tag w v s).panel = s.panel ∧ (fuseProgramEffect tag w v s).ocap = s.ocap ∧
    (fuseProgramEffect tag w v s).ocmp = s.ocmp ∧ (fuseProgramEffect tag w v s).tbc = s.tbc ∧ (fuseProgramEffect
    tag w v s).zsu = s.zsu ∧ (fuseProgramEffect tag w v s).frl = s.frl ∧ (fuseProgramEffect tag w v s).evu = s.evu
    ∧ (fuseProgramEffect tag w v s).dctl = s.dctl ∧ (fuseProgramEffect tag w v s).mem = s.mem ∧ (fuseProgramEffect
    tag w v s).free = s.free ∧ (fuseProgramEffect tag w v s).pending = s.pending := by
  unfold fuseProgramEffect; (repeat' split) <;> simp

@[simp] theorem fuseLockEffect_frame (tag : Byte) :
    (fuseLockEffect tag s).clock = s.clock ∧ (fuseLockEffect tag s).pins = s.pins ∧ (fuseLockEffect tag s).lrx =
    s.lrx ∧ (fuseLockEffect tag s).capu = s.capu ∧ (fuseLockEffect tag s).marb = s.marb ∧ (fuseLockEffect tag
    s).pru = s.pru ∧ (fuseLockEffect tag s).crp = s.crp ∧ (fuseLockEffect tag s).ssch = s.ssch ∧ (fuseLockEffect
    tag s).seng = s.seng ∧ (fuseLockEffect tag s).panel = s.panel ∧ (fuseLockEffect tag s).ocap = s.ocap ∧
    (fuseLockEffect tag s).ocmp = s.ocmp ∧ (fuseLockEffect tag s).tbc = s.tbc ∧ (fuseLockEffect tag s).zsu = s.zsu
    ∧ (fuseLockEffect tag s).frl = s.frl ∧ (fuseLockEffect tag s).evu = s.evu ∧ (fuseLockEffect tag s).dctl =
    s.dctl ∧ (fuseLockEffect tag s).mem = s.mem ∧ (fuseLockEffect tag s).free = s.free ∧ (fuseLockEffect tag
    s).pending = s.pending := by
  unfold fuseLockEffect; (repeat' split) <;> simp

end Sys2Proof.Machine
end

