-- ==== Sys2Proof/Laws/Memory.lean ====
section
/-! SUPPORT. Frame memory: what a run of bytes written reads back as, what it leaves, and that every write keeps the
canonical form. -/

namespace Sys2Proof.Machine

/-- An address is looked up in the part of a memory that a test on addresses keeps. -/
theorem lookup_filter (m : Memory) (a : Nat) (keep : Nat → Bool) :
    (m.filter fun c => keep c.1).lookup a = if keep a then m.lookup a else none := by
  induction m with
  | nil => simp
  | cons c m ih =>
    obtain ⟨k, b⟩ := c
    by_cases h : a = k
    · subst h; cases hk : keep a <;> simp [hk, ih]
    · have h' : (a == k) = false := by simpa using h
      cases hk : keep k <;> simp [hk, ih, List.lookup_cons, h']

theorem lookup_append (m n : Memory) (a : Nat) : (m ++ n).lookup a = (m.lookup a).or (n.lookup a) := by
  induction m with
  | nil => rfl
  | cons c m ih =>
    obtain ⟨k, b⟩ := c
    rw [List.cons_append, List.lookup_cons, List.lookup_cons]
    cases a == k
    · exact ih
    · rfl

/-- Every entry a run of bytes makes lies inside the run and holds a byte other than the unwritten one. -/
theorem cellsOf_mem (bytes : List Byte) (a : Nat) :
    ∀ c ∈ cellsOf a bytes, a ≤ c.1 ∧ c.1 < a + bytes.length ∧ c.2 ≠ unwritten := by
  induction bytes generalizing a with
  | nil => simp [cellsOf]
  | cons b rest ih =>
    intro c hc
    unfold cellsOf at hc
    split at hc
    · have := ih (a + 1) c hc; rw [List.length_cons]; exact ⟨by omega, by omega, this.2.2⟩
    · rcases List.mem_cons.mp hc with rfl | hc
      · simp_all
      · have := ih (a + 1) c hc; rw [List.length_cons]; exact ⟨by omega, by omega, this.2.2⟩

theorem cellsOf_sorted (bytes : List Byte) (a : Nat) : (cellsOf a bytes).Pairwise fun x y => x.1 < y.1 := by
  induction bytes generalizing a with
  | nil => simp [cellsOf]
  | cons b rest ih =>
    unfold cellsOf
    split
    · exact ih (a + 1)
    · exact List.pairwise_cons.mpr ⟨fun c hc => by have := cellsOf_mem rest (a + 1) c hc; omega, ih (a + 1)⟩

/-- A run of bytes read back through the entries it makes. -/
theorem cellsOf_lookup (bytes : List Byte) (a k : Nat) (b : Byte) (h : bytes[k]? = some b) :
    ((cellsOf a bytes).lookup (a + k)).getD unwritten = b := by
  induction bytes generalizing a k with
  | nil => simp at h
  | cons x rest ih =>
    have off : (cellsOf (a + 1) rest).lookup a = none := by
      rw [List.lookup_eq_none_iff]
      intro c hc
      have := cellsOf_mem rest (a + 1) c hc
      simp; omega
    cases k with
    | zero =>
      simp only [List.getElem?_cons_zero, Option.some.injEq] at h
      subst h
      unfold cellsOf
      split
      · rw [Nat.add_zero, off]; simp_all
      · simp
    | succ k =>
      have hi := ih (a + 1) k (by simpa using h)
      rw [show a + 1 + k = a + (k + 1) by omega] at hi
      unfold cellsOf
      split
      · exact hi
      · rw [List.lookup_cons, show (a + (k + 1) == a) = false by simp]; exact hi

/-- A byte outside a run that is written reads as before. -/
theorem Memory.read_store_outside (m : Memory) (a : Nat) (bytes : List Byte) (x : Nat)
    (h : x < a ∨ a + bytes.length ≤ x) : (m.store a bytes).read x = m.read x := by
  have off : (cellsOf a bytes).lookup x = none := by
    rw [List.lookup_eq_none_iff]
    intro c hc
    have := cellsOf_mem bytes a c hc
    simp; omega
  unfold Memory.store Memory.read
  rw [lookup_append, lookup_append, off, lookup_filter m x fun k => decide (k < a),
    lookup_filter m x fun k => decide (a + bytes.length ≤ k)]
  by_cases h1 : x < a
  · have : ¬ a + bytes.length ≤ x := by omega
    simp [h1, this]
  · have : a + bytes.length ≤ x := by omega
    simp [h1, this]

/-- A byte inside a run that is written reads as the run's byte. -/
theorem Memory.read_store_inside (m : Memory) (a : Nat) (bytes : List Byte) (k : Nat) (b : Byte)
    (h : bytes[k]? = some b) : (m.store a bytes).read (a + k) = b := by
  have hk : k < bytes.length := (List.getElem?_eq_some_iff.mp h).1
  unfold Memory.store Memory.read
  rw [lookup_append, lookup_append, lookup_filter m (a + k) fun x => decide (x < a),
    lookup_filter m (a + k) fun x => decide (a + bytes.length ≤ x)]
  simpa [show ¬ a + bytes.length ≤ a + k by omega] using cellsOf_lookup bytes a k b h

/-- A run of bytes written inside the device keeps the canonical form. -/
theorem Memory.store_wf (m : Memory) (a : Nat) (bytes : List Byte) (h : m.wf)
    (fits : a + bytes.length ≤ Config.memorySize) : (m.store a bytes).wf := by
  have inside := cellsOf_mem bytes a
  constructor
  · unfold Memory.store
    rw [List.pairwise_append, List.pairwise_append]
    refine ⟨⟨h.1.filter _, cellsOf_sorted bytes a, ?_⟩, h.1.filter _, ?_⟩
    · intro x hx y hy
      have := inside y hy
      simp at hx; omega
    · intro x hx y hy
      simp only [List.mem_filter, decide_eq_true_eq] at hy
      rcases List.mem_append.mp hx with hx | hx
      · simp at hx; omega
      · have := inside x hx; omega
  · intro c hc
    unfold Memory.store at hc
    simp only [List.mem_append, List.mem_filter] at hc
    rcases hc with (hc | hc) | hc
    · exact h.2 c hc.1
    · have := inside c hc; exact ⟨this.2.2, by omega⟩
    · exact h.2 c hc.1

theorem Memory.partBytes_length (m : Memory) (draw a i : Nat) (bytes : List Byte) :
    (m.partBytes draw a i bytes).length = bytes.length := by
  induction bytes generalizing i with
  | nil => rfl
  | cons b rest ih => simp [Memory.partBytes, ih]

/-- A write cut short inside the device keeps the canonical form. -/
theorem Memory.storePart_wf (m : Memory) (draw a : Nat) (bytes : List Byte) (h : m.wf)
    (fits : a + bytes.length ≤ Config.memorySize) : (m.storePart draw a bytes).wf :=
  m.store_wf a _ h (by rw [Memory.partBytes_length]; exact fits)

theorem gamePixels_length (pixels : List GamePixel) :
    (pixels.flatMap GamePixel.bytes).length = 4 * pixels.length := by
  induction pixels with
  | nil => rfl
  | cons p rest ih => simp only [List.flatMap_cons, List.length_append, ih, GamePixel.bytes, List.length_cons,
      List.length_nil]; omega

theorem overlayPixels_length (pixels : List OverlayPixel) :
    (pixels.flatMap OverlayPixel.bytes).length = 4 * pixels.length := by
  induction pixels with
  | nil => rfl
  | cons p rest ih => simp only [List.flatMap_cons, List.length_append, ih, OverlayPixel.bytes, List.length_cons,
      List.length_nil]; omega

/-- A slot line written inside the layout keeps the canonical form. -/
theorem Memory.writeSlotLine_wf (m : Memory) (i : SlotId) (line : Nat) (pixels : List GamePixel) (h : m.wf)
    (fits : slotLineInLayout line pixels.length = true) : (m.writeSlotLine i line pixels).wf := by
  simp only [slotLineInLayout, Bool.and_eq_true, decide_eq_true_eq] at fits
  apply m.store_wf _ _ h
  have := i.isLt
  simp only [gamePixels_length, slotLineAddress, slotBase, Config.memorySize]; omega

/-- A plane line written inside the layout keeps the canonical form. -/
theorem Memory.writePlaneLine_wf (m : Memory) (p : Plane) (line : Nat) (pixels : List OverlayPixel) (h : m.wf)
    (fits : planeLineInLayout line pixels.length = true) : (m.writePlaneLine p line pixels).wf := by
  rw [planeLineInLayout, Bool.and_eq_true, decide_eq_true_eq, decide_eq_true_eq] at fits
  simp only [Config.planeLines, Config.planeWidth] at fits
  apply m.store_wf _ _ h
  cases p <;> simp only [overlayPixels_length, planeLineAddress, planeBase, Config.memorySize] <;> omega

/-- The memory after reset lists nothing, so it has the canonical form. -/
theorem reset_memory_wf : State.reset.mem.wf := by decide

end Sys2Proof.Machine
end

