-- ==== Sys2Proof/Laws/PerInstr.lean ====
section
/-! SUPPORT. Statements about each row as syntax: a row that a packet can dispatch is well-formed exactly when the
command in the packet is. -/

namespace Sys2Proof.Laws.Dispatched

/-- A command that is dispatched as this row is well-formed exactly when the row is. -/
def Statement (i : Instr) : Prop :=
  ∀ dt tag fprog c, Command.toInstr dt tag fprog c = i → c.wellFormed = i.wellFormed

theorem resetAssert dt : Statement (.resetAssert dt) := by
  intro dt' tag' fprog' c h
  cases c <;> cases h

theorem resetRelease dt : Statement (.resetRelease dt) := by
  intro dt' tag' fprog' c h
  cases c <;> cases h

theorem loadingEnd dt : Statement (.loadingEnd dt) := by
  intro dt' tag' fprog' c h
  cases c <;> cases h

theorem lockArrival dt : Statement (.lockArrival dt) := by
  intro dt' tag' fprog' c h
  cases c <;> cases h

theorem lossArrival dt : Statement (.lossArrival dt) := by
  intro dt' tag' fprog' c h
  cases c <;> cases h

theorem lfs dt : Statement (.lfs dt) := by
  intro dt' tag' fprog' c h
  cases c <;> cases h

theorem lineStart dt : Statement (.lineStart dt) := by
  intro dt' tag' fprog' c h
  cases c <;> cases h

theorem lineEnd dt pixels : Statement (.lineEnd dt pixels) := by
  intro dt' tag' fprog' c h
  cases c <;> cases h

theorem blankingStart dt : Statement (.blankingStart dt) := by
  intro dt' tag' fprog' c h
  cases c <;> cases h

theorem lineOverdueExpiry dt : Statement (.lineOverdueExpiry dt) := by
  intro dt' tag' fprog' c h
  cases c <;> cases h

theorem maintenanceDue dt : Statement (.maintenanceDue dt) := by
  intro dt' tag' fprog' c h
  cases c <;> cases h

theorem maintenanceEnd dt : Statement (.maintenanceEnd dt) := by
  intro dt' tag' fprog' c h
  cases c <;> cases h

theorem transferEnd dt : Statement (.transferEnd dt) := by
  intro dt' tag' fprog' c h
  cases c <;> cases h

theorem minExpiry dt : Statement (.minExpiry dt) := by
  intro dt' tag' fprog' c h
  cases c <;> cases h

theorem deadlineExpiry dt : Statement (.deadlineExpiry dt) := by
  intro dt' tag' fprog' c h
  cases c <;> cases h

theorem freeRunExpiry dt : Statement (.freeRunExpiry dt) := by
  intro dt' tag' fprog' c h
  cases c <;> cases h

theorem planTimerExpiry dt : Statement (.planTimerExpiry dt) := by
  intro dt' tag' fprog' c h
  cases c <;> cases h

theorem outputTime dt : Statement (.outputTime dt) := by
  intro dt' tag' fprog' c h
  cases c <;> cases h

theorem overlayLock dt : Statement (.overlayLock dt) := by
  intro dt' tag' fprog' c h
  cases c <;> cases h

theorem overlayLoss dt : Statement (.overlayLoss dt) := by
  intro dt' tag' fprog' c h
  cases c <;> cases h

theorem overlayFrameStart dt : Statement (.overlayFrameStart dt) := by
  intro dt' tag' fprog' c h
  cases c <;> cases h

theorem overlayLineStart dt : Statement (.overlayLineStart dt) := by
  intro dt' tag' fprog' c h
  cases c <;> cases h

theorem overlayLineEnd dt pixels : Statement (.overlayLineEnd dt pixels) := by
  intro dt' tag' fprog' c h
  cases c <;> cases h

theorem controlPacket dt bytes : Statement (.controlPacket dt bytes) := by
  intro dt' tag' fprog' c h
  cases c <;> cases h

theorem start dt tag : Statement (.start dt tag) := by
  intro dt' tag' fprog' c h
  cases c <;> cases h
  rfl

theorem stop dt tag : Statement (.stop dt tag) := by
  intro dt' tag' fprog' c h
  cases c <;> cases h
  rfl

theorem status dt tag : Statement (.status dt tag) := by
  intro dt' tag' fprog' c h
  cases c <;> cases h
  rfl

theorem softReset dt tag : Statement (.softReset dt tag) := by
  intro dt' tag' fprog' c h
  cases c <;> cases h
  rfl

theorem writeProfile dt tag req : Statement (.writeProfile dt tag req) := by
  intro dt' tag' fprog' c h
  cases c <;> cases h
  rfl

theorem readProfile dt tag index : Statement (.readProfile dt tag index) := by
  intro dt' tag' fprog' c h
  cases c <;> cases h
  rfl

theorem resetCadence dt tag : Statement (.resetCadence dt tag) := by
  intro dt' tag' fprog' c h
  cases c <;> cases h
  rfl

theorem writeTonePoints dt tag channel first points : Statement (.writeTonePoints dt tag channel first points) := by
  intro dt' tag' fprog' c h
  cases c <;> cases h
  rfl

theorem readTonePoints dt tag bank channel first count : Statement (.readTonePoints dt tag bank channel first count) := by
  intro dt' tag' fprog' c h
  cases c <;> cases h
  rfl

theorem writeRegion dt tag req : Statement (.writeRegion dt tag req) := by
  intro dt' tag' fprog' c h
  cases c <;> cases h
  rfl

theorem readRegion dt tag bank index : Statement (.readRegion dt tag bank index) := by
  intro dt' tag' fprog' c h
  cases c <;> cases h
  rfl

theorem setFill dt tag red green blue : Statement (.setFill dt tag red green blue) := by
  intro dt' tag' fprog' c h
  cases c <;> cases h
  rfl

theorem selectProfile dt tag index : Statement (.selectProfile dt tag index) := by
  intro dt' tag' fprog' c h
  cases c <;> cases h
  rfl

theorem commit dt tag marker : Statement (.commit dt tag marker) := by
  intro dt' tag' fprog' c h
  cases c <;> cases h
  rfl

theorem discardShadow dt tag : Statement (.discardShadow dt tag) := by
  intro dt' tag' fprog' c h
  cases c <;> cases h
  rfl

theorem statsConfig dt tag req : Statement (.statsConfig dt tag req) := by
  intro dt' tag' fprog' c h
  cases c <;> cases h
  rfl

theorem statsStart dt tag : Statement (.statsStart dt tag) := by
  intro dt' tag' fprog' c h
  cases c <;> cases h
  rfl

theorem statsStop dt tag : Statement (.statsStop dt tag) := by
  intro dt' tag' fprog' c h
  cases c <;> cases h
  rfl

theorem recordStream dt tag switch : Statement (.recordStream dt tag switch) := by
  intro dt' tag' fprog' c h
  cases c <;> cases h
  rfl

theorem fetchRecord dt tag seq : Statement (.fetchRecord dt tag seq) := by
  intro dt' tag' fprog' c h
  cases c <;> cases h
  rfl

theorem eventConfig dt tag source level route : Statement (.eventConfig dt tag source level route) := by
  intro dt' tag' fprog' c h
  cases c <;> cases h
  rfl

theorem setThresholds dt tag notice attention : Statement (.setThresholds dt tag notice attention) := by
  intro dt' tag' fprog' c h
  cases c <;> cases h
  rfl

theorem clearEvents dt tag set : Statement (.clearEvents dt tag set) := by
  intro dt' tag' fprog' c h
  cases c <;> cases h
  rfl

theorem readEvents dt tag : Statement (.readEvents dt tag) := by
  intro dt' tag' fprog' c h
  cases c <;> cases h
  rfl

theorem fuseRead dt tag word : Statement (.fuseRead dt tag word) := by
  intro dt' tag' fprog' c h
  cases c <;> cases h
  rfl

theorem fuseProgram dt tag word value fprog : Statement (.fuseProgram dt tag word value fprog) := by
  intro dt' tag' fprog' c h
  cases c <;> cases h
  rfl

theorem fuseLock dt tag fprog : Statement (.fuseLock dt tag fprog) := by
  intro dt' tag' fprog' c h
  cases c <;> cases h
  rfl

theorem fuseProgramEnd dt : Statement (.fuseProgramEnd dt) := by
  intro dt' tag' fprog' c h
  cases c <;> cases h

theorem fuseLockEnd dt : Statement (.fuseLockEnd dt) := by
  intro dt' tag' fprog' c h
  cases c <;> cases h

theorem fprogFall dt : Statement (.fprogFall dt) := by
  intro dt' tag' fprog' c h
  cases c <;> cases h

end Sys2Proof.Laws.Dispatched
end

