-- ==== Sys2Proof/Laws/Vocabulary.lean ====
section
/-! SUPPORT. The statements' own words: what a state a while later and an answered state hold, and what an arrival does
once the guards it passes are known to hold. -/

namespace Sys2Proof.Machine

variable {s : State}

section
variable (s : State) (dt : Nat)
@[simp] theorem State.after_clock : (s.after dt).clock = s.clock + dt := rfl
@[simp] theorem State.after_pins : (s.after dt).pins = s.pins := rfl
@[simp] theorem State.after_lrx : (s.after dt).lrx = s.lrx := rfl
@[simp] theorem State.after_capu : (s.after dt).capu = s.capu := rfl
@[simp] theorem State.after_marb : (s.after dt).marb = s.marb := rfl
@[simp] theorem State.after_pru : (s.after dt).pru = s.pru := rfl
@[simp] theorem State.after_crp : (s.after dt).crp = s.crp := rfl
@[simp] theorem State.after_ssch : (s.after dt).ssch = s.ssch := rfl
@[simp] theorem State.after_seng : (s.after dt).seng = s.seng := rfl
@[simp] theorem State.after_panel : (s.after dt).panel = s.panel := rfl
@[simp] theorem State.after_ocap : (s.after dt).ocap = s.ocap := rfl
@[simp] theorem State.after_ocmp : (s.after dt).ocmp = s.ocmp := rfl
@[simp] theorem State.after_tbc : (s.after dt).tbc = s.tbc := rfl
@[simp] theorem State.after_zsu : (s.after dt).zsu = s.zsu := rfl
@[simp] theorem State.after_frl : (s.after dt).frl = s.frl := rfl
@[simp] theorem State.after_rct : (s.after dt).rct = s.rct := rfl
@[simp] theorem State.after_evu : (s.after dt).evu = s.evu := rfl
@[simp] theorem State.after_lfb : (s.after dt).lfb = s.lfb := rfl
@[simp] theorem State.after_dctl : (s.after dt).dctl = s.dctl := rfl
@[simp] theorem State.after_mem : (s.after dt).mem = s.mem := rfl
@[simp] theorem State.after_free : (s.after dt).free = s.free := rfl
@[simp] theorem State.after_pending : (s.after dt).pending = s.pending := rfl
end

/-- An answer is the clock moved on and the reply added. -/
theorem State.answered_eq (dt : Nat) (tag code : Byte) (status : Status) (payload : List Byte) :
    s.answered dt tag code status payload = (s.after dt).addReply tag code status payload := rfl

@[simp] theorem State.after_zero : s.after 0 = s := by obtain ⟨⟩ := s; rfl

/-- An answer at once is the reply added. -/
theorem State.answered_zero (tag code : Byte) (status : Status) (payload : List Byte) :
    s.answered 0 tag code status payload = s.addReply tag code status payload := by
  rw [State.answered_eq, State.after_zero]

theorem State.elapse_of (h : s.pins.reset = false) (dt : Nat) : s.elapse dt = s.after dt := by
  simp [State.elapse, h, State.after, State.setClock]

/-- With the reset line released an arrival acts on the state `dt` later. -/
theorem arrival_of (h : s.pins.reset = false) (dt : Nat) (act : State → State) :
    arrival dt act s = act (s.after dt) := by
  simp [arrival, h, State.elapse_of h]

/-- While the reset line is asserted an arrival changes nothing. -/
theorem arrival_held (h : s.pins.reset = true) (dt : Nat) (act : State → State) : arrival dt act s = s := by
  simp [arrival, h]

/-- Outside LOADING, with the reset line released, a guarded arrival acts. -/
theorem arrivalOutsideLoading_of (h : s.awake) (dt : Nat) (act : State → State) :
    arrivalOutsideLoading dt act s = act (s.after dt) := by
  have h2 : (s.after dt).dctl.isLoading = false := h.2
  simp [arrivalOutsideLoading, arrival_of h.1, h.2]

/-- With the live link LOCKED an arrival of the Live Port acts. -/
theorem whenLocked_of (h : s.hearsLive) (dt : Nat) (act : State → State) :
    State.whenLocked act (s.after dt) = act (s.after dt) := by
  simp [State.whenLocked, h.2]

theorem slotTaken_of (h : s.takesSlots) (dt : Nat) : (s.after dt).slotTaken = true := by
  simp [State.slotTaken, h.1.2, h.2]

/-- With a reply place free a packet's effect happens. -/
theorem withPlace_of (h : s.placesInUse < 16) (dt : Nat) (act : State → State) :
    State.withPlace act (s.after dt) = act (s.after dt) := by
  have same : (s.after dt).placesInUse = s.placesInUse := rfl
  simp [State.withPlace, same, Config.replyPlaces, h]

/-- With every reply place in use a packet is dropped and CONTROL_PACKET_BAD raised. -/
theorem withPlace_full (h : ¬ s.placesInUse < 16) (dt : Nat) (act : State → State) :
    State.withPlace act (s.after dt) = (s.after dt).raise .controlPacketBad := by
  have same : (s.after dt).placesInUse = s.placesInUse := rfl
  simp [State.withPlace, same, Config.replyPlaces, h]

/-- A command row that is taken has its effect. -/
theorem commandSlot_of (h : s.takesCommand) (dt : Nat) (effect : State → State) :
    commandSlot dt effect s = .next (effect (s.after dt)) := by
  simp [commandSlot, arrivalOutsideLoading_of h.1.1.1, slotTaken_of h.1, withPlace_of h.2]

/-- A slot that is taken is decided by its bytes. -/
theorem execControlPacket_of (h : s.takesSlots) (dt : Nat) (bytes : List Byte) :
    execControlPacket dt bytes s = .next ((s.after dt).decidePacket (readPacket bytes)) := by
  simp [execControlPacket, arrivalOutsideLoading_of h.1.1, slotTaken_of h]

/-- When the port can grant. -/
theorem State.canGrant_iff : s.canGrant = true ↔
    s.marb.transfer = none ∧ s.marb.maintenance = .none ∧ s.dctl.isLoading = false := by
  simp [State.canGrant, and_assoc]

/-- Serving the port changes the port and the count of free values, and nothing else. -/
theorem State.serve_eq : s.serve = { s with marb := s.serve.marb, free := s.serve.free } := by
  have h := State.serve_frame s
  revert h
  generalize s.serve = t
  obtain ⟨⟩ := t
  obtain ⟨⟩ := s
  simp only [State.mk.injEq]
  tauto

/-! ### Lines that have come -/

/-- The live link has delivered no line that is not counted in lines received (R10, R28). -/
theorem Capu.delivered_le_received (c : Capu) (i : SlotId) : c.delivered i ≤ c.received i := by
  unfold Capu.delivered Capu.received
  cases c.slots[i].state <;> simp only [le_refl]
  refine Nat.add_le_add_left (List.countP_mono_left fun e _ h => ?_) _
  exact (Bool.and_eq_true _ _ ▸ h).1

/-- A line has come once it is delivered. -/
theorem Capu.hasLine_iff (c : Capu) (i : SlotId) (line : Nat) : c.hasLine i line = true ↔ line < c.delivered i := by
  have := c.delivered_le_received i
  simp only [Capu.hasLine, Bool.and_eq_true, decide_eq_true_eq]; omega

/-! ### START's own scan -/

/-- START's own scan, at its instant. -/
theorem State.openingNow_eq_some (sc : Scan) (k : Kept) : s.openingNow = some (sc, k) ↔
    s.seng.scan = some sc ∧ sc.reports.clock = s.clock ∧ sc.opening = some k := by
  simp only [State.openingNow, Option.bind_eq_some_iff, Option.filter_eq_some_iff, Option.map_eq_some_iff,
    Prod.mk.injEq, beq_iff_eq]
  constructor
  · rintro ⟨x, ⟨found, now⟩, k', mark, rfl, rfl⟩; exact ⟨found, now, mark⟩
  · rintro ⟨found, now, mark⟩; exact ⟨sc, ⟨found, now⟩, k, mark, rfl, rfl⟩

/-! ### Output lines, scan ends and OFF -/

theorem Marb.withdrawScanRead_eq (m : Marb) (slot : Option SlotId) (line : Nat) :
    m.withdrawScanRead slot line =
      { m with scanRead := m.scanRead.filter fun r => !decide (slot = some r.1 ∧ r.2 = line) } := by
  unfold Marb.withdrawScanRead
  congr 2; funext r
  rw [Bool.decide_and, beq_eq_decide, beq_eq_decide]

/-- What an output line's leaving does, in the rules' words. -/
theorem State.emitLine_eq (sc : Scan) (pixels : List GamePixel) (patched coupled : Bool) (s : State) :
    s.emitLine sc { pixels := pixels, patched := patched } coupled = s.lineLeft sc pixels patched coupled := by
  simp only [State.emitLine, State.lineLeft, State.advanceTarget, Marb.withdrawScanRead_eq]
  cases coupled <;> cases patched <;> cases reported : sc.patchReported <;>
    by_cases more : sc.nextOut + 1 < sc.lines <;>
    simp [more, State.setPanel, State.setZsu, State.setMarb, State.setSeng, State.setOcmp, State.raise,
      State.setEvu, State.lineSet] <;>
    exact ⟨rfl, rfl⟩

theorem Transfer.unwanted_eq : Transfer.unwanted = fun x => match x with
    | .scanRead i n _ => .scanRead i n false
    | .overlayRead p n _ => .overlayRead p n false
    | .captureWrite i n => .captureWrite i n
    | .overlayWrite e buffered => .overlayWrite e buffered := by
  funext x; cases x <;> rfl

/-- A scan end, in the rules' words. -/
theorem State.engineScanEnd_eq (cut : Bool) (sc : Scan) (s : State) : s.engineScanEnd cut sc = s.scanOver cut sc := by
  have source : s.capu.releaseSource sc.scanSource = (match sc.scanSource with
      | none => s.capu
      | some i =>
        if s.capu.fill = some i ∨ s.capu.latest = some i then s.capu
        else { s.capu with slots := s.capu.slots.set i.val SlotRecord.emptied i.isLt }) := by
    unfold Capu.releaseSource; cases sc.scanSource <;> rfl
  simp only [State.engineScanEnd, State.scanOver, State.statsScanEnd, State.clearEngine, source, Transfer.unwanted_eq]
  cases measuring : s.zsu.state <;> cases cut <;> cases held : s.zsu.held <;>
    first
    | rfl
    | (simp only [State.setCapu, State.setFrl, measuring, held, Zsu.complete, Option.isSome_none, Option.isSome_some,
        if_true, Bool.false_eq_true, if_false, reduceCtorEq, and_self, true_and]; rfl)

/-- The scheduler's reaching OFF, in the rules' words. -/
theorem State.reachOff_eq (s : State) : s.reachOff = s.offReached := by
  have shown : ∀ b : Bool, planIndication s.crp.plan Plan.cleared b =
      if s.crp.plan.remaining = 0 then b else true := by
    intro b; unfold planIndication Plan.isEmpty Plan.cleared
    by_cases none : s.crp.plan.remaining = 0 <;> simp [none]
  have format : s.formatChanges = true ↔
      ¬ (s.pru.table[s.tbc.active.profile].profile.width = s.pru.table[s.tbc.shadow.profile].profile.width
        ∧ s.pru.table[s.tbc.active.profile].profile.lines = s.pru.table[s.tbc.shadow.profile].profile.lines
        ∧ s.pru.table[s.tbc.active.profile].profile.lineTime
          = s.pru.table[s.tbc.shadow.profile].profile.lineTime) := by
    simp only [State.formatChanges, Bool.or_eq_true, bne_iff_ne, ne_eq]; tauto
  unfold State.reachOff State.offReached State.commitAtOff
  cases waiting : s.tbc.commitPending with
  | none => simp only [State.withCrp, Crp.clearPlan, State.setSsch, State.setCrp, shown, waiting]; rfl
  | some m =>
    simp only [State.withCrp, Crp.clearPlan, State.setSsch, State.setCrp, shown, waiting, State.commitWithoutScan]
    generalize off : ({ s with crp := _, ssch := _ } : State) = x
    have same : x.formatChanges = s.formatChanges := by rw [← off]; rfl
    rw [same]
    by_cases changes : s.formatChanges = true
    · rw [if_pos changes, if_neg (format.mp changes), ← off]
      simp only [State.reportFormatChange, State.withCrp, Crp.invalidate, Crp.clearPlan, State.takeCommit,
        State.setTbc, State.raise, State.setEvu, State.setCrp, State.setSsch, planIndication, State.setSeng,
        State.setDctl, Plan.isEmpty, Plan.cleared, beq_self_eq_true, if_true]
      rfl
    · rw [if_neg changes, if_pos (not_not.mp fun h => changes (format.mpr h)), ← off]
      rfl

end Sys2Proof.Machine
end

