-- ==== Sys2Proof/Tests/Slice0.lean ====
section
/-! SUPPORT. Tests: the checks of WellFormed, packets written out byte by byte from R162 and R163, the spec's worked
examples, and for each statement with hypotheses a state and operands that meet them. -/

namespace Sys2Proof.Tests

open Sys2Proof.Machine

/-! ### WellFormed -/

theorem test_packet_of_31_bytes_is_ill_formed :
    (Instr.controlPacket 0 (List.replicate 31 0)).wellFormed = false := by decide
theorem test_packet_of_33_bytes_is_ill_formed :
    (Instr.controlPacket 0 (List.replicate 33 0)).wellFormed = false := by decide
theorem test_empty_tone_run_is_ill_formed : (Instr.writeTonePoints 0 1 0 0 []).wellFormed = false := by decide
theorem test_tone_run_of_13_is_ill_formed :
    (Instr.writeTonePoints 0 1 0 0 (List.replicate 13 0)).wellFormed = false := by decide
theorem test_tone_run_of_12_is_well_formed :
    (Instr.writeTonePoints 0 1 0 0 (List.replicate 12 0)).wellFormed = true := by decide
theorem test_tone_command_of_0_is_ill_formed : (Command.writeTonePoints 0 0 []).wellFormed = false := by decide
theorem test_tone_command_of_13_is_ill_formed :
    (Command.writeTonePoints 0 0 (List.replicate 13 0)).wellFormed = false := by decide

/-! ### Packets, written out from R162 and R163 -/

theorem test_no_table_word_spells_a_command : decodeTableWord 256 0xC1 = none := by decide

/-- STATUS, tag 07h: C1 + 07 + 03 + 00 = CBh, so the check byte is 35h. -/
theorem test_packet_status :
    readPacket ([0xC1, 0x07, 0x03, 0x00] ++ List.replicate 27 0 ++ [0x35]) = .dispatched 0x07 .status := by decide

/-- The same packet with its check byte one off. -/
theorem test_packet_bad_check :
    readPacket ([0xC1, 0x07, 0x03, 0x00] ++ List.replicate 27 0 ++ [0x36]) = .badCheck := by decide

/-- Code 05h names no command. -/
theorem test_packet_bad_command :
    readPacket ([0xC1, 0x07, 0x05, 0x00] ++ List.replicate 27 0 ++ [0x33]) = .badCommand 0x07 0x05 := by decide

/-- START with a payload of one byte. -/
theorem test_packet_bad_length :
    readPacket ([0xC1, 0x07, 0x01, 0x01] ++ List.replicate 27 0 ++ [0x36]) = .badLength 0x07 0x01 := by decide

/-- WRITE_PROFILE with the request of chapter 3's first worked case: 2560 × 1440, 4630 ns, blank 40, pmin 6000, pmax
25000, w 4, stall 200000, multiplier 4, lag 3000, free-run 16667, REPEAT. -/
theorem test_packet_write_profile :
    readPacket ([0xC1, 0x01, 0x10, 0x17, 0x00, 0x00, 0x0A, 0xA0, 0x05, 0x16, 0x12, 0x28, 0x70, 0x17, 0xA8, 0x61, 0x04,
      0x40, 0x0D, 0x03, 0x00, 0x04, 0xB8, 0x0B, 0x1B, 0x41, 0x00, 0x00, 0x00, 0x00, 0x00, 0x11]) =
    .dispatched 0x01 (.writeProfile
      { index := 0, width := 2560, lines := 1440, lineTime := 4630, minBlank := 40, pmin := 6000, pmax := 25000,
        weight := 4, stallLimit := 200000, maxMultiplier := 4, lagThreshold := 3000, freeRun := 16667,
        lossAction := 0 }) := by decide

/-- WRITE_TONE_POINTS: red from index 40, points 2400 and 2500 (R107's curve). -/
theorem test_packet_write_tone_points :
    readPacket ([0xC1, 0x02, 0x30, 0x06, 0x00, 0x28, 0x60, 0x09, 0xC4, 0x09] ++ List.replicate 21 0 ++ [0xA9]) =
    .dispatched 0x02 (.writeTonePoints 0 40 [2400, 2500]) := by decide

/-- WRITE_REGION: region 2 of the worked pixel. -/
theorem test_packet_write_region :
    readPacket ([0xC1, 0x03, 0x32, 0x11, 0x02, 0x03, 0x64, 0x00, 0x32, 0x00, 0x90, 0x01, 0xC8, 0x00, 0xE8, 0x03, 0x58,
      0x02, 0x02, 0xC8, 0x00] ++ List.replicate 10 0 ++ [0xF6]) =
    .dispatched 0x03 (.writeRegion
      { index := 2, level := 3, sourceX := 100, sourceY := 50, width := 400, height := 200, destX := 1000,
        destY := 600, zoom := 2, globalAlpha := 200, alphaMode := 0 }) := by decide

/-- STATS_CONFIG: zones 6 to 9, ONCE, EVERY_SCAN, threshold 900. -/
theorem test_packet_stats_config :
    readPacket ([0xC1, 0x04, 0x40, 0x06, 0x06, 0x09, 0x00, 0x00, 0x84, 0x03] ++ List.replicate 21 0 ++ [0x5F]) =
    .dispatched 0x04 (.statsConfig { first := 6, last := 9, mode := 0, trigger := 0, threshold := 900 }) := by decide

/-- FETCH_RECORD of record 40. -/
theorem test_packet_fetch_record :
    readPacket ([0xC1, 0x05, 0x51, 0x02, 0x28, 0x00] ++ List.replicate 25 0 ++ [0xBF]) =
    .dispatched 0x05 (.fetchRecord 40) := by decide

/-- EVENT_CONFIG: source 11, level 3, route BOTH. -/
theorem test_packet_event_config :
    readPacket ([0xC1, 0x06, 0x60, 0x03, 0x0B, 0x03, 0x02] ++ List.replicate 24 0 ++ [0xC6]) =
    .dispatched 0x06 (.eventConfig 11 3 2) := by decide

/-- FUSE_PROGRAM: word 1, value 20833. -/
theorem test_packet_fuse_program :
    readPacket ([0xC1, 0x08, 0x71, 0x03, 0x01, 0x61, 0x51] ++ List.replicate 24 0 ++ [0x10]) =
    .dispatched 0x08 (.fuseProgram 1 20833) := by decide

/-- COMMIT with marker 1234h. -/
theorem test_packet_commit :
    readPacket ([0xC1, 0x09, 0x36, 0x02, 0x34, 0x12] ++ List.replicate 25 0 ++ [0xB8]) =
    .dispatched 0x09 (.commit 0x1234) := by decide

/-- SET_FILL: red 1, green 2, blue 1023. -/
theorem test_packet_set_fill :
    readPacket ([0xC1, 0x0A, 0x34, 0x06, 0x01, 0x00, 0x02, 0x00, 0xFF, 0x03] ++ List.replicate 21 0 ++ [0xF6]) =
    .dispatched 0x0A (.setFill 1 2 1023) := by decide

/-! ### Worked examples of the spec -/

/-- The red curve of R107's example: P[40] = 2400, P[41] = 2500. -/
def redCurve : Curve := (Curve.identity.set 40 2400).set 41 2500

/-- R107: a red code of 650 becomes 616. -/
theorem test_tone_650_is_616 : redCurve.apply 650 = 616 := by decide

/-- The two regions of chapter 7's worked pixel. -/
def region2 : Region :=
  { level := 3, sourceX := 100, sourceY := 50, width := 400, height := 200, destX := 1000, destY := 600, zoom := 2,
    globalAlpha := 200, flat := false }

def region0 : Region :=
  { level := 1, sourceX := 0, sourceY := 400, width := 960, height := 100, destX := 800, destY := 650, zoom := 1,
    globalAlpha := 64, flat := true }

theorem test_plane_line_of_700 : region2.planeLine 700 = 100 ∧ region0.planeLine 700 = 450 := by decide
theorem test_plane_column_of_1300 : region2.planeColumn 1300 = 250 ∧ region0.planeColumn 1300 = 500 := by decide

/-- Chapter 7's worked pixel: both regions blended over (616, 300, 1000), region 0 first, and the cap at 1000. -/
theorem test_worked_pixel :
    capPixel 1000 (region2.blend { red := 200, green := 40, blue := 60, alpha := 128 }
      (region0.blend { red := 0, green := 0, blue := 255, alpha := 0 } { red := 616, green := 300, blue := 1000 })) =
    { red := 595, green := 200, blue := 706 } := by decide

/-- The same pixel with region 2 alone and a peak of 700. -/
theorem test_worked_pixel_capped :
    capPixel 700 (region2.blend { red := 200, green := 40, blue := 60, alpha := 128 }
      { red := 616, green := 300, blue := 1000 }) = { red := 689, green := 245, blue := 700 } := by decide

/-- A region of the budget example: its level, and the plane line it has for line 700. -/
def budgetRegion (level line : Nat) : Region :=
  { level := level, sourceX := 0, sourceY := line, width := 10, height := 1, destX := 0, destY := 700, zoom := 1,
    globalAlpha := 255, flat := true }

/-- Chapter 7's budget case: regions 2, 6, 1, 4, 7 and 0 in precedence order; the last is excluded. -/
theorem test_budget_of_line_700 :
    admitRegions 700 [budgetRegion 3 100, budgetRegion 3 100, budgetRegion 2 20, budgetRegion 2 300, budgetRegion 2 510,
      budgetRegion 1 450] [] =
    ([100, 20, 300, 510], [budgetRegion 3 100, budgetRegion 3 100, budgetRegion 2 20, budgetRegion 2 300,
      budgetRegion 2 510]) := by decide

/-- Chapter 3's locked part: W0 to W6, W7 set. -/
def lockedWords : Vector Half 8 := #v[6945, 20833, 2160, 3840, 3000, 1000, 8, 0xFFFF]

/-- The requests of chapter 3's worked cases. -/
def request (width lines lineTime : Half) (blank : Byte) (pmin pmax : Half) : ProfileRequest :=
  { index := 0, width := width, lines := lines, lineTime := lineTime, minBlank := blank, pmin := pmin, pmax := pmax,
    weight := 4, stallLimit := 200000, maxMultiplier := 4, lagThreshold := 3000, freeRun := 16667, lossAction := 0 }

/-- The profile of chapter 3's first worked case, as stored. -/
def profile0 : Profile :=
  { width := 2560, lines := 1440, lineTime := 4630, minBlank := 40, pmin := 6945, pmax := 20833, weight := 4,
    stallLimit := 200000, maxMultiplier := 4, lagThreshold := 3000, freeRun := 16667, lossAction := .repeatLatest,
    pminEff := 6945, pmaxEff := 20833 }

theorem test_profile_first_case :
    ((requestedProfile (request 2560 1440 4630 40 6000 25000)).clampPeriods (limitsOfWords lockedWords)).clampStall =
      profile0 := by decide

/-- 3840 × 2160 at 7407 ns: blank 8 raised to 42, scan term 16311. -/
theorem test_profile_second_case :
    let p := (requestedProfile (request 3840 2160 7407 8 6000 25000)).clampPeriods (limitsOfWords lockedWords)
    p.minBlank = 42 ∧ p.pminEff = 16311 ∧ p.pmaxEff = 20833 := by decide

/-- 3840 × 2160 at 9800 ns: the scan term 21580 is above the ceiling. -/
theorem test_profile_third_case :
    ((requestedProfile (request 3840 2160 9800 8 6000 25000)).clampPeriods (limitsOfWords lockedWords)).pminEff =
      21580 := by decide

/-- Chapter 3's second case, entry 3: 17176 against the default ceiling of 16667. -/
theorem test_profile_defaults_entry3 :
    let p := (requestedProfile (request 3840 2160 7800 8 16667 16667)).clampPeriods Limits.defaults
    p.pminEff = 17176 ∧ p.pmaxEff = 16667 := by decide

/-- Chapter 3's lock of the second case: W4 = 3400 and W6 = 12 make entry 1's blank lines 46 and entry 2 INVALID. -/
theorem test_revalidation :
    let l := limitsOfWords #v[6945, 20833, 2160, 3840, 3400, 1000, 12, 0xFFFF]
    let old (r : ProfileRequest) : ProfileEntry :=
      { state := .valid, profile := ((requestedProfile r).clampPeriods Limits.defaults).clampStall }
    let e0 := old (request 2560 1440 4630 40 6000 25000)
    let e1 := old (request 3840 2160 7407 4 8000 20000)
    let e2 := old (request 1920 1080 3200 45 16667 16667)
    e0.revalidate l = e0
      ∧ e1.revalidate l = { e1 with profile := { e1.profile with minBlank := 46 } }
      ∧ e2.revalidate l = { e2 with state := .invalid } := by decide

/-- Chapter 4's arithmetic at its limits: m and D for each E. -/
theorem test_plan_arithmetic :
    [none, some 0, some 4000, some 20833, some 20834, some 50000, some 90000].map
        (fun e => (planMultiplier e profile0, planSpacing e profile0)) =
      [(1, 0), (1, 6945), (1, 6945), (1, 20833), (2, 10417), (3, 16666), (4, 20833)] := by decide

theorem test_plan_raised_spacing :
    planSpacing (some 20834) { profile0 with pminEff := 12000 } = 12000 := by decide

/-- Chapter 4's estimates: 25000 then 27000, 20000 and 18000. -/
theorem test_estimates :
    smooth 25000 27000 4 = 25500 ∧ smooth 25500 20000 4 = 24125 ∧ smooth 24125 18000 4 = 22594
      ∧ smooth 31946 60000 4 = 38960 ∧ smooth 38960 38000 4 = 38720 := by decide

/-- Chapter 4: the lag of frame 2 at 27778 is 2796. -/
theorem test_lag_2796 : lagOf 27778 25000 4630 = 2796 := by decide

/-- R134: the luma of (595, 200, 706) is 362. -/
theorem test_luma_362 : luma { red := 595, green := 200, blue := 706 } = 362 := by decide

/-- R135's table for 1366 × 1000: the first column of zone 1 is 170, the first line of row 1 is 166, and the last pixel
lies in zone 47. -/
theorem test_zone_boundaries :
    zoneAt 1366 1000 169 165 = 0 ∧ zoneAt 1366 1000 170 165 = 1 ∧ zoneAt 1366 1000 169 166 = 8
      ∧ zoneAt 1366 1000 1365 999 = 47 := by decide

/-- R140: a sum of 30,000,000 over 76,800 pixels has the mean 391. -/
theorem test_mean_391 :
    (ZoneAcc.result { maximum := 700, sum := 30000000, count := 76800, bright := 0 } 5).mean = 391 := by decide

/-- Chapter 10's record 47: DEFERRED, CHASE, m = 3, no marker. -/
def record47 : FrameRecord :=
  { sequence := 47, kind := .deferred, cause := .chase, startTime := 127778, interval := some 6945, frame := some 3,
    lag := some 2796, overtaken := some 0, patched := 0, profile := 0, marker := none, estimate := some 61250,
    multiplier := 3 }

/-- R165 by hand: kind 1, cause 1, m - 1 = 2 give 45h; all marks but the marker give 2Fh; 127778 = 01F322h, 6945 =
1B21h, 2796 = 0AECh, 61250 = EF42h. -/
theorem test_record_body_47 :
    record47.body = [0x2F, 0x00, 0x45, 0x2F, 0x22, 0xF3, 0x01, 0x00, 0x21, 0x1B, 0x00, 0x00, 0x03, 0x00, 0x00, 0x00,
      0xEC, 0x0A, 0x00, 0x00, 0x00, 0x00, 0x00, 0x00, 0x42, 0xEF, 0x00] := by decide

/-- R166 by hand: a FRESH header of sequence 40 with no interval, profile 0: B5 + 00 + 28 + 00 + FF + FF + 00 = 2DBh. -/
theorem test_scan_header :
    scanHeader .live 40 none 0 = [0xB5, 0x00, 0x28, 0x00, 0xFF, 0xFF, 0x00, 0x25] := by decide

/-- A pixel stored and read back (log 9). -/
theorem test_pixel_bytes :
    gamePixelsOf (GamePixel.bytes { red := 595, green := 200, blue := 706 }) =
      [{ red := 595, green := 200, blue := 706 }] := by decide

/-- R167: SOURCE flags as a source set, FUSE_DONE alone is bit 11. -/
theorem test_source_set : (Evu.initial.raise .fuseDone).setOf (·.pending) = 0x0800 := by decide

/-! ### States for the tests -/

/-- A profile that the default limits pace at 16667 µs. -/
def profile : Profile :=
  { width := 640, lines := 360, lineTime := 10000, minBlank := 14, pmin := 16667, pmax := 16667, weight := 4,
    stallLimit := 200000, maxMultiplier := 4, lagThreshold := 3000, freeRun := 16667, lossAction := .repeatLatest,
    pminEff := 16667, pmaxEff := 16667 }

/-- STANDBY with both links LOCKED, the overlay phase BLANKING, and entry 0 VALID. -/
def ready : State :=
  { State.reset with
    clock := 300000, pins := { reset := false, liveLock := true, overlayLock := true, fprog := true }
    lrx := { Lrx.initial with link := .locked }
    ocap := { Ocap.initial with link := .locked, phase := .blanking }
    pru := { limits := Limits.defaults,
             table := #v[{ state := .valid, profile := profile }, ProfileEntry.blank, ProfileEntry.blank,
               ProfileEntry.blank] }
    dctl := .standby }

/-- A reply. -/
def reply : Reply := { tag := 1, code := 0x03, status := .ok, payload := [] }

/-- Every reply place in use. -/
def full : State := { ready with rct := { queue := List.replicate 16 reply, lane := [] } }

/-- The profile a scan of `profile` keeps. -/
def kept : Kept := { pminEff := 16667, pmaxEff := 16667, freeRun := 16667, lossAction := .repeatLatest }

/-- RUNNING, the scheduler OPEN, a last scan start at 0. -/
def opened : State :=
  { ready with
    clock := 20000000, dctl := .running, seng := { Seng.initial with output := .blanking, sequence := 1 }
    frl := { Frl.initial with next := 1 }
    ssch := { Ssch.initial with
      state := .opened, lastStart := some 0, kept := some kept, runStarted := true, min := .expired 16667
      deadline := .running 40000, freeRun := .running 40000 } }

/-- RUNNING, the scheduler in HOLD with the minimum timer running to 30000. -/
def hold : State := { opened with ssch := { opened.ssch with state := .hold, min := .running 30000 } }

/-- A repeat of slot 0, four lines of two pixels, with line 0 to come. -/
def scan : Scan :=
  { kind := .repeated, cause := .plan, sequence := 1, startTime := 19000, interval := some 19000, frame := some 7,
    profile := 0, width := 2, lines := 4, lineTime := 10000, fill := { red := 0, green := 0, blue := 0 }
    source := .slot 0, scanSource := some 0, nextLine := 0, patchFrom := none, patched := 0, patchReported := false
    overtaken := none, lag := none, estimate := none, multiplier := 1, marker := none, nextOut := 0, choices := []
    timingBase := 19030000, timingFrom := 0
    reports := { clock := 19000000, before := Crp.initial, after := Crp.initial, changed := false } }

/-- A COMPLETE slot of the scan's format. -/
def complete : SlotRecord :=
  { state := .complete, frame := some 7, linesWritten := 4, width := 2, lines := 4 }

/-- RUNNING with a scan in flight. -/
def inScan (sc : Scan) : State :=
  { opened with
    capu := { Capu.initial with slots := #v[complete, SlotRecord.emptied, SlotRecord.emptied], latest := some 0 }
    seng := { Seng.initial with output := .scanning, sequence := 2, scan := some sc }
    ssch := { opened.ssch with state := .scan, min := .running 30000 } }

/-- The frame check of a frame 7 of two lines of two pixels, line 0 open. -/
def frame7 : FrameCheck :=
  { frame := 7, profile := 0, width := 2, lines := 2, lineTime := 10000, linesSeen := 0, lineOpen := true,
    lineStart := 299000 }

/-- Frame 7 arriving, its capture in slot 0. -/
def arriving (f : FrameCheck) : State :=
  { ready with
    lrx := { link := .locked, frameCounter := 7, check := .arriving f }
    capu := { Capu.initial with
      slots := #v[{ state := .filling, frame := some 7, linesWritten := 0, width := 2, lines := 2 },
        SlotRecord.emptied, SlotRecord.emptied], fill := some 0 } }

def black : GamePixel := { red := 0, green := 0, blue := 0 }

def clear : OverlayPixel := { red := 0, green := 0, blue := 0, alpha := 0 }

/-- A status packet with tag 07h. -/
def statusPacket : List Byte := [0xC1, 0x07, 0x03, 0x00] ++ List.replicate 27 0 ++ [0x35]

/-! ### Witnesses: states and operands that meet the hypotheses of the statements -/

theorem witness_takesCommand : ready.takesCommand ∧ opened.takesCommand ∧ hold.takesCommand
    ∧ (inScan scan).takesCommand := by decide

theorem witness_StepTakesFront : State.reset.pending = [] := by decide

/-- Also for PacketIsItsRow. -/
theorem witness_PacketRoundTrip :
    Command.status.wellFormed = true ∧ (Command.writeTonePoints 2 53 (List.replicate 12 0xFFFF)).wellFormed = true := by
  decide

theorem witness_PacketDecided :
    ready.takesSlots ∧ (List.replicate 32 (0 : Byte)).head? ≠ some 0xC1
      ∧ byteSum ((0xC1 : Byte) :: List.replicate 31 0) ≠ 0
      ∧ isControlPacket ([0xC1, 0x07, 0x05, 0x00] ++ List.replicate 27 0 ++ [0x33]) 0x07 0x05 0x00
      ∧ full.takesSlots ∧ 16 ≤ full.placesInUse ∧ ready.placesInUse < 16 ∧ acceptedLengths 5 = none
      ∧ isControlPacket ([0xC1, 0x07, 0x01, 0x01] ++ List.replicate 27 0 ++ [0x36]) 0x07 0x01 0x01
      ∧ acceptedLengths 1 = some [0] ∧ 1 ∉ [0] := by decide

theorem witness_CommandsNotTaken :
    ¬ full.takesCommand ∧ ¬ State.reset.takesCommand
      ∧ ¬ State.takesCommand { ready with ocap := { ready.ocap with phase := .closed } }
      ∧ ¬ State.takesCommand { ready with ocap := { ready.ocap with link := .down } }
      ∧ ¬ State.takesCommand { ready with pins := { ready.pins with reset := true } } := by decide

theorem witness_ReadsAnswer : ready.takesCommand ∧ (3 : Byte).toNat ≤ 3 ∧ ¬ (4 : Byte).toNat ≤ 3
    ∧ (53 : Byte).toNat + (12 : Byte).toNat ≤ 65 ∧ ¬ (54 : Byte).toNat + (12 : Byte).toNat ≤ 65 := by decide

/-- A statistics set of five results: two packets, the second with one result. -/
def heldFive : HeldSet :=
  { sequence := 9, first := 6, last := 10, overrun := true, position := 0
    results := [6, 7, 8, 9, 10].map fun z => { zone := z, maximum := 1023, mean := 391, bright := 65535 } }

theorem witness_PayloadLayouts_sent :
    reply.payload.length ≤ 27 ∧ (1 ≤ 2 ∧ 2 ≤ 12 ∧ heldFive.results.length ≤ 48)
      ∧ (heldFive.first < 48 ∧ heldFive.last < 48)
      ∧ heldFive.results[4 * (2 - 1) + 0]? = some { zone := 10, maximum := 1023, mean := 391, bright := 65535 }
      ∧ (∀ x ∈ Evu.initial.sources.toList, x.level ≤ 7)
      ∧ (profile.width < 65536 ∧ profile.lines < 65536 ∧ profile.lineTime < 65536 ∧ profile.minBlank < 65536
        ∧ profile.pmin < 65536 ∧ profile.pmax < 65536 ∧ profile.weight < 256 ∧ profile.stallLimit < 16777216
        ∧ profile.maxMultiplier < 256 ∧ profile.lagThreshold < 65536 ∧ profile.freeRun < 65536
        ∧ profile.pminEff < 65536 ∧ profile.pmaxEff < 65536)
      ∧ (region2.level < 256 ∧ region2.sourceX < 65536 ∧ region2.sourceY < 65536 ∧ region2.width < 65536
        ∧ region2.height < 65536 ∧ region2.destX < 65536 ∧ region2.destY < 65536 ∧ region2.zoom < 256
        ∧ region2.globalAlpha < 256) := by decide

/-- R165 by hand: packet 2 of 2 of a set of five, overrun, one result: 22h and 03h, then the result of zone 10 with
1023 + 1024 × 391 = 061FFFh and 65535 bright pixels. -/
theorem test_statistics_packet :
    (heldFive.packet 2).take 14 =
      [0xA3, 0x09, 0x00, 0x06, 0x0A, 0x22, 0x03, 0x0A, 0xFF, 0x1F, 0x06, 0xFF, 0xFF, 0x00] := by decide

theorem witness_PayloadLayouts :
    opened.crp.estimate = none ∧ { opened.crp with estimate := some 16777215 }.estimate = some 16777215
      ∧ opened.crp.plan.multiplier < 256 ∧ opened.crp.plan.spacing < 65536
      ∧ 1 ≤ record47.multiplier ∧ record47.multiplier ≤ 8 ∧ record47.patched < 4096
      ∧ record47.lag.getD 0 < 16777216 ∧ record47.overtaken.getD 0 < 256 ∧ record47.estimate.getD 0 < 16777216
      ∧ record47.body[3]? = some 0x2F := by decide

theorem witness_SelectProfile :
    ready.takesCommand
      ∧ isControlPacket ([0xC1, 0x07, 0x35, 0x02] ++ List.replicate 27 0 ++ [0x01]) 0x07 0x35 0x02
      ∧ (0x02 : Byte) ≠ 1 ∧ (3 : Byte).toNat ≤ 3 ∧ ¬ (4 : Byte).toNat ≤ 3 := by decide

theorem witness_ShadowWrites :
    ready.takesCommand ∧ 64 + [(0xFFFF : Half)].length ≤ 65 ∧ 0 < [(0xFFFF : Half)].length
      ∧ (63 < 64 ∨ 64 + [(0xFFFF : Half)].length ≤ 63) := by decide

/-- A commit pending in OPEN. -/
def pendingCommit : State := { opened with tbc := { opened.tbc with commitPending := some 9 } }

theorem witness_CommitDecided :
    pendingCommit.takesCommand ∧ pendingCommit.tbc.commitPending.isSome = true
      ∧ ready.tbc.commitPending = none ∧ ready.pru.table[ready.tbc.shadow.profile].state = .valid
      ∧ ready.dctl = .standby ∧ opened.dctl = .running ∧ opened.tbc.commitPending = none
      ∧ opened.pru.table[opened.tbc.shadow.profile].state = .valid
      ∧ ProfileEntry.blank.state ≠ .valid := by decide

theorem witness_ShadowFrozen :
    pendingCommit.tbc.commitPending = some 9
      ∧ ∃ t, step { pendingCommit with pending := [.deadlineExpiry 30000000] } = .next t :=
  ⟨rfl, _, rfl⟩

theorem witness_WriteProfile :
    ready.takesCommand
      ∧ profileInRange { request 640 360 10000 14 16667 16667 with index := 3 } = true
      ∧ profileInRange { request 640 360 10000 14 16667 16667 with index := 4 } = false := by decide

theorem witness_ProfilesKept :
    ProfileInv ready ∧ FuseInv ready ∧ ∃ t, step { ready with pending := [.fuseLock 0 1 true] } = .next t :=
  ⟨by decide, by decide, _, rfl⟩

/-- LOADING of a part whose bank is locked with chapter 3's words. -/
def loadingLocked : State :=
  { State.reset with lfb := { words := lockedWords, locked := true, engine := .idle } }

theorem witness_InForceFixed :
    SchedulerInv opened ∧ FuseInv opened ∧ opened.dctl = .running
      ∧ (∃ t, step { opened with pending := [.status 0 1] } = .next t ∧ t.dctl = .running)
      ∧ ∃ t, step { loadingLocked with pending := [.loadingEnd 200000] } = .next t
          ∧ t.pru.limits ≠ loadingLocked.pru.limits :=
  ⟨by decide, by decide, rfl, ⟨_, rfl, by decide⟩, _, rfl, by decide⟩

theorem witness_EventCommands :
    ready.takesCommand ∧ (13 : Byte).toNat < 14 ∧ ¬ (14 : Byte).toNat < 14
      ∧ EventSource.stall ≠ EventSource.lagHigh := by decide

/-- FUSE_DONE pending. -/
def fuseDonePending : State := { ready with evu := Evu.initial.raise .fuseDone, pending := [.lossArrival 5] }

theorem witness_PendingStays :
    fuseDonePending.pending = .lossArrival 5 :: [] ∧ (∃ t, step fuseDonePending = .next t)
      ∧ fuseDonePending.evu.sources[(11 : Fin 14)].pending = true := ⟨rfl, ⟨_, rfl⟩, by decide⟩


/-- Thirty-two records held, up to the next number 5. -/
def fullRing : Frl :=
  { ring := (List.range 32).map fun k => { record47 with sequence := BitVec.ofNat 16 (65509 + k) }
    next := 5, cursor := some 65509 }

theorem fullRing_consecutive : ∀ k, (h : k < fullRing.ring.length) →
    fullRing.ring[k].sequence + BitVec.ofNat 16 (fullRing.ring.length - k) = fullRing.next := by decide

/-- A scan of number 5 in flight with a full ring behind it. -/
def ringState : State :=
  { inScan { scan with sequence := 5 } with
    frl := fullRing
    seng := { (inScan scan).seng with scan := some { scan with sequence := 5 }, sequence := 6 } }

theorem witness_RecordsKept :
    SchedulerInv ringState ∧ RecordInv ringState ∧ ∃ t, step { ringState with pending := [.stop 0 1] } = .next t :=
  ⟨by decide, ⟨by decide, fullRing_consecutive, fun c h => by cases h; decide, rfl, rfl⟩, _, rfl⟩

/-- A full ring, with the cursor on its oldest record and past it; and a ring with room. -/
theorem witness_RecordsKept_add :
    (∃ oldest rest, fullRing.ring = oldest :: rest ∧ fullRing.cursor = some oldest.sequence
        ∧ { fullRing with cursor := some 5 }.cursor ≠ some oldest.sequence)
      ∧ 32 ≤ fullRing.ring.length ∧ Frl.initial.ring.length < 32 := ⟨⟨_, _, rfl, rfl, by decide⟩, by decide, by decide⟩

/-- MEASURING zones 46 to 47 of 48. -/
def measuring : State :=
  { ready with zsu := { Zsu.initial with state := .measuring, config := { StatsConfig.initial with first := 46 } } }

theorem witness_ZoneGrid :
    8 ≤ 8 ∧ 6 ≤ 6 ∧ 7 < 8 ∧ 5 < 6 ∧ measuring.zsu.state = .measuring ∧ ready.zsu.state ≠ .measuring
      ∧ zoneAt 640 360 639 359 = 47 := by decide

theorem witness_StatsSetPosted :
    measuring.zsu.state = .measuring ∧ measuring.zsu.config.first ≤ measuring.zsu.config.last
      ∧ measuring.zsu.config.last ≤ 47 ∧ 1 < measuring.zsu.results.length ∧ measuring.zsu.config.first + 1 < 48 := by
  decide

/-- The overlay phase ARRIVING with a line open or not, and COUNTED. -/
def overlayIn (phase : OverlayPhase) (lineOpen : Bool) : State :=
  { ready with ocap := { ready.ocap with phase := phase, lineOpen := lineOpen, back := .filling } }

/-- Also for OverlayFrame's first part. -/
theorem witness_OverlayLineStart :
    (overlayIn .closed false).hearsOverlay ∧ ready.hearsOverlay ∧ ready.ocap.phase = .blanking
      ∧ (overlayIn .arriving false).hearsOverlay ∧ (overlayIn .arriving true).hearsOverlay
      ∧ (overlayIn .counted false).hearsOverlay := by decide

/-- A held set of two zones. -/
def heldSet : HeldSet :=
  { sequence := 9, first := 46, last := 47, results := [ZoneAcc.zero.result 46, ZoneAcc.zero.result 47],
    position := 1, overrun := false }

theorem witness_WindowFill :
    full.rct.queue.length ≤ 16 ∧ 1 ≤ heldSet.position ∧ full.zsu.held = none
      ∧ { full.zsu with held := some heldSet }.held = some heldSet := by decide

/-- The cursor on record 47, the only one held. -/
def waitingState : State :=
  { ready with
    frl := { ring := [record47], next := 48, cursor := some 47 }, seng := { Seng.initial with sequence := 48 } }

theorem witness_WindowFill_waiting :
    ready.frl.cursor = none ∧ waitingState.frl.cursor = some 47 ∧ RecordInv waitingState
      ∧ waitingState.frl.waiting.length = 1 :=
  ⟨rfl, rfl, ⟨by decide, by decide, fun c h => by cases h; decide, rfl⟩, rfl⟩

/-- ARRIVING with the 540th line open and a full write buffer. -/
def overlayFull : State :=
  { overlayIn .arriving true with
    ocap := { (overlayIn .arriving true).ocap with
      linesSeen := 539, buffer := List.replicate 2 { plane := .b, line := 537, pixels := [], current := true } } }

theorem witness_OverlayFrame_full :
    overlayFull.hearsOverlay ∧ overlayFull.ocap.phase = .arriving ∧ overlayFull.ocap.lineOpen = true
      ∧ 2 ≤ overlayFull.ocap.buffer.length := by decide

theorem witness_OverlayFrame :
    State.awake { ready with ocap := Ocap.initial } ∧ Ocap.initial.link = .down
      ∧ State.reset.pins.reset = false ∧ State.reset.dctl.isLoading = true
      ∧ { ready.pins with reset := true }.reset = true := by decide

theorem witness_OverlayLinks :
    ready.awake ∧ ready.ocap.link = .locked
      ∧ State.awake { ready with ocap := Ocap.initial } ∧ Ocap.initial.link = .down
      ∧ { full.rct with sending := true }.sending = true ∧ (overlayIn .arriving true).ocap.linesSeen < 540
      ∧ (overlayIn .arriving true).ocap.phase = .arriving ∧ ready.rct.sending = false := by decide

/-- A program of W1, and a lock, each due at 1800000. -/
def programming : State := { ready with lfb := { ready.lfb with engine := .programming 5 1 20833 1800000 } }
def locking : State := { ready with lfb := { ready.lfb with engine := .locking 6 1800000 } }

theorem witness_FuseCommands :
    ready.takesCommand ∧ opened.takesCommand ∧ (6 : Byte).toNat ≤ 6 ∧ ¬ (7 : Byte).toNat ≤ 6
      ∧ ready.lfb.engine = .idle ∧ programming.takesCommand ∧ programming.pins.reset = false
      ∧ programming.pins.fprog = true := by decide

/-- Also for ResetLine's fuse clauses. -/
theorem witness_FuseEnds :
    ready.pru.table[(0 : Fin 4)].state = .valid ∧ ProfileEntry.blank.state ≠ .valid ∧
    programming.pins.reset = false ∧ programming.lfb.engine = .programming 5 1 20833 1800000
      ∧ 1800000 ≤ programming.clock + 1500000 ∧ ¬ 1800000 ≤ programming.clock + 1499999
      ∧ locking.pins.reset = false ∧ locking.lfb.engine = .locking 6 1800000 ∧ ready.lfb.engine = .idle := by decide

theorem witness_FuseBitsStay :
    (∃ t, step { locking with pending := [.fuseLockEnd 1500000] } = .next t)
      ∧ SchedulerInv locking ∧ FuseInv locking
      ∧ FuseInv { loadingLocked with dctl := .standby } ∧ loadingLocked.lfb.locked = true :=
  ⟨⟨_, rfl⟩, by decide, by decide, by decide, rfl⟩

/-- A capture write of line 0 of slot 0 in progress. -/
def writing : State :=
  { arriving { frame7 with lineOpen := false, linesSeen := 1 } with
    capu := { (arriving frame7).capu with buffer := [{ slot := 0, frame := 7, line := 0, pixels := [black, black] }] }
    marb := { Marb.initial with transfer := some (.captureWrite 0 0) } }

/-- A plane line, and a write of it in progress: also for OverlayDiscard. -/
def planeEntry : OverlayEntry := { plane := .b, line := 539, pixels := List.replicate 960 clear, current := true }
def overlayWriting : State :=
  { overlayIn .arriving false with
    ocap := { (overlayIn .arriving false).ocap with buffer := [planeEntry] }
    marb := { Marb.initial with transfer := some (.overlayWrite planeEntry true) } }

theorem witness_ResetLine :
    writing.marb.transfer = some (.captureWrite 0 0)
      ∧ writing.capu.buffer = { slot := 0, frame := 7, line := 0, pixels := [black, black] } :: []
      ∧ (7 < slotLineAddress 0 0 ∨ slotLineAddress 0 0 + 4 * [black, black].length ≤ 8)
      ∧ ready.marb.transfer.map Transfer.requester ≠ some .captureWrite
      ∧ { ready.pins with reset := true }.reset = true ∧ ready.pins.reset = false := by decide

theorem witness_ResetLine_overlay :
    overlayWriting.marb.transfer = some (.overlayWrite planeEntry true)
      ∧ 0 < planeLineAddress planeEntry.plane planeEntry.line := ⟨rfl, by decide⟩

theorem witness_OverlayDiscard : (overlayWriting.ocap.buffer.head?.map (·.current)) = some true := rfl

/-- LOADING with both links LOCKED, both lock conditions lost since, and a SOFT_RESET reply owed. -/
def loadingLost : State :=
  { loadingLocked with
    dctl := .loading 200000 (some 5), lrx := { Lrx.initial with link := .locked, check := .arriving frame7 }
    ocap := { Ocap.initial with link := .locked }
    pins := { loadingLocked.pins with liveLock := false, overlayLock := false } }

/-- LOADING with both links DOWN, and both lock conditions met since. -/
def loadingFound : State :=
  { loadingLocked with
    lrx := Lrx.initial, ocap := Ocap.initial
    pins := { loadingLocked.pins with liveLock := true, overlayLock := true } }

theorem witness_LoadingEnd_links :
    SchedulerInv loadingLocked ∧ SchedulerInv loadingLost ∧ SchedulerInv loadingFound
      ∧ loadingLost.pins.reset = false ∧ loadingLost.dctl = .loading 200000 (some 5)
      ∧ 200000 ≤ loadingLost.clock + 200000
      ∧ loadingLost.lrx.link = .locked ∧ loadingLost.pins.liveLock = false
      ∧ loadingLost.ocap.link = .locked ∧ loadingLost.pins.overlayLock = false
      ∧ loadingFound.pins.reset = false ∧ loadingFound.dctl = .loading 200000 none
      ∧ loadingFound.lrx.link = .down ∧ loadingFound.pins.liveLock = true
      ∧ loadingFound.ocap.link = .down ∧ loadingFound.pins.overlayLock = true := by decide

theorem witness_LoadingEnd :
    loadingLocked.pins.reset = false ∧ loadingLocked.dctl = .loading 200000 none
      ∧ loadingLocked.clock + 199999 < 200000 ∧ 200000 ≤ loadingLocked.clock + 200000
      ∧ (loadingLocked.lrx.link = .locked ↔ loadingLocked.pins.liveLock = true)
      ∧ (loadingLocked.ocap.link = .locked ↔ loadingLocked.pins.overlayLock = true)
      ∧ { loadingLocked.pins with liveLock := true }.liveLock = true := by decide

theorem witness_SoftReset :
    ready.takesCommand ∧ ready.dctl = .standby ∧ ready.lfb.engine = .idle
      ∧ ready.marb.transfer.map Transfer.requester ≠ some .captureWrite
      ∧ ready.marb.transfer.map Transfer.requester ≠ some .overlayWrite
      ∧ opened.takesCommand ∧ opened.dctl ≠ .standby
      ∧ locking.takesCommand ∧ locking.dctl = .standby ∧ locking.lfb.engine ≠ .idle := by decide

/-- STANDBY with a write in progress: of a game line, and of a plane line. -/
theorem witness_SoftReset_writing :
    (writing.takesCommand ∧ writing.dctl = .standby ∧ writing.lfb.engine = .idle
        ∧ writing.marb.transfer = some (.captureWrite 0 0))
      ∧ let s : State := { ready with marb := overlayWriting.marb }
        s.takesCommand ∧ s.dctl = .standby ∧ s.lfb.engine = .idle
          ∧ s.marb.transfer = some (.overlayWrite planeEntry true) :=
  ⟨by decide, by decide, rfl, rfl, rfl⟩

theorem witness_LiveLinks :
    (arriving frame7).awake ∧ (arriving frame7).lrx.link = .locked
      ∧ ((arriving frame7).ssch.state = .hold → (arriving frame7).ssch.min.isExpired = false)
      ∧ hold.awake ∧ (hold.ssch.state = .hold → hold.ssch.min.isExpired = false)
      ∧ State.awake { opened with lrx := Lrx.initial } ∧ Lrx.initial.link = .down := by decide

/-- A chase of frame 7 in slot 0, two lines, line 0 to come. -/
def chaseScan : Scan := { scan with kind := .deferred, cause := .chase, lines := 2 }

/-- The chase in flight while frame 7 arrives; slot 1 holds an older frame of its format, the latest. -/
def chasing : State :=
  { inScan chaseScan with
    lrx := (arriving frame7).lrx
    capu := { (arriving frame7).capu with
      slots := (arriving frame7).capu.slots.set 1 { complete with frame := some 6, lines := 2, linesWritten := 2 }
      latest := some 1 } }

/-- A LIVE scan coupled to frame 7, with line 0 to come. -/
def liveScan : Scan := { scan with kind := .live, source := .liveStream, scanSource := none, lines := 2 }

theorem witness_MalformedFrame :
    (arriving frame7).capu.fill = some 0 ∧ (arriving frame7).capu.slots[(0 : SlotId)].frame = some 7
      ∧ (inScan liveScan).seng.scan = some liveScan ∧ liveScan.frame = some 7 ∧ liveScan.nextLine < liveScan.lines
      ∧ liveScan.patchFrom = none ∧ 1 < liveScan.lines ∧ ready.seng.scan = none ∧ scan.kind ≠ .live
      ∧ chasing.seng.scan = some chaseScan ∧ chaseScan.kind = .deferred ∧ chaseScan.scanSource = some 0
      ∧ chasing.capu.fill = some 0 ∧ chasing.capu.slots[(0 : SlotId)].frame = some 7 ∧ chaseScan.patchFrom = none
      ∧ chaseScan.choices = [] ∧ chasing.capu.latest = some 1 ∧ chaseScan.scanSource ≠ some 1
      ∧ chasing.capu.slots[(1 : SlotId)].width = chaseScan.width
      ∧ chasing.capu.slots[(1 : SlotId)].lines = chaseScan.lines ∧ (arriving frame7).capu.latest = none := by decide

/-- A patched scan with a line's source chosen and the next line's not; and the slot of a frame. -/
theorem witness_MalformedFrame_choices :
    let sc : Scan := { scan with patchFrom := some 0, choices := [(0, some 1)] }
    sc.choices.lookup 0 = some (some 1) ∧ sc.choices.lookup 3 = none ∧ sc.nextOut ≤ 0 ∧ 3 ≤ sc.nextOut + 3
      ∧ 3 < sc.lines ∧ chasing.capu.slotOf 7 = some 0 ∧ chasing.capu.slotOf 6 = some 1
      ∧ chasing.capu.slotOf 5 = none := by decide

/-- A frame COUNTED whose slot is still the fill. -/
def counted : State := { arriving frame7 with lrx := { link := .locked, frameCounter := 7, check := .counted frame7 } }

/-- A scan started at this instant, with CRP as it left it: a FILL scan, or a chase. -/
def justStarted (kind : Kind) : State :=
  inScan { scan with
    kind := kind
    reports := { clock := 20000000, before := Crp.initial, after := Crp.initial, changed := false } }

/-- OPEN with a pending commit to an entry of another width. -/
def reformatting : State :=
  { opened with
    pru := { opened.pru with table := opened.pru.table.set 1 { state := .valid, profile := profile0 } }
    tbc := { opened.tbc with
      commitPending := some 9, shadow := { opened.tbc.shadow with profile := 1 } } }

/-- Each scheduler state, with the profile VALID and not. -/
theorem witness_LfsTaken :
    (counted.hearsLive ∧ counted.ssch.state = .off ∧ counted.capu.fill = some 0
        ∧ counted.pru.table[counted.tbc.active.profile].state = .valid)
      ∧ (opened.hearsLive ∧ opened.ssch.state = .opened ∧ opened.capu.fill = none)
      ∧ (hold.hearsLive ∧ hold.ssch.state = .hold)
      ∧ (chasing.hearsLive ∧ chasing.lrx.check = .arriving frame7)
      ∧ ((inScan scan).hearsLive ∧ (inScan scan).ssch.state = .scan ∧ (inScan scan).seng.scan = some scan
        ∧ scan.reports.clock ≠ (inScan scan).clock + 0)
      ∧ State.hearsLive { hold with pru := { hold.pru with table := Vector.replicate 4 ProfileEntry.blank } }
      ∧ (Vector.replicate 4 ProfileEntry.blank)[(0 : Fin 4)].state ≠ .valid :=
  ⟨by decide, by decide, by decide, by decide, by decide, by decide, by decide⟩

/-- A report at the instant of a start; a commit in OPEN that changes the format; and an interval that stalls. -/
theorem witness_LfsTaken_orders :
    (∀ kind ∈ [Kind.repeated, .fill, .deferred],
        (justStarted kind).hearsLive ∧ (justStarted kind).ssch.state = .scan
        ∧ ∃ sc, (justStarted kind).seng.scan = some sc ∧ sc.kind ≠ .live
          ∧ sc.reports.clock = (justStarted kind).clock + 0 ∧ sc.reports.after = (justStarted kind).crp)
      ∧ (reformatting.tbc.commitPending.isSome = true ∧ reformatting.crp.newest ≠ some 8
        ∧ reformatting.pru.table[reformatting.tbc.active.profile].profile.width
          ≠ reformatting.commitAtStart.activeEntry.profile.width)
      ∧ Crp.stallsAt { Crp.initial with lastLfs := some (20000 - 200001) } (ready.pru.table[(0 : Fin 4)]) 20000
        = true :=
  ⟨by simp [justStarted, inScan]; decide, by decide, by decide⟩

theorem witness_LfsTaken_not_arriving :
    (∀ f, counted.lrx.check ≠ .arriving f) ∧ (∀ f, opened.lrx.check ≠ .arriving f)
      ∧ (∀ f, hold.lrx.check ≠ .arriving f) ∧ ∀ kind f, (justStarted kind).lrx.check ≠ .arriving f :=
  ⟨nofun, nofun, nofun, nofun⟩

theorem witness_LineStart_ignored :
    State.reset.pins.reset = false ∧ State.reset.dctl.isLoading = true ∧ Lrx.initial.link = .down
      ∧ ready.pins.reset = false ∧ { ready.pins with reset := true }.reset = true := by decide

/-- Also for LineEnd's first clauses: each check state. -/
theorem witness_LineStart :
    (arriving frame7).hearsLive ∧ counted.hearsLive ∧ ready.hearsLive ∧ ready.lrx.check = .closed
      ∧ 64 * (((10156 : Nat) : Int) - (10000 : Nat)).natAbs ≤ 10000
      ∧ ¬ 64 * (((10157 : Nat) : Int) - (10000 : Nat)).natAbs ≤ 10000
      ∧ frame7.lineStart + frame7.lineTime + frame7.lineTime / 64 ≤ (arriving frame7).clock + 9156 := by decide

/-- The write buffer full as the last line of frame 7 ends. -/
def lastLine : FrameCheck := { frame7 with linesSeen := 1 }
def bufferFull : State :=
  { arriving lastLine with
    capu := { (arriving lastLine).capu with
      buffer := List.replicate 4 { slot := 0, frame := 7, line := 0, pixels := [black, black] } } }

theorem witness_LineEnd :
    (arriving frame7).lrx.check = .arriving frame7 ∧ frame7.lineOpen = true
      ∧ [black, black].length = frame7.width ∧ [black].length ≠ frame7.width
      ∧ (arriving frame7).capu.fill = some 0 ∧ (arriving frame7).capu.slots[(0 : SlotId)].frame = some frame7.frame
      ∧ (arriving frame7).capu.buffer.length < 4 ∧ bufferFull.hearsLive ∧ 4 ≤ bufferFull.capu.buffer.length
      ∧ lastLine.linesSeen + 1 = lastLine.lines ∧ frame7.linesSeen + 1 ≠ frame7.lines
      ∧ liveScan.kind = .live ∧ liveScan.frame = some frame7.frame ∧ liveScan.patchFrom = none
      ∧ liveScan.nextLine = frame7.linesSeen ∧ frame7.linesSeen < liveScan.lines
      ∧ chaseScan.kind = .deferred ∧ chaseScan.scanSource = some 0 ∧ chaseScan.patchFrom = none
      ∧ chasing.awake ∧ chasing.lrx.link = .locked ∧ chasing.lrx.check = .arriving frame7
      ∧ scan.kind ≠ .live ∧ scan.kind ≠ .deferred ∧ (arriving frame7).seng.scan = none
      ∧ ready.capu.fill = none := by decide

theorem witness_SlotsKept :
    SchedulerInv (inScan scan) ∧ SlotInv (inScan scan)
      ∧ ∃ t, step { inScan scan with pending := [.outputTime 20000] } = .next t := ⟨by decide, by decide, _, rfl⟩

theorem witness_BuffersKept :
    PlacesInv full ∧ BufferInv full ∧ ∃ t, step { full with pending := [.overlayLineStart 5] } = .next t :=
  ⟨by decide, by decide, _, rfl⟩

theorem witness_Maintenance :
    ready.pins.reset = false ∧ ready.marb.maintenance ≠ .active
      ∧ { ready.marb with maintenance := .active }.maintenance = .active := by decide

theorem witness_GrantOrder :
    writing.capu.buffer ≠ [] ∧ ready.marb.captureWrite = none ∧ ready.marb.scanRead = none
      ∧ ready.marb.overlayRead = none ∧ ready.marb.overlayWrite = none
      ∧ { ready.marb with captureWrite := some (2, 2159) }.captureWrite = some (2, 2159)
      ∧ (∀ e ∈ writing.capu.buffer, ¬ (e.slot = 1 ∧ e.line = 0))
      ∧ ∃ e ∈ writing.capu.buffer, e.slot = 0 ∧ e.line = 0 := by decide

/-- A repeat and its overlay, both with a line to read: region 0 shows plane line 100 on line 0. -/
def bothAsk : State :=
  { inScan scan with
    ocap := { ready.ocap with frontImage := true }, ocmp := { target := some 0, cache := [] }
    tbc := { ready.tbc with active := { ready.tbc.active with
      regions := ready.tbc.active.regions.set 0 { budgetRegion 1 100 with destY := 0 } } } }

/-- The same with the plane line in the cache. -/
def cached : State := { bothAsk with ocmp := { bothAsk.ocmp with cache := [(100, [])] } }

theorem witness_BuffersKept_cache :
    SchedulerInv cached ∧ CacheInv cached
      ∧ ∃ t, step { cached with pending := [.outputTime 0] } = .next t :=
  ⟨by decide, ⟨by decide, by decide, nofun, trivial, by decide⟩, _, rfl⟩

theorem witness_PortServed :
    writing.marb.transfer.isSome = true ∧ State.reset.dctl.isLoading = true
      ∧ bothAsk.marb.transfer = none ∧ bothAsk.marb.maintenance = .none ∧ bothAsk.dctl.isLoading = false
      ∧ bothAsk.scanDesire = some (0, 0) ∧ bothAsk.overlayReadDesire = some (.a, 100)
      ∧ bothAsk.seng.scan = some scan ∧ bothAsk.ocmp.target = some 0 ∧ bothAsk.marb.scanRead = none
      ∧ bothAsk.marb.overlayRead = none ∧ bothAsk.seng.readAhead.length < 4
      ∧ ready.scanDesire = none ∧ ready.seng.scan = none ∧ scan.patchFrom = none ∧ scan.source = .slot 0
      ∧ liveScan.source = .liveStream ∧ { writing.marb with maintenance := .due }.maintenance = .due
      ∧ complete.state = .complete ∧ SlotRecord.emptied.state = .free
      ∧ (arriving frame7).capu.slots[(0 : SlotId)].state = .filling := by decide

/-- Reads of the scan in flight and of the overlay in progress. -/
def reading (x : Transfer) : State :=
  { inScan scan with
    marb := { Marb.initial with transfer := some x }, ocmp := { target := some 0, cache := [] } }

theorem witness_TransferEnd :
    writing.pins.reset = false ∧ ready.marb.transfer = none ∧ 0 < 2160 ∧ [black, black].length ≤ 3840
      ∧ (reading (.scanRead 0 3 true)).marb.transfer = some (.scanRead 0 3 true)
      ∧ (reading (.scanRead 0 3 true)).seng.scan = some scan ∧ 3 < 2160 ∧ scan.width ≤ 3840
      ∧ (reading (.scanRead 0 3 false)).marb.transfer = some (.scanRead 0 3 false)
      ∧ (reading (.overlayRead .a 539 true)).ocmp.target = some 0 ∧ 539 < 540
      ∧ planeEntry.line < 540 ∧ ¬ planeEntry.line + 1 < 540 := by decide

/-- The last write of a back frame, the ends that deliver nothing, and the lines outside the layout. -/
theorem witness_TransferEnd_edges :
    (writing.capu.buffer = { slot := 0, frame := 7, line := 0, pixels := [black, black] } :: []
        ∧ writing.capu.slots[(0 : SlotId)].state ≠ .free ∧ Capu.initial.buffer = []
        ∧ ready.seng.scan = none ∧ Ocmp.initial.target = none)
      ∧ (overlayWriting.ocap.buffer = planeEntry :: [] ∧ planeEntry.current = true
        ∧ overlayWriting.ocap.back = .filling ∧ { overlayWriting.ocap with backWritten := 539 }.backWritten + 1 = 540)
      ∧ (2160 ≤ 2160 ∧ 540 ≤ { planeEntry with line := 540 }.line) :=
  ⟨by decide, ⟨rfl, rfl, rfl, rfl⟩, by decide⟩

theorem witness_TransferEnd_width : planeEntry.pixels.length ≤ 960 := List.length_replicate.le

theorem witness_LineReadBack :
    Memory.wf [] ∧ 2159 < 2160 ∧ [black, black].length ≤ 3840 ∧ 539 < 540
      ∧ (2 : SlotId).val * 33554432 + 2159 * 15360 + 4 * [black, black].length ≤ 100271112 := by decide

theorem witness_LineReadBack_width : (List.replicate 960 clear).length = 960 := List.length_replicate

theorem witness_NoStop :
    LayoutInv (reading (.scanRead 0 3 true)) ∧ LayoutInv writing :=
  ⟨⟨by decide, trivial, by decide, by decide, by decide, by decide, by decide, by decide, by decide, by decide,
      show 3 < 2160 by decide⟩,
    ⟨by decide, show 2 ≤ 3840 ∧ 2 ≤ 2160 ∧ 1 < 2 by decide, by decide, by decide, by decide, by decide, by decide,
      by decide, by decide, by decide, show 0 < 2160 by decide⟩⟩

/-- The memory lists its first and its last byte, and a capture write ends. -/
theorem witness_MemoryKept :
    MemoryInv { writing with mem := [(0, 5), (134217727, 1)] }
      ∧ ∃ t, step { writing with mem := [(0, 5), (134217727, 1)], pending := [.transferEnd 5] } = .next t :=
  ⟨by decide, _, rfl⟩

theorem witness_LfsEstimate :
    (200000 < ((200001 : Word) - 0).toNat) ∧ ((200000 : Word) - 0).toNat ≤ profile.stallLimit
      ∧ { Crp.initial with lastLfs := some 0 }.lastLfs = some 0
      ∧ { Crp.initial with estimate := some 25000 }.estimate = some 25000
      ∧ profile.weight ≤ 16 ∧ (ready.pru.table[(0 : Fin 4)]).state = .valid ∧ ProfileEntry.blank.state ≠ .valid := by
  decide

theorem witness_PlanMade :
    profile0.maxMultiplier ≤ 8 ∧
    1 ≤ profile0.pmaxEff ∧ profile0.pminEff ≤ profile0.pmaxEff ∧ 1 ≤ profile0.maxMultiplier
      ∧ planMultiplier (some 50000) profile0 < profile0.maxMultiplier
      ∧ 1 < planMultiplier (some 90000) profile0 := by decide

/-- OPEN with a plan of one repeat left, due at 20500. -/
def planned : State :=
  { opened with
    crp := { Crp.initial with
      estimate := some 30000
      plan := { spacing := 15000, multiplier := 2, next := some 20500, remaining := 1, timer := some 20500 } }
    ssch := { opened.ssch with planEmpty := false } }

theorem planned_cadence : CadenceInv planned :=
  ⟨fun e h => by cases h; decide, by decide, by decide, by decide, by decide, by decide⟩

theorem witness_CadenceKept :
    ProfileInv planned ∧ CadenceInv planned
      ∧ ∃ t, step { planned with pending := [.planTimerExpiry 500000] } = .next t :=
  ⟨by decide, planned_cadence, _, rfl⟩

/-- OPEN with a pending commit, a READY back plane and an ARMED ZSU; and with none of the three. -/
theorem witness_ScanStart :
    reformatting.tbc.commitPending.isSome = true ∧ opened.tbc.commitPending = none
      ∧ { reformatting.ocap with back := .ready }.back = .ready ∧ opened.ocap.back ≠ .ready
      ∧ { reformatting.zsu with state := .armed }.state = .armed
      ∧ (EventSource.controlPacketBad ≠ .commitTaken ∧ EventSource.controlPacketBad ≠ .stall
        ∧ EventSource.controlPacketBad ≠ .lagHigh) := by decide

/-- Each way of starting a scan gives one: also for ScanCadence. -/
theorem witness_ScanShown :
    (opened.startScan (.arrival 8)).seng.scan.isSome = true
      ∧ (opened.startScan (.chase { frame := 7, lfsTime := 5 })).seng.scan.isSome = true
      ∧ (opened.startScan (.plan 20000 0)).seng.scan.isSome = true
      ∧ (opened.startScan .deadline).seng.scan.isSome = true ∧ (opened.startScan .freeRun).seng.scan.isSome = true
      ∧ (inScan scan).capu.latest = some 0 ∧ (inScan scan).capu.slotOf 7 = some 0 ∧ opened.capu.latest = none :=
  ⟨rfl, rfl, rfl, rfl, rfl, rfl, rfl, rfl⟩

/-- The plan indication agrees with the plan. -/
theorem witness_ScanCadence_indication :
    opened.ssch.planEmpty = decide (opened.crp.plan.remaining = 0)
      ∧ planned.ssch.planEmpty = decide (planned.crp.plan.remaining = 0) ∧ planned.crp.plan.remaining ≠ 0 := by decide

/-- A commit pending that changes the format, with a point raised; and LAG_HIGH's threshold below and above a lag. -/
theorem witness_ScanCadence :
    let s : State := { reformatting with crp := { reformatting.crp with raised := some 20000 } }
    (s.startScan (.plan 20000 1)).seng.scan.isSome = true ∧ s.tbc.commitPending.isSome = true
      ∧ s.crp.raised = some 20000 ∧ opened.tbc.commitPending = none
      ∧ s.pru.table[s.tbc.active.profile].profile.width ≠ s.pru.table[s.tbc.shadow.profile].profile.width
      ∧ profile.lagThreshold ≠ 0 ∧ profile.lagThreshold < ((20000 : Word) - 5).toNat + 4 * profile.lineTime / 1000
      ∧ ¬ profile.lagThreshold < ((20000 : Word) - 20000).toNat + 4 * profile.lineTime / 1000 := by decide

theorem witness_TimerExpiries :
    hold.pins.reset = false ∧ hold.ssch.min = .running 30000 ∧ hold.ssch.state ≠ .opened
      ∧ 30000 ≤ hold.microsAfter 10000000 ∧ hold.microsAfter 9999999 < 30000
      ∧ (inScan scan).ssch.min = .running 30000 ∧ (inScan scan).ssch.state ≠ .opened
      ∧ opened.ssch.deadline = .running 40000 ∧ 40000 ≤ opened.microsAfter 20000000
      ∧ (opened.ssch.state = .hold → opened.ssch.min.isExpired = false)
      ∧ opened.ssch.freeRun = .running 40000
      ∧ (opened.ssch.state = .opened → opened.lrx.link = .down → opened.ssch.freeRun.isExpired = false)
      ∧ (opened.lrx.link = .locked → opened.ssch.planEmpty = true → opened.ssch.deadline.isExpired = false) := by
  decide

theorem witness_PlanTimer :
    planned.pins.reset = false ∧ planned.crp.plan.next = some 20500 ∧ planned.crp.plan.timer = some 20500
      ∧ 20500 ≤ planned.microsAfter 500000 ∧ ¬ 20500 ≤ planned.microsAfter 499999 := by decide

/-- Stop-requested set during a scan. -/
def stopping : State := { inScan scan with ssch := { (inScan scan).ssch with stopRequested := true } }

/-- STANDBY after a run: the minimum timer running, or EXPIRED. -/
def stopped (t : Timer) : State :=
  { ready with ssch := { Ssch.initial with lastStart := some 0, kept := some profile0.kept, min := t } }

/-- The same with DEADLINE and FREE-RUN EXPIRED too, under a link of either state. -/
def overdue (l : Link) : State :=
  { stopped (.expired 300) with
    lrx := { ready.lrx with link := l }
    ssch := { (stopped (.expired 300)).ssch with deadline := .expired 299, freeRun := .expired 299 } }

/-- OPEN with DEADLINE and FREE-RUN EXPIRED. -/
def openedLate (l : Link) : State :=
  { opened with
    lrx := { opened.lrx with link := l }
    ssch := { opened.ssch with deadline := .expired 19999, freeRun := .expired 19999 } }

theorem witness_StartStop_late :
    ((overdue .locked).takesCommand ∧ SchedulerInv (overdue .locked) ∧ (overdue .locked).dctl = .standby
        ∧ (overdue .locked).lfb.engine.isLocking = false ∧ (overdue .locked).lrx.link = .locked
        ∧ (overdue .locked).ssch.lastStart = some 0 ∧ (overdue .locked).ssch.min.isExpired = true
        ∧ (overdue .locked).ssch.planEmpty = true ∧ (overdue .locked).ssch.deadline.isExpired = true)
      ∧ ((overdue .down).takesCommand ∧ SchedulerInv (overdue .down) ∧ (overdue .down).lrx.link = .down
        ∧ (overdue .down).ssch.freeRun.isExpired = true)
      ∧ ((openedLate .locked).takesCommand ∧ SchedulerInv (openedLate .locked)
        ∧ (openedLate .locked).ssch.state = .opened ∧ (openedLate .locked).lrx.link = .locked
        ∧ (openedLate .locked).crp.plan.remaining = 0 ∧ (openedLate .locked).ssch.planEmpty = true
        ∧ (openedLate .locked).ssch.deadline.isExpired = true)
      ∧ ((openedLate .down).takesCommand ∧ SchedulerInv (openedLate .down)
        ∧ (openedLate .down).ssch.freeRun.isExpired = true)
      ∧ (planned.takesCommand ∧ SchedulerInv planned ∧ planned.crp.plan.remaining ≠ 0) :=
  ⟨by decide, by decide, by decide, by decide, by decide⟩

theorem witness_StartStop_start :
    (ready.takesCommand ∧ SchedulerInv ready ∧ ready.dctl = .standby ∧ ready.lfb.engine.isLocking = false)
      ∧ (ready.pru.table[ready.tbc.active.profile].state = .valid ∧ ready.ssch.lastStart = none)
      ∧ (opened.dctl ≠ .standby ∧ locking.lfb.engine.isLocking = true ∧ SchedulerInv locking)
      ∧ (SchedulerInv (stopped (.running 400)) ∧ (stopped (.running 400)).takesCommand
        ∧ (stopped (.running 400)).ssch.lastStart = some 0 ∧ (stopped (.running 400)).ssch.min.isExpired = false)
      ∧ (SchedulerInv (stopped (.expired 300)) ∧ (stopped (.expired 300)).ssch.min.isExpired = true
        ∧ (stopped (.expired 300)).ssch.deadline.isExpired = false
        ∧ (stopped (.expired 300)).ssch.freeRun.isExpired = false) := by decide

theorem witness_StartStop_stop :
    (ready.ssch.state = .off)
      ∧ ((inScan scan).takesCommand ∧ SchedulerInv (inScan scan) ∧ (inScan scan).ssch.state = .scan
        ∧ (inScan scan).ssch.stopRequested = false ∧ (inScan scan).seng.scan = some scan)
      ∧ (stopping.takesCommand ∧ SchedulerInv stopping ∧ stopping.ssch.state = .scan
        ∧ stopping.ssch.stopRequested = true ∧ stopping.seng.scan = some scan)
      ∧ (hold.takesCommand ∧ SchedulerInv hold ∧ hold.ssch.state = .hold ∧ hold.ssch.min.isExpired = false)
      ∧ (pendingCommit.takesCommand ∧ SchedulerInv pendingCommit ∧ pendingCommit.ssch.state = .opened
        ∧ pendingCommit.ssch.deadline.isExpired = false ∧ pendingCommit.ssch.freeRun.isExpired = false) :=
  ⟨by decide, by decide, by decide, by decide, by decide⟩

/-- A second STOP with the scan's last line left and its end due, and with lines still to leave. -/
theorem witness_StartStop_ended :
    let s : State := { inScan { scan with nextOut := 4 } with ssch := stopping.ssch }
    let sc : Scan := { scan with nextOut := 4 }
    s.takesCommand ∧ SchedulerInv s ∧ s.ssch.state = .scan ∧ s.ssch.stopRequested = true ∧ s.seng.scan = some sc
      ∧ sc.lines ≤ sc.nextOut ∧ s.outputDue sc = some 19080000 ∧ 19080000 ≤ s.clock + 0
      ∧ ¬ scan.lines ≤ scan.nextOut := by decide

/-- A live line produced and due at 20000000; a read-ahead line; a scan after its last line. -/
def produced : ProducedLine := { line := 0, due := 20000000, pixels := [black, black] }
def readLine : ReadEntry := { slot := 0, line := 0, pixels := [black, black] }
def scanDone : Scan := { scan with nextOut := 4, nextLine := 4 }

/-- A scan in own timing from its start, as R93 counts. -/
theorem witness_OutputTime_timing :
    (inScan scan).seng.pipeline = [] ∧ scan.timingFrom = 0 ∧ scan.timingBase = 19000000 + 3 * scan.lineTime
      ∧ ¬ (scan.kind = .live ∧ scan.patchFrom = none ∧ scan.nextOut < scan.lines)
      ∧ { inScan scan with clock := 19000000 }.clock + 39999 < 19040000 := by decide

theorem witness_OutputTime :
    (opened.pins.reset = false ∧ opened.seng.scan = none)
      ∧ ((inScan scan).outputDue scan = some 19040000 ∧ 19040000 ≤ (inScan scan).clock + 0
        ∧ (inScan scan).seng.pipeline = [] ∧ scan.nextOut < scan.lines ∧ scan.kind = .repeated
        ∧ scan.patchFrom = none ∧ scan.source = .slot 0 ∧ scan.scanSource = some 0
        ∧ (inScan scan).seng.readAhead.find? (fun x => x.slot == 0 && x.line == 0) = none
        ∧ [readLine].find? (fun x => x.slot == 0 && x.line == 0) = some readLine)
      ∧ ((inScan liveScan).outputDue liveScan = none ∧ produced.due ≤ (inScan liveScan).clock
        ∧ liveScan.nextOut < liveScan.lines)
      ∧ (∃ due, (inScan scanDone).outputDue scanDone = some due ∧ due ≤ (inScan scanDone).clock)
      ∧ (scanDone.lines ≤ scanDone.nextOut ∧ (inScan scanDone).ssch.min.isExpired = false
        ∧ stopping.ssch.stopRequested = true) :=
  ⟨by decide, by decide, by decide, ⟨19080000, by decide⟩, by decide⟩

/-- The same, the minimum timer EXPIRED at the scan end, with a frame pending or none. -/
def overrun (pending : Option PendingFrame) : State :=
  { inScan scanDone with
    ssch := { (inScan scanDone).ssch with min := .expired 19999, pending := pending, deadline := .expired 19999 } }

theorem witness_OutputTime_overrun :
    (∀ p ∈ [none, some { frame := 7, lfsTime := 19500 }],
        (overrun p).pins.reset = false ∧ (overrun p).seng.scan = some scanDone
          ∧ (overrun p).outputDue scanDone = some 19080000 ∧ 19080000 ≤ (overrun p).clock
          ∧ scanDone.lines ≤ scanDone.nextOut ∧ (overrun p).ssch.stopRequested = false
          ∧ (overrun p).ssch.min.isExpired = true ∧ (overrun p).ssch.deadline.isExpired = true
          ∧ (overrun p).lrx.link = .locked ∧ (overrun p).ssch.planEmpty = true)
      ∧ scan.nextOut + 1 < scan.lines ∧ ¬ { scan with nextOut := 3 }.nextOut + 1 < scan.lines := by decide

/-- A FILL scan, and a repeat patched from line 0 with slot 1 chosen for it. -/
def fillScan : Scan := { scan with kind := .fill, source := .fillColour, scanSource := none, frame := none }
def patchedScan : Scan := { scan with patchFrom := some 0, choices := [(0, some 1)] }

/-- A FILL scan's line; a patched line with a patch source and without; a chase of a line received in a FILLING slot,
and one that overtakes it with an idle port and a latest slot that fits. -/
theorem witness_OutputTime_sources :
    ((inScan fillScan).outputDue fillScan = some 19040000 ∧ fillScan.kind = .fill
        ∧ fillScan.source = .fillColour ∧ fillScan.patchFrom = none)
      ∧ ((inScan patchedScan).outputDue patchedScan = some 19040000 ∧ patchedScan.choice 0 = some 1
        ∧ scan.choice 0 = none ∧ 0 ≤ patchedScan.nextOut)
      ∧ (chasing.pins.reset = false ∧ chasing.seng.scan = some chaseScan ∧ chasing.seng.pipeline = []
        ∧ chasing.outputDue chaseScan = some 19040000 ∧ 19040000 ≤ chasing.clock + 0
        ∧ chaseScan.nextOut < chaseScan.lines ∧ chaseScan.nextLine = chaseScan.nextOut ∧ chaseScan.choices = []
        ∧ chaseScan.source = .slot 0 ∧ chaseScan.scanSource = some 0
        ∧ chasing.capu.slots[(0 : SlotId)].state = .filling ∧ chasing.capu.received 0 ≤ chaseScan.nextOut
        ∧ chasing.capu.delivered 0 ≤ chaseScan.nextOut
        ∧ chasing.capu.latest = some 1 ∧ chasing.marb.transfer = none ∧ chasing.marb.maintenance = .none
        ∧ chasing.dctl.isLoading = false ∧ chasing.marb.captureWrite = none ∧ chasing.marb.scanRead = none
        ∧ chasing.capu.buffer = [] ∧ chasing.overlayReadDesire = none)
      ∧ chaseScan.nextOut < writing.capu.received 0 ∧ chaseScan.nextOut < writing.capu.delivered 0 :=
  ⟨by decide, by decide, by decide, by decide⟩

/-- HOLD with a frame pending, and the minimum timer's expiry arriving. -/
def holdChase : State :=
  { hold with
    ssch := { hold.ssch with pending := some { frame := 7, lfsTime := 19500 } }, pending := [.minExpiry 10000000] }

theorem witness_StartsWaitForMin :
    SchedulerInv holdChase ∧ MinInv holdChase
      ∧ ∃ t, step holdChase = .next t ∧ t.seng.scan.isSome = true
          ∧ t.seng.sequence = holdChase.seng.sequence + 1 :=
  ⟨by decide, ⟨nofun, nofun, nofun⟩, _, rfl, by decide, by decide⟩

theorem witness_SchedulerKept :
    SchedulerInv (inScan scan) ∧ FuseInv (inScan scan) ∧ MinInv (inScan scan)
      ∧ ∃ t, step { inScan scan with pending := [.outputTime 0] } = .next t :=
  ⟨by decide, by decide, ⟨nofun, nofun, nofun⟩, _, rfl⟩

theorem witness_ToneMap :
    63 < 64 ∧ 15 < 16 ∧ 1023 = 16 * 63 + 15 ∧ Curve.identity.toList[63]? = some (BitVec.ofNat 12 4032)
      ∧ Curve.identity.toList[63 + 1]? = some (BitVec.ofNat 12 4095) := by decide

theorem witness_OutputPath :
    1023 ≤ 1023 ∧ 255 ≤ 255 ∧ [1, 2, 3, 4].length ≤ 4
      ∧ (overlayBudget true bothAsk.tbc.active 2 4 0).2.length = 1 := by decide

/-! ### Single steps -/

/-- The state a command leads to, or the state itself where it stops. -/
def after (c : Instr) (s : State) : State :=
  match exec c s with
  | .next t => t
  | .fault _ => s
  | .refused _ => s

/-- A START that starts a scan at once, and the same instant after it. -/
theorem witness_CommitDecided_opening :
    let s := after (.start 0 1) (overdue .locked)
    s.takesCommand ∧ s.tbc.commitPending = none ∧ s.pru.table[s.tbc.shadow.profile].state = .valid
      ∧ s.dctl = .running
      ∧ (∃ sc k, s.seng.scan = some sc ∧ sc.reports.clock = s.clock + 0 ∧ sc.opening = some k)
      ∧ ∀ sc, s.seng.scan = some sc → sc.reports.clock ≠ s.clock + 1 := by
  refine ⟨by decide, by decide, by decide, by decide, ⟨_, _, rfl, rfl, rfl⟩, ?_⟩
  rintro sc ⟨⟩; decide

/-- The status of the last reply. -/
def lastStatus (s : State) : Option Status := s.rct.queue.getLast?.map (·.status)

/-- The lowest and the highest values R40 accepts, and each field just outside its range. -/
def lowest : ProfileRequest :=
  { index := 0, width := 640, lines := 360, lineTime := 2000, minBlank := 1, pmin := 1, pmax := 1, weight := 1
    stallLimit := 1, maxMultiplier := 1, lagThreshold := 0, freeRun := 1, lossAction := 0 }
def highest : ProfileRequest :=
  { index := 3, width := 3840, lines := 2160, lineTime := 40000, minBlank := 255, pmin := 65535, pmax := 65535
    weight := 16, stallLimit := 2000000, maxMultiplier := 8, lagThreshold := 65535, freeRun := 65535, lossAction := 1 }
def outside : List ProfileRequest :=
  [{ lowest with width := 639 }, { lowest with lines := 359 }, { lowest with lineTime := 1999 },
    { lowest with minBlank := 0 }, { lowest with pmin := 0 }, { lowest with pmax := 0 }, { lowest with weight := 0 },
    { lowest with stallLimit := 0 }, { lowest with maxMultiplier := 0 }, { lowest with freeRun := 0 },
    { highest with index := 4 }, { highest with width := 3841 }, { highest with lines := 2161 },
    { highest with lineTime := 40001 }, { highest with weight := 17 }, { highest with stallLimit := 2000001 },
    { highest with maxMultiplier := 9 }, { highest with lossAction := 2 }]

/-- R40: the bounds pass stage 1 and meet a later one; one step outside is BAD_VALUE. -/
theorem witness_WriteProfile_ranges :
    (∀ r ∈ [lowest, highest], lastStatus (after (.writeProfile 0 1 r) ready) = some .badProfile)
      ∧ ∀ r ∈ outside, lastStatus (after (.writeProfile 0 1 r) ready) = some .badValue := by decide

/-- The corners R118 accepts, and each field just outside its range. -/
def corner : RegionRequest :=
  { index := 7, level := 7, sourceX := 959, sourceY := 539, width := 1, height := 1, destX := 3839, destY := 2159
    zoom := 4, globalAlpha := 255, alphaMode := 1 }
def wholePlane : RegionRequest :=
  { index := 0, level := 0, sourceX := 0, sourceY := 0, width := 960, height := 540, destX := 0, destY := 0, zoom := 1
    globalAlpha := 0, alphaMode := 0 }
def outsideRegions : List RegionRequest :=
  [{ corner with index := 8 }, { corner with level := 8 }, { corner with sourceX := 960 },
    { corner with sourceY := 540 }, { corner with width := 2 }, { corner with height := 2 },
    { corner with destX := 3840 }, { corner with destY := 2160 }, { corner with zoom := 3 },
    { corner with alphaMode := 2 }, { wholePlane with width := 961 }, { wholePlane with height := 541 },
    { wholePlane with width := 0 }, { wholePlane with height := 0 }, { wholePlane with zoom := 0 }]

/-- R118: the corners are stored, and one step outside is BAD_VALUE. -/
theorem witness_ShadowWrites_regions :
    (∀ r ∈ [corner, wholePlane], lastStatus (after (.writeRegion 0 1 r) ready) = some .ok)
      ∧ ∀ r ∈ outsideRegions, lastStatus (after (.writeRegion 0 1 r) ready) = some .badValue := by decide

/-- R118: region 2 of the worked pixel, field by field. -/
theorem test_region_stored :
    (after (.writeRegion 0 1
      { index := 2, level := 3, sourceX := 100, sourceY := 50, width := 400, height := 200, destX := 1000, destY := 600
        zoom := 2, globalAlpha := 200, alphaMode := 0 }) ready).tbc.shadow.regions[2] = region2 := by decide

/-- R114, R116: a 540th line that meets a full buffer is seen, and its frame is discarded and CLOSED (log 40). -/
theorem test_full_overlay_buffer :
    let t := overlayFull.overlayLinePasses [clear]
    t.ocap.linesSeen = 540 ∧ t.ocap.phase = .closed ∧ (t.evu.source .overlayDiscarded).pending = true := by decide

/-- Chapter 12's worked sequence, first row: the bank of a fresh part cannot be locked. -/
theorem test_lock_of_fresh_part : lastStatus (after (.fuseLock 0 1 true) ready) = some .badLimits := by decide

/-- Chapter 12's worked sequence: W0 = 6945 programmed, FUSE_DONE raised, and the reply carries the word. -/
theorem test_program_w0 :
    let t := after (.fuseProgramEnd 1500000) (after (.fuseProgram 0 2 0 6945 true) ready)
    t.lfb.words[0] = 6945 ∧ (t.evu.source .fuseDone).pending = true ∧ lastStatus t = some .ok := by decide

/-- The same sequence: with FUSE_DONE routed to BOTH and the attention threshold 2 the line is asserted. -/
theorem test_attention_at_fuse_done :
    (after (.fuseProgramEnd 1500000) (after (.fuseProgram 0 2 0 6945 true)
      (after (.setThresholds 0 1 0 2) (after (.eventConfig 0 1 11 3 2) ready)))).attention = true := by decide

/-- A second FUSE_PROGRAM while the first runs is FUSE_BUSY. -/
theorem test_program_while_programming :
    lastStatus (after (.fuseProgram 0 3 1 20833 true) programming) = some .fuseBusy := by decide

/-- R174: a fuse command that comes with the line low while a program runs finds the program interrupted (log 4). -/
theorem test_command_with_the_line_fallen :
    let t := after (.fuseLock 0 6 false) programming
    t.lfb.engine = .idle ∧ t.rct.queue.map (·.status) = [.fuseInterrupted, .fuseDisabled] := by decide

/-- R176: LOADING lasts 200 µs. -/
theorem test_loading_ends :
    (after (.loadingEnd 199999) State.reset).dctl = .loading 200000 none
      ∧ (after (.loadingEnd 200000) State.reset).dctl = .standby := by decide

/-- R82: the first START finds the scheduler OPEN. -/
theorem test_first_start : (after (.start 0 1) ready).ssch.state = .opened
    ∧ (after (.start 0 1) ready).dctl = .running := by decide

/-- Chapter 4's first row: the first LFS in OPEN starts a LIVE scan whose lag is the coupling delay alone, here
floor (4 × 10000 / 1000) = 40. -/
theorem test_lfs_in_open :
    ((after (.lfs 0) opened).seng.scan.map fun sc => (sc.kind, sc.cause, sc.lag)) =
      some (.live, .arrival, some 40) := by decide

/-- R70, R71: a DEADLINE with no latest slot gives a FILL scan. -/
theorem test_deadline_without_latest :
    ((after (.deadlineExpiry 20000000) opened).seng.scan.map fun sc => (sc.kind, sc.cause)) =
      some (.fill, .deadline) := by decide

/-- R7: a period of 10156 ns is within one sixty-fourth of 10000 ns, and 10157 ns is not. -/
theorem test_line_period :
    let s := arriving { frame7 with lineOpen := false, linesSeen := 1 }
    (after (.lineStart 9156) s).lrx.check = .arriving { frame7 with linesSeen := 1, lineStart := 309156 }
      ∧ (after (.lineStart 9157) s).lrx.check = .closed := by decide

/-- R7: an expiry with line n - 1 open names line n. -/
theorem test_overdue_line : frame7.overdueLine = 1 ∧ { frame7 with lineOpen := false }.overdueLine = 0 := by decide

/-- R10, R28: every write buffer entry for a FILLING slot counts as received, also one of an older frame still being
written; but that one delivers no line of the new frame (log 23). -/
theorem test_received_of_an_older_entry :
    let c : Capu := { writing.capu with
      slots := writing.capu.slots.set 0 { writing.capu.slots[(0 : SlotId)] with frame := some 8 } }
    c.received 0 = 1 ∧ c.delivered 0 = 0 ∧ writing.capu.received 0 = 1 ∧ writing.capu.delivered 0 = 1 := by decide

/-- R131: a COMMIT at the instant of START, taken after it, marks the first scan of the run; one a nanosecond later
waits. -/
theorem test_commit_at_start :
    let s := after (.start 0 1) (overdue .locked)
    ((after (.commit 0 2 7) s).seng.scan.map fun sc => (sc.marker, sc.sequence)) = some (some 7, 0)
      ∧ (after (.commit 0 2 7) s).tbc.commitPending = none
      ∧ (after (.commit 1 2 7) s).tbc.commitPending = some 7 := by decide

/-- R96: an overtaking chase is patched from its line on, and that line's patch read is requested at the switch. -/
theorem test_overtake :
    let t := after (.outputTime 0) chasing
    (t.seng.scan.map fun sc => (sc.patchFrom, sc.patched)) = some (some 0, 1)
      ∧ t.marb.transfer = some (.scanRead 1 0 true) := by decide

/-- R16: the last line completes the capture, and its slot is the latest. -/
theorem test_last_line :
    let t := after (.lineEnd 0 [black, black]) (arriving lastLine)
    t.capu.latest = some 0 ∧ t.capu.fill = none := by decide

/-- R15: a line that meets a full write buffer abandons the capture. -/
theorem test_full_write_buffer :
    let t := after (.lineEnd 0 [black, black]) bufferFull
    t.capu.fill = none ∧ (t.evu.source .captureAbandoned).pending = true := by decide

/-- R99: a late line 0 is a fill line, counted as patched, and raises LINES_PATCHED. -/
theorem test_late_line :
    let t := after (.outputTime 0) (inScan scan)
    t.panel.line = some (0, [black, black]) ∧ (t.seng.scan.map (·.patched)) = some 1
      ∧ (t.evu.source .linesPatched).pending = true := by decide

/-- R102, R148: after the last line the scan ends with its record, and the scheduler is in HOLD. -/
theorem test_scan_end :
    let t := after (.outputTime 0) (inScan scanDone)
    t.frl.ring.length = 1 ∧ t.ssch.state = .hold ∧ t.seng.output = .blanking := by decide

/-- R26: maintenance due with a transfer in progress waits for its end. -/
theorem test_maintenance_waits :
    (after (.maintenanceDue 0) writing).marb.maintenance = .due
      ∧ (after (.transferEnd 0) (after (.maintenanceDue 0) writing)).marb.maintenance = .active := by decide

/-- R154: CONTROL_PACKET carries STATUS as the STATUS row does. -/
theorem test_control_packet_status :
    after (.controlPacket 0 statusPacket) ready = after (.status 0 0x07) ready := by decide

/-- R133, R54: a commit in STANDBY to an entry of another width invalidates E. -/
theorem test_format_change :
    let s : State := { ready with
      crp := { Crp.initial with estimate := some 5 }
      pru := { ready.pru with table := ready.pru.table.set 1 { state := .valid, profile := profile0 } }
      tbc := { ready.tbc with shadow := { ready.tbc.shadow with profile := 1 } } }
    (after (.commit 0 1 7) s).crp.estimate = none ∧ (after (.commit 0 1 7) s).tbc.lastMarker = 7 := by decide

end Sys2Proof.Tests
end

namespace Sys2Proof.Machine

/-! ### One induction over the rows

Every row lets time pass, may set an input line, and then acts; the port may be served after it. What holds before each
act and is kept so far leads to what the act leaves; then every step leads there. -/

/-- From every state with `P`, and `Q` once its act is done, every row leads to a state with `Q`. For an invariant the two
are the same, or `P` is the invariant with what else is known before a step. -/
structure RowsLead (P Q : State → Prop) : Prop where
  dequeue : ∀ s rest, P s → P (s.setPending rest)
  clock : ∀ s x, P s → P (s.setClock x)
  liveLock : ∀ s level, P s → P (s.setLiveLock level)
  overlayLock : ∀ s level, P s → P (s.setOverlayLock level)
  fprog : ∀ s level, P s → P (s.setFprog level)
  fprogFalls : ∀ s, P s → P s.fprogFalls
  idle : ∀ s, P s → Q s
  serve : ∀ s, Q s → Q s.serve
  assertReset : ∀ s, P s → Q s.assertReset
  releaseReset : ∀ s, P s → Q s.releaseReset
  loadingEnds : ∀ s, P s → Q s.loadingEnds
  followLiveLock : ∀ s, s.awake → P s → Q s.followLiveLock
  takeLfs : ∀ s, s.awake → P s → Q s.takeLfs
  takeLineStart : ∀ s, s.awake → P s → Q s.takeLineStart
  takeLineEnd : ∀ s pixels, s.awake → P s → Q (s.takeLineEnd pixels)
  takeBlanking : ∀ s, s.awake → P s → Q s.takeBlanking
  lineOverdue : ∀ s, s.awake → P s → Q s.lineOverdue
  maintenanceDue : ∀ s, P s → Q s.maintenanceDue
  maintenanceEnds : ∀ s, P s → Q s.maintenanceEnds
  transferEnds : ∀ s x, s.marb.transfer = some x → P s → Q (s.transferActs x).portFreed
  minExpires : ∀ s, P s → Q s.minExpires
  deadlineExpires : ∀ s, P s → Q s.deadlineExpires
  freeRunExpires : ∀ s, P s → Q s.freeRunExpires
  planTimerExpires : ∀ s, P s → Q s.planTimerExpires
  outputTime : ∀ s, P s → Q s.outputTime
  followOverlayLock : ∀ s, s.awake → P s → Q s.followOverlayLock
  overlayFrameStart : ∀ s, s.awake → P s → Q s.overlayFrameStart
  overlayLineStart : ∀ s, s.awake → P s → Q s.overlayLineStart
  overlayLineEnd : ∀ s pixels, s.awake → P s → Q (s.overlayLineEnd pixels)
  packetBad : ∀ s, P s → Q (s.raise .controlPacketBad)
  refused : ∀ s tag code status, s.placesInUse < 16 → P s → Q (s.addReply tag code status [])
  command : ∀ s tag c, s.awake → s.placesInUse < 16 → P s → Q (commandEffect tag c s)
  fuseProgramEnd : ∀ s, P s → Q s.fuseProgramEnd
  fuseLockEnd : ∀ s, P s → Q s.fuseLockEnd

namespace RowsLead

variable {P Q : State → Prop} {s t : State}

theorem elapse (K : RowsLead P Q) (dt : Nat) (hs : P s) : P (s.elapse dt) := by
  unfold State.elapse
  split
  · exact hs
  · exact K.clock s _ hs

theorem arrival (K : RowsLead P Q) (dt : Nat) {act : State → State} (acts : ∀ s, P s → Q (act s)) (hs : P s) :
    Q (arrival dt act s) := by
  unfold Machine.arrival
  split
  · exact K.idle s hs
  · exact acts _ (K.elapse dt hs)

theorem arrivalOutsideLoading (K : RowsLead P Q) (dt : Nat) {act : State → State}
    (acts : ∀ s, s.awake → P s → Q (act s)) (hs : P s) : Q (arrivalOutsideLoading dt act s) := by
  unfold Machine.arrivalOutsideLoading Machine.arrival
  by_cases held : s.pins.reset = true
  · rw [if_pos held]
    exact K.idle s hs
  · rw [if_neg held]
    dsimp only
    by_cases loading : (s.elapse dt).dctl.isLoading = true
    · rw [if_pos loading]
      exact K.idle _ (K.elapse dt hs)
    · rw [if_neg loading]
      exact acts _ ⟨by simpa using held, by simpa using loading⟩ (K.elapse dt hs)

theorem whenLocked (K : RowsLead P Q) {act : State → State} (acts : ∀ s, s.awake → P s → Q (act s)) :
    ∀ s, s.awake → P s → Q (State.whenLocked act s) := by
  intro s up hs
  unfold State.whenLocked
  split
  · exact K.idle s hs
  · exact acts s up hs

theorem withPlace (K : RowsLead P Q) {act : State → State} (acts : ∀ s, s.awake → s.placesInUse < 16 → P s → Q
    (act s)) :
    ∀ s, s.awake → P s → Q (s.withPlace act) := by
  intro s up hs
  unfold State.withPlace
  split
  · next room => exact acts s up room hs
  · exact K.packetBad s hs

/-- A command row: its slot may not be taken, or find no reply place, and otherwise the command has its effect. -/
theorem commandSlot (K : RowsLead P Q) {dt : Nat} {tag : Byte} (c : Command)
    (h : commandSlot dt (commandEffect tag c) s = .next t) (hs : P s) : Q t := by
  cases h
  refine K.arrivalOutsideLoading dt (fun u up hu => ?_) hs
  split
  · exact K.withPlace (fun u => K.command u tag c) u up hu
  · exact K.idle u hu

theorem fprogLevel (K : RowsLead P Q) (level : Bool) (hs : P s) : P (s.fprogLevel level) := by
  unfold State.fprogLevel
  split
  · exact K.fprog s level hs
  · exact K.fprogFalls _ (K.fprog s level hs)

theorem decidePacket (K : RowsLead P Q) (reading : PacketReading) :
    ∀ s, s.awake → P s → Q (s.decidePacket reading) := by
  intro s up hs
  cases reading with
  | notWhole => exact K.idle s hs
  | ignored => exact K.idle s hs
  | badCheck => exact K.packetBad s hs
  | badCommand tag code => exact K.withPlace (fun u _ room hu => K.refused u _ _ _ room hu) s up hs
  | badLength tag code => exact K.withPlace (fun u _ room hu => K.refused u _ _ _ room hu) s up hs
  | dispatched tag c => exact K.withPlace (fun u => K.command u tag c) s up hs

theorem controlPacket (K : RowsLead P Q) (dt : Nat) (bytes : List Byte) (h : execControlPacket dt bytes s = .next t)
    (hs : P s) : Q t := by
  cases h
  refine K.arrivalOutsideLoading dt (fun u up hu => ?_) hs
  split
  · exact K.decidePacket _ u up hu
  · exact K.idle u hu

theorem transferEnd (K : RowsLead P Q) (dt : Nat) (h : execTransferEnd dt s = .next t) (hs : P s) : Q t := by
  unfold execTransferEnd at h
  split at h
  · cases h; exact K.idle s hs
  · unfold State.transferEnds at h
    split at h
    · cases h; exact K.idle _ (K.elapse dt hs)
    · next x inProgress =>
      split at h
      · cases h; exact K.transferEnds _ x inProgress (K.elapse dt hs)
      · cases h

theorem resetRelease (K : RowsLead P Q) (dt : Nat) (h : execResetRelease dt s = .next t) (hs : P s) : Q t := by
  unfold execResetRelease at h
  split at h
  · cases h; exact K.releaseReset s hs
  · cases h; exact K.idle _ (K.elapse dt hs)

theorem served (K : RowsLead P Q) {act : State → State} (acts : ∀ s, P s → Q (act s)) : ∀ s, P s → Q (act s).serve :=
  fun s hs => K.serve _ (acts s hs)

theorem servedAwake (K : RowsLead P Q) {act : State → State} (acts : ∀ s, s.awake → P s → Q (act s)) :
    ∀ s, s.awake → P s → Q (act s).serve :=
  fun s up hs => K.serve _ (acts s up hs)

/-- Every row leads where its parts lead. -/
theorem exec (K : RowsLead P Q) (i : Instr) (h : exec i s = .next t) (hs : P s) : Q t := by
  cases i with
  | resetAssert dt => cases h; exact K.assertReset _ (K.elapse dt hs)
  | resetRelease dt => exact K.resetRelease dt h hs
  | loadingEnd dt => cases h; exact K.arrival dt K.loadingEnds hs
  | lockArrival dt =>
    cases h; exact K.arrivalOutsideLoading dt (K.servedAwake K.followLiveLock) (K.liveLock s _ hs)
  | lossArrival dt =>
    cases h; exact K.arrivalOutsideLoading dt (K.servedAwake K.followLiveLock) (K.liveLock s _ hs)
  | lfs dt => cases h; exact K.arrivalOutsideLoading dt (K.whenLocked (K.servedAwake K.takeLfs)) hs
  | lineStart dt => cases h; exact K.arrivalOutsideLoading dt (K.whenLocked (K.servedAwake K.takeLineStart)) hs
  | lineEnd dt pixels =>
    cases h
    exact K.arrivalOutsideLoading dt (K.whenLocked (K.servedAwake fun u up hu => K.takeLineEnd u pixels up hu)) hs
  | blankingStart dt => cases h; exact K.arrivalOutsideLoading dt (K.whenLocked (K.servedAwake K.takeBlanking)) hs
  | lineOverdueExpiry dt => cases h; exact K.arrivalOutsideLoading dt (K.whenLocked (K.servedAwake K.lineOverdue)) hs
  | maintenanceDue dt => cases h; exact K.arrival dt K.maintenanceDue hs
  | maintenanceEnd dt => cases h; exact K.arrival dt K.maintenanceEnds hs
  | transferEnd dt => exact K.transferEnd dt h hs
  | minExpiry dt => cases h; exact K.arrival dt (K.served K.minExpires) hs
  | deadlineExpiry dt => cases h; exact K.arrival dt (K.served K.deadlineExpires) hs
  | freeRunExpiry dt => cases h; exact K.arrival dt (K.served K.freeRunExpires) hs
  | planTimerExpiry dt => cases h; exact K.arrival dt (K.served K.planTimerExpires) hs
  | outputTime dt => cases h; exact K.arrival dt (K.served K.outputTime) hs
  | overlayLock dt => cases h; exact K.arrivalOutsideLoading dt K.followOverlayLock (K.overlayLock s _ hs)
  | overlayLoss dt =>
    cases h; exact K.arrivalOutsideLoading dt (K.servedAwake K.followOverlayLock) (K.overlayLock s _ hs)
  | overlayFrameStart dt => cases h; exact K.arrivalOutsideLoading dt (K.servedAwake K.overlayFrameStart) hs
  | overlayLineStart dt => cases h; exact K.arrivalOutsideLoading dt (K.servedAwake K.overlayLineStart) hs
  | overlayLineEnd dt pixels =>
    cases h; exact K.arrivalOutsideLoading dt (K.servedAwake fun u up hu => K.overlayLineEnd u pixels up hu) hs
  | controlPacket dt bytes => exact K.controlPacket dt bytes h hs
  | start dt tag => exact K.commandSlot .start h hs
  | stop dt tag => exact K.commandSlot .stop h hs
  | status dt tag => exact K.commandSlot .status h hs
  | softReset dt tag => exact K.commandSlot .softReset h hs
  | writeProfile dt tag req => exact K.commandSlot (.writeProfile req) h hs
  | readProfile dt tag index => exact K.commandSlot (.readProfile index) h hs
  | resetCadence dt tag => exact K.commandSlot .resetCadence h hs
  | writeTonePoints dt tag channel first points => exact K.commandSlot (.writeTonePoints channel first points) h hs
  | readTonePoints dt tag bank channel first count =>
    exact K.commandSlot (.readTonePoints bank channel first count) h hs
  | writeRegion dt tag req => exact K.commandSlot (.writeRegion req) h hs
  | readRegion dt tag bank index => exact K.commandSlot (.readRegion bank index) h hs
  | setFill dt tag red green blue => exact K.commandSlot (.setFill red green blue) h hs
  | selectProfile dt tag index => exact K.commandSlot (.selectProfile index) h hs
  | commit dt tag marker => exact K.commandSlot (.commit marker) h hs
  | discardShadow dt tag => exact K.commandSlot .discardShadow h hs
  | statsConfig dt tag req => exact K.commandSlot (.statsConfig req) h hs
  | statsStart dt tag => exact K.commandSlot .statsStart h hs
  | statsStop dt tag => exact K.commandSlot .statsStop h hs
  | recordStream dt tag switch => exact K.commandSlot (.recordStream switch) h hs
  | fetchRecord dt tag seq => exact K.commandSlot (.fetchRecord seq) h hs
  | eventConfig dt tag source level route => exact K.commandSlot (.eventConfig source level route) h hs
  | setThresholds dt tag notice attention => exact K.commandSlot (.setThresholds notice attention) h hs
  | clearEvents dt tag set => exact K.commandSlot (.clearEvents set) h hs
  | readEvents dt tag => exact K.commandSlot .readEvents h hs
  | fuseRead dt tag word => exact K.commandSlot (.fuseRead word) h hs
  | fuseProgram dt tag word value fprog =>
    exact K.commandSlot (.fuseProgram word value) h (K.fprogLevel fprog hs)
  | fuseLock dt tag fprog => exact K.commandSlot .fuseLock h (K.fprogLevel fprog hs)
  | fuseProgramEnd dt => cases h; exact K.arrival dt K.fuseProgramEnd hs
  | fuseLockEnd dt => cases h; exact K.arrival dt K.fuseLockEnd hs
  | fprogFall dt => cases h; exact K.arrival dt (fun u hu => K.idle _ (K.fprogFalls u hu)) (K.fprog s _ hs)

/-- Every step leads where the parts of the rows lead. -/
theorem step (K : RowsLead P Q) (h : step s = .next t) (hs : P s) : Q t := by
  unfold Machine.step at h
  split at h
  · cases h; exact K.idle s hs
  · next i rest _ => exact K.exec i h (K.dequeue s rest hs)

end RowsLead

end Sys2Proof.Machine

namespace Sys2Proof.Machine

/-! ### The scan in flight and the scheduler's state

Most operations leave the scheduler's state, the device state and the scan in flight's source and size as they were:
`State.SameRun`. Only scan starts, scan ends, OFF, START and the resets change them. -/

/-- The scan source, the width and the line count of the scan in flight. -/
def State.scanKey (s : State) : Option (Option SlotId × Nat × Nat) :=
  s.seng.scan.map fun sc => (sc.scanSource, sc.width, sc.lines)

/-- The scheduler's state, the device state and the scan in flight's source and size are the same. -/
structure State.SameRun (s t : State) : Prop where
  state : t.ssch.state = s.ssch.state
  dctl : t.dctl = s.dctl
  scan : t.scanKey = s.scanKey

section
variable {s t u : State}

theorem State.scanKey_eq_none : s.scanKey = none ↔ s.seng.scan = none := by simp [State.scanKey]

theorem State.scanKey_isSome : s.scanKey.isSome = s.seng.scan.isSome := by simp [State.scanKey]

theorem State.scanKey_of_scan {sc : Scan} (h : s.seng.scan = some sc) :
    s.scanKey = some (sc.scanSource, sc.width, sc.lines) := by simp [State.scanKey, h]

theorem State.scanKey_of_seng (h : t.seng = s.seng) : t.scanKey = s.scanKey := by simp [State.scanKey, h]

theorem State.scanSource_eq_bind : s.scanSource = s.scanKey.bind (·.1) := by
  simp only [State.scanSource, State.scanKey]
  cases s.seng.scan <;> rfl

theorem State.scanSource_of_scanKey (h : t.scanKey = s.scanKey) : t.scanSource = s.scanSource := by
  rw [State.scanSource_eq_bind, State.scanSource_eq_bind, h]

namespace State.SameRun

theorem refl (s : State) : SameRun s s := ⟨rfl, rfl, rfl⟩

theorem trans (h : SameRun s t) (h' : SameRun t u) : SameRun s u :=
  ⟨h'.state.trans h.state, h'.dctl.trans h.dctl, h'.scan.trans h.scan⟩

theorem of_frame (ssch : t.ssch = s.ssch) (dctl : t.dctl = s.dctl) (seng : t.seng = s.seng) : SameRun s t :=
  ⟨congrArg _ ssch, dctl, scanKey_of_seng seng⟩

theorem setSsch {x : Ssch} (h : x.state = s.ssch.state) : SameRun s (s.setSsch x) := ⟨h, rfl, rfl⟩

/-- An update of the engine that keeps the scan's source and size. -/
theorem setSeng {g : Seng} (h : (s.setSeng g).scanKey = s.scanKey) : SameRun s (s.setSeng g) := ⟨rfl, rfl, h⟩

theorem source (h : SameRun s t) : t.scanSource = s.scanSource := scanSource_of_scanKey h.scan

end State.SameRun
end

open State

theorem Scan.withChoices_key (sc : Scan) (c : Capu) :
    (sc.withChoices c).scanSource = sc.scanSource ∧ (sc.withChoices c).width = sc.width
      ∧ (sc.withChoices c).lines = sc.lines := by
  unfold Scan.withChoices
  split <;> exact ⟨rfl, rfl, rfl⟩

variable (s : State)

/-! ### Operations that leave the scan in flight what it is -/

theorem sameRun_raise (e : EventSource) : SameRun s (s.raise e) := .of_frame (by simp) (by simp) (by simp)

theorem sameRun_serve : SameRun s s.serve := .of_frame (by simp) (by simp) (by simp)

theorem sameRun_drawn : SameRun s s.drawn := .of_frame (by simp) (by simp) (by simp)

theorem sameRun_addReply (tag code : Byte) (status : Status) (payload : List Byte) :
    SameRun s (s.addReply tag code status payload) := .of_frame (by simp) (by simp) (by simp)

theorem sameRun_withCrp (c : Crp) : SameRun s (s.withCrp c) := ⟨rfl, rfl, rfl⟩

theorem sameRun_cadenceLfs (frame time : Word) : SameRun s (s.cadenceLfs frame time) := by
  unfold State.cadenceLfs
  split
  · exact (sameRun_withCrp s _).trans (sameRun_raise _ _)
  · exact sameRun_withCrp s _

theorem sameRun_switchToPatching : SameRun s s.switchToPatching := by
  unfold State.switchToPatching
  split
  · exact .refl s
  · next sc found =>
    split
    · exact .refl s
    · refine .setSeng ?_
      simp [State.scanKey, found, Scan.withChoices_key]

theorem sameRun_engineMalformed (frame : Word) (line : Nat) : SameRun s (s.engineMalformed frame line) := by
  unfold State.engineMalformed
  split
  · exact .refl s
  · split
    · exact sameRun_switchToPatching s
    · exact .refl s

theorem sameRun_engineAbandoned (i : SlotId) : SameRun s (s.engineAbandoned i) := by
  unfold State.engineAbandoned
  split
  · exact .refl s
  · split
    · exact sameRun_switchToPatching s
    · exact .refl s

theorem sameRun_clearPending (frame : Word) : SameRun s (s.clearPending frame) := by
  unfold State.clearPending
  split
  · exact .refl s
  · split
    · exact .setSsch rfl
    · exact .refl s

theorem sameRun_abandonCapture (i : SlotId) : SameRun s (s.abandonCapture i) := by
  have undone : SameRun s (s.undoCapture i) := .of_frame (by simp) (by simp) (by simp)
  unfold State.abandonCapture
  split
  · exact (undone.trans (sameRun_clearPending _ _)).trans (sameRun_engineAbandoned _ i)
  · exact undone.trans (sameRun_engineAbandoned _ i)

theorem sameRun_abandonFrame (frame : Word) : SameRun s (s.abandonFrame frame) := by
  unfold State.abandonFrame
  split
  · exact sameRun_abandonCapture s _
  · exact .refl s

theorem sameRun_malformed (frame : Word) (k : Nat) : SameRun s (s.malformed frame k) := by
  have closed : SameRun s (s.closeCheck.raise .malformedFrame) := .of_frame (by simp) (by simp) (by simp)
  exact ((closed.trans (sameRun_abandonFrame _ frame)).trans (sameRun_clearPending _ frame)).trans
    (sameRun_engineMalformed _ frame k)

theorem sameRun_cutArriving : SameRun s s.cutArriving := by
  unfold State.cutArriving
  split
  · exact sameRun_malformed s _ _
  · exact .refl s
  · exact .refl s

theorem sameRun_captureLine (frame : Word) (line : Nat) (pixels : List GamePixel) :
    SameRun s (s.captureLine frame line pixels) := by
  unfold State.captureLine
  split
  · exact .refl s
  · split
    · exact .of_frame rfl rfl rfl
    · exact (sameRun_abandonCapture s _).trans (sameRun_raise _ _)

theorem sameRun_engineLine (frame : Word) (line start : Nat) (pixels : List GamePixel) :
    SameRun s (s.engineLine frame line start pixels) := by
  unfold State.engineLine
  split
  · exact .refl s
  · next sc found =>
    split
    · exact .setSeng (by simp [State.scanKey, found])
    · exact .refl s

theorem sameRun_countLine (f : FrameCheck) : SameRun s (s.countLine f) := by
  unfold State.countLine
  dsimp only
  split
  · exact .of_frame (by simp) (by simp) (by simp)
  · exact .of_frame rfl rfl rfl

theorem State.startedNow_eq_some {sc : Scan} (h : s.startedNow = some sc) : s.seng.scan = some sc :=
  (Option.filter_eq_some_iff.mp h).1

theorem Scan.recordAfterLfs_key (sc : Scan) (found final : Crp) :
    (sc.recordAfterLfs found final).scanSource = sc.scanSource ∧ (sc.recordAfterLfs found final).width = sc.width
      ∧ (sc.recordAfterLfs found final).lines = sc.lines := by
  unfold Scan.recordAfterLfs
  split <;> exact ⟨rfl, rfl, rfl⟩

theorem sameRun_lfsBeforeStart (sc : Scan) (frame : Word) (h : s.seng.scan = some sc) :
    SameRun s (s.lfsBeforeStart sc frame) := by
  have moved (found final : Crp) : SameRun s
      ((s.withCrp final).setSeng { s.seng with scan := some (sc.recordAfterLfs found final) }) :=
    (sameRun_withCrp s final).trans (.setSeng (by simp [State.scanKey, h, Scan.recordAfterLfs_key]))
  unfold State.lfsBeforeStart
  dsimp only
  split
  · exact (moved _ _).trans (sameRun_raise _ _)
  · exact moved _ _

theorem sameRun_cadenceInScan (frame : Word) : SameRun s (s.cadenceInScan frame) := by
  unfold State.cadenceInScan
  split
  · next sc found =>
    split
    · exact (sameRun_drawn s).trans (sameRun_lfsBeforeStart _ sc frame (by simpa using s.startedNow_eq_some found))
    · exact (sameRun_drawn s).trans (sameRun_cadenceLfs _ _ _)
  · exact sameRun_cadenceLfs s _ _

theorem sameRun_pend (frame : Word) : SameRun s (s.pend frame) := .setSsch rfl

theorem sameRun_openFrame (frame : Word) : SameRun s (s.openFrame frame) := .of_frame (by simp) (by simp) (by simp)

theorem sameRun_keepSlotLine (i : SlotId) (line : Nat) : SameRun s (s.keepSlotLine i line) := by
  unfold State.keepSlotLine
  split
  · exact .refl s
  · next sc found =>
    split
    · exact .setSeng (by simp [State.scanKey, found])
    · exact .refl s

theorem sameRun_transferActs (x : Transfer) : SameRun s (s.transferActs x) := by
  cases x with
  | captureWrite i line => exact .of_frame (by simp [State.transferActs]) (by simp) (by simp [State.transferActs])
  | scanRead i line wanted =>
    cases wanted
    · exact .refl s
    · exact sameRun_keepSlotLine s i line
  | overlayRead p line wanted =>
    cases wanted
    · exact .refl s
    · exact .of_frame (by simp [State.transferActs]) (by simp) (by simp [State.transferActs])
  | overlayWrite e buffered => exact .of_frame (by simp [State.transferActs]) (by simp) (by simp [State.transferActs])

theorem sameRun_portFreed : SameRun s s.portFreed := .of_frame (by simp) (by simp) (by simp)

theorem sameRun_emitLine (sc : Scan) (made : Produced) (coupled : Bool)
    (h : s.scanKey = some (sc.scanSource, sc.width, sc.lines)) : SameRun s (s.emitLine sc made coupled) := by
  rw [State.emitLine_eq sc made.pixels made.patched coupled s]
  refine ⟨rfl, rfl, ?_⟩
  rw [h]
  simp [State.lineLeft, State.scanKey, Scan.withChoices_key]

theorem sameRun_outputLine (sc : Scan) (h : s.seng.scan = some sc) : SameRun s (s.outputLine sc) := by
  have key := State.scanKey_of_scan h
  unfold State.outputLine
  split
  · exact sameRun_emitLine s sc _ _ key
  · split
    · have switched : SameRun s s.switchToPatching.serve :=
        (sameRun_switchToPatching s).trans (sameRun_serve _)
      dsimp only
      split
      · next sc' found =>
        exact switched.trans (sameRun_emitLine _ sc' _ _ (State.scanKey_of_scan found))
      · exact switched
    · exact sameRun_emitLine s sc _ _ key

theorem sameRun_markOpening (k : Option Kept) : SameRun s (s.markOpening k) := by
  refine .setSeng ?_
  simp only [State.scanKey, State.setSeng_seng, Option.map_map]
  rfl

/-- The frame counter at the next frame's number, and no frame open: LRX as an LFS finds it (R4 steps 2 and 3). -/
def State.numbered (s : State) : State :=
  s.setLrx { link := s.lrx.link, frameCounter := s.lrx.frameCounter + 1, check := .closed }

/-- An LFS in its steps (R4). -/
theorem State.takeLfs_eq : s.takeLfs =
    State.openFrame s.cutArriving.numbered.lrx.frameCounter
      (State.reportLfs s.cutArriving.numbered.lrx.frameCounter s.cutArriving.numbered).resolveCapture := rfl

/-! ### Scan starts and scan ends -/

@[simp] theorem State.clearEngine_scanKey : s.clearEngine.scanKey = none := rfl

@[simp] theorem State.engineScanEnd_scanKey (cut : Bool) (sc : Scan) : (s.engineScanEnd cut sc).scanKey = none := by
  simp [State.engineScanEnd]

@[simp] theorem State.reachOff_scanKey : s.reachOff.scanKey = s.scanKey := by
  rw [State.reachOff_eq]
  unfold State.offReached
  dsimp only
  split <;> rfl

/-- The scheduler out of OFF is RUNNING, and a scan in flight means SCAN (R86, R105). -/
def State.RunInv (s : State) : Prop :=
  (s.ssch.state ≠ .off → s.dctl = .running) ∧ (s.scanKey.isSome = true → s.ssch.state = .scan)

theorem SchedulerInv.runInv {s : State} (h : SchedulerInv s) : s.RunInv := by
  obtain ⟨running, scanning, -, -⟩ := h
  exact ⟨running.mpr, fun some => scanning.mpr (by rwa [State.scanKey_isSome] at some)⟩

namespace State.RunInv

variable {s t : State}

theorem of_same (h : s.RunInv) (same : SameRun s t) : t.RunInv := by
  unfold State.RunInv
  rw [same.state, same.dctl, same.scan]
  exact h

theorem scan_none (h : s.RunInv) (out : s.ssch.state ≠ .scan) : s.scanKey = none := by
  cases found : s.scanKey with
  | none => rfl
  | some k => exact absurd (h.2 (by simp [found])) out

/-- Outside RUNNING no scan is in flight. -/
theorem scan_none_of_dctl (h : s.RunInv) (out : s.dctl ≠ .running) : s.scanKey = none := by
  refine h.scan_none fun scanning => out (h.1 ?_)
  rw [scanning]; decide

/-- A scan in flight means RUNNING. -/
theorem running_of_scan (h : s.RunInv) {sc : Scan} (found : s.seng.scan = some sc) : s.dctl = .running := by
  refine h.1 ?_
  rw [h.2 (by simp [State.scanKey_isSome, found])]
  decide

/-- In OFF with no scan in flight the invariant holds. -/
theorem of_off (state : s.ssch.state = .off) (scan : s.scanKey = none) : s.RunInv :=
  ⟨fun out => absurd state out, fun some => by rw [scan] at some; cases some⟩

/-- In LOADING and STANDBY the scheduler is OFF. -/
theorem off_of_dctl (h : s.RunInv) (out : s.dctl ≠ .running) : s.ssch.state = .off :=
  by_contra fun on => out (h.1 on)

end State.RunInv

/-! ### Commands -/

/-- A command that reaches neither the scheduler, the device state nor the engine. -/
def plainCommand : Command → Bool
  | .start => false
  | .stop => false
  | .softReset => false
  | .resetCadence => false
  | .commit _ => false
  | _ => true

/-- What a plain command leaves: everything but the profile table, the shadow bank, statistics, records, replies, events
and the fuses. -/
theorem plainCommand_frame (s : State) (tag : Byte) (c : Command) (plain : plainCommand c = true) :
    (commandEffect tag c s).clock = s.clock ∧ (commandEffect tag c s).pins = s.pins
      ∧ (commandEffect tag c s).lrx = s.lrx ∧ (commandEffect tag c s).capu = s.capu
      ∧ (commandEffect tag c s).marb = s.marb ∧ (commandEffect tag c s).crp = s.crp
      ∧ (commandEffect tag c s).ssch = s.ssch ∧ (commandEffect tag c s).seng = s.seng
      ∧ (commandEffect tag c s).ocap = s.ocap ∧ (commandEffect tag c s).ocmp = s.ocmp
      ∧ (commandEffect tag c s).dctl = s.dctl := by
  cases c with
  | start => cases plain
  | stop => cases plain
  | softReset => cases plain
  | resetCadence => cases plain
  | commit marker => cases plain
  | _ => simp [commandEffect]

theorem sameRun_plainCommand (s : State) (tag : Byte) (c : Command) (plain : plainCommand c = true) :
    SameRun s (commandEffect tag c s) := by
  obtain ⟨-, -, -, -, -, -, ssch, seng, -, -, dctl⟩ := plainCommand_frame s tag c plain
  exact .of_frame ssch dctl seng

end Sys2Proof.Machine

namespace Sys2Proof.Machine

open State

/-! ### The slot records as CAPU's operations leave them -/

/-- Fill, latest and a scan source agree with the slots' states (R10 to R13, R19). -/
def Capu.agrees (c : Capu) (source : Option SlotId) : Prop :=
  ∀ i : SlotId,
    (c.slots[i].state = .filling ↔ c.fill = some i)
      ∧ (c.latest = some i → c.slots[i].state = .complete)
      ∧ (c.slots[i].state = .complete → c.latest = some i ∨ source = some i)
      ∧ (c.slots[i].state = .free → c.slots[i] = SlotRecord.emptied)

/-- The fill, if any, captures this frame (R12). -/
def Capu.captures (c : Capu) (frame : Word) : Prop := ∀ i : SlotId, c.fill = some i → c.slots[i].frame = some frame

theorem slotInv_iff {s : State} : SlotInv s ↔ s.capu.agrees s.scanSource ∧ s.capu.captures s.lrx.frameCounter := by
  constructor
  · intro h
    refine ⟨fun i => ?_, fun i => (h i).2.2.2.2⟩
    obtain ⟨filling, latest, complete, free, -⟩ := h i
    exact ⟨filling, latest, complete, free⟩
  · rintro ⟨agrees, captures⟩ i
    obtain ⟨filling, latest, complete, free⟩ := agrees i
    exact ⟨filling, latest, complete, free, captures i⟩

theorem slots_set (v : Vector SlotRecord 3) (i j : SlotId) (r : SlotRecord) :
    (v.set i.val r i.isLt)[j] = if i = j then r else v[j] := by
  simp only [Fin.getElem_fin, Vector.getElem_set, Fin.val_inj]

namespace Capu

variable {c : Capu} {source : Option SlotId} {frame : Word}

theorem captures_of_no_fill (h : c.fill = none) : c.captures frame := fun i hi => by rw [h] at hi; cases hi

/-- With no scan source a record agrees with whatever source comes. -/
theorem agrees.of_none (h : c.agrees none) : c.agrees source := fun i => by
  obtain ⟨filling, latest, complete, free⟩ := h i
  exact ⟨filling, latest, fun done => .inl ((complete done).resolve_right (by simp)), free⟩

/-- The fill is not the latest. -/
theorem agrees.latest_ne_fill (h : c.agrees source) {i : SlotId} (fill : c.fill = some i) : c.latest ≠ some i := by
  intro latest
  have filling := (h i).1.mpr fill
  rw [(h i).2.1 latest] at filling
  cases filling

/-- Emptying the fill leaves the other records as they agree (R17). -/
theorem agrees.undone (h : c.agrees source) {i : SlotId} (fill : c.fill = some i) (buffer : List CaptureEntry) :
    ({ slots := c.slots.set i.val SlotRecord.emptied i.isLt, fill := none, latest := c.latest, buffer := buffer }
      : Capu).agrees source := by
  intro j
  obtain ⟨filling, latest, complete, free⟩ := h j
  dsimp only
  rw [slots_set]
  by_cases here : i = j
  · subst here
    simp [SlotRecord.emptied, h.latest_ne_fill fill]
  · rw [if_neg here]
    refine ⟨?_, latest, complete, free⟩
    rw [filling, fill]
    simp [here]

/-- Releasing a slot that is neither the fill nor the latest (R16, R18). -/
theorem agrees.release (h : c.agrees source) {i : SlotId} (fill : c.fill ≠ some i) (latest : c.latest ≠ some i) :
    (c.release i).agrees source := by
  intro j
  obtain ⟨filling, latest', complete, free⟩ := h j
  unfold Capu.release
  dsimp only
  rw [slots_set]
  by_cases here : i = j
  · subst here
    simp [SlotRecord.emptied, fill, latest]
  · rw [if_neg here]
    exact ⟨filling, latest', complete, free⟩

/-- Letting the scan source go leaves records that agree with no scan source (R18). -/
theorem agrees.releaseSource (h : c.agrees source) : (c.releaseSource source).agrees none := by
  unfold Capu.releaseSource
  cases source with
  | none => exact h
  | some i =>
    dsimp only
    split
    · next held =>
      intro j
      obtain ⟨filling, latest, complete, free⟩ := h j
      refine ⟨filling, latest, fun done => .inl ?_, free⟩
      refine (complete done).elim id fun here => ?_
      cases here
      refine held.elim (fun fill => ?_) id
      rw [filling.mpr fill] at done
      cases done
    · next held =>
      obtain ⟨fill, latest⟩ := not_or.mp held
      intro j
      obtain ⟨filling, latest', complete, free⟩ := (h.release fill latest) j
      refine ⟨filling, latest', fun done => .inl ((complete done).resolve_right fun here => ?_), free⟩
      cases here
      rw [Capu.release] at done
      dsimp only at done
      rw [slots_set, if_pos rfl] at done
      cases done

theorem releaseSource_fill : (c.releaseSource source).fill = c.fill := by
  unfold Capu.releaseSource Capu.release
  split
  · rfl
  · split <;> rfl

/-- Letting a source go leaves the fill's record. -/
theorem captures.releaseSource (h : c.captures frame) : (c.releaseSource source).captures frame := by
  intro i fill
  rw [releaseSource_fill] at fill
  unfold Capu.releaseSource
  split
  · exact h i fill
  · next j =>
    split
    · exact h i fill
    · next held =>
      have other : j ≠ i := by rintro rfl; exact held (.inl fill)
      rw [Capu.release]
      dsimp only
      rw [slots_set, if_neg other]
      exact h i fill

/-- A completed capture is the latest, and the latest before it is released unless it is the scan source (R16). -/
theorem agrees.complete (h : c.agrees source) {i : SlotId} (fill : c.fill = some i) :
    (c.complete i source).agrees source := by
  have old : c.latest.filter (· ≠ i) = c.latest := by
    have other := h.latest_ne_fill fill
    cases latest : c.latest with
    | none => rfl
    | some j =>
      rw [latest] at other
      simpa [Option.filter] using other
  have done (j : SlotId) (r : SlotRecord)
      (hr : r = (c.slots.set i.val { c.slots[i] with state := .complete } i.isLt)[j]) :
      (r.state = .filling ↔ none = some j) ∧ (some i = some j → r.state = .complete)
        ∧ (r.state = .complete → some i = some j ∨ source = some j ∨ c.latest = some j)
        ∧ (r.state = .free → r = SlotRecord.emptied) := by
    obtain ⟨filling, latest, complete, free⟩ := h j
    rw [slots_set] at hr
    by_cases here : i = j
    · subst here
      rw [if_pos rfl] at hr
      subst hr
      simp
    · rw [if_neg here] at hr
      subst hr
      refine ⟨?_, fun same => absurd (Option.some.inj same) here, fun done => ?_, free⟩
      · rw [filling, fill]; simp [here]
      · exact (complete done).elim (fun x => .inr (.inr x)) (fun x => .inr (.inl x))
  unfold Capu.complete Capu.releaseOld
  rw [old]
  cases latest : c.latest with
  | none =>
    intro j
    obtain ⟨filling, now, complete, free⟩ := done j _ rfl
    refine ⟨filling, now, fun state => (complete state).imp_right fun x => x.resolve_right ?_, free⟩
    rw [latest]; simp
  | some k =>
    have other : k ≠ i := by rintro rfl; exact h.latest_ne_fill fill latest
    dsimp only
    split
    · next source' =>
      intro j
      obtain ⟨filling, now, complete, free⟩ := done j _ rfl
      refine ⟨filling, now, fun state => (complete state).imp_right fun x => x.elim id fun was => ?_, free⟩
      rw [latest] at was
      rw [← was]
      exact source'
    · intro j
      obtain ⟨filling, now, complete, free⟩ := done j _ rfl
      unfold Capu.release
      dsimp only
      rw [slots_set]
      by_cases here : k = j
      · subst here
        rw [if_pos rfl]
        simp [SlotRecord.emptied, other.symm]
      · rw [if_neg here]
        refine ⟨filling, now, fun state => (complete state).imp_right fun x => x.resolve_right ?_, free⟩
        rw [latest]
        simpa using here

theorem complete_fill (i : SlotId) : (c.complete i source).fill = none := by
  unfold Capu.complete Capu.releaseOld Capu.release
  split
  · rfl
  · split <;> rfl

/-- A counted line changes neither the slots' states nor their frames (R14). -/
theorem writeEnded_record (c : Capu) (j : SlotId) :
    c.writeEnded.slots[j] = c.slots[j]
      ∨ c.slots[j].state ≠ .free
        ∧ c.writeEnded.slots[j] = { c.slots[j] with linesWritten := c.slots[j].linesWritten + 1 } := by
  unfold Capu.writeEnded
  split
  · exact .inl rfl
  · next e rest _ =>
    dsimp only
    split
    · next counted =>
      dsimp only
      rw [slots_set]
      by_cases here : e.slot = j
      · rw [if_pos here, ← here]
        exact .inr ⟨counted.1, rfl⟩
      · rw [if_neg here]
        exact .inl rfl
    · exact .inl rfl

theorem writeEnded_held (c : Capu) : c.writeEnded.fill = c.fill ∧ c.writeEnded.latest = c.latest := by
  unfold Capu.writeEnded
  split
  · exact ⟨rfl, rfl⟩
  · dsimp only
    split <;> exact ⟨rfl, rfl⟩

theorem agrees.writeEnded (h : c.agrees source) : c.writeEnded.agrees source := by
  intro j
  rw [c.writeEnded_held.1, c.writeEnded_held.2]
  obtain ⟨filling, latest, complete, free⟩ := h j
  rcases c.writeEnded_record j with same | ⟨kept, counted⟩
  · rw [same]; exact ⟨filling, latest, complete, free⟩
  · rw [counted]; exact ⟨filling, latest, complete, fun state => absurd state kept⟩

theorem captures.writeEnded (h : c.captures frame) : c.writeEnded.captures frame := by
  intro j fill
  rw [c.writeEnded_held.1] at fill
  rcases c.writeEnded_record j with same | ⟨-, counted⟩
  · rw [same]; exact h j fill
  · rw [counted]; exact h j fill

/-- The lowest free slot: not the fill, the latest or the scan source, as every lower slot is (R11, R12). -/
theorem lowestFree_eq_some {i : SlotId} : c.lowestFree source = some i ↔
    (c.fill ≠ some i ∧ c.latest ≠ some i ∧ source ≠ some i)
      ∧ ∀ j < i, c.fill = some j ∨ c.latest = some j ∨ source = some j := by
  have free (j : SlotId) : c.isFree source j = true ↔ c.fill ≠ some j ∧ c.latest ≠ some j ∧ source ≠ some j := by
    simp [Capu.isFree, and_assoc]
  have taken (j : SlotId) : ¬ (c.isFree source j = true) ↔ c.fill = some j ∨ c.latest = some j ∨ source = some j := by
    rw [free]; tauto
  simp only [← free, ← taken, Capu.lowestFree, List.find?]
  cases h0 : c.isFree source 0 <;> cases h1 : c.isFree source 1 <;> cases h2 : c.isFree source 2 <;>
    fin_cases i <;> simp [Fin.forall_fin_succ, h0, h1, h2]

/-- A free slot begins a capture (R12). -/
theorem agrees.allocated (h : c.agrees source) (empty : c.fill = none) {i : SlotId} (latest : c.latest ≠ some i)
    {r : SlotRecord} (filling : r.state = .filling) :
    ({ c with slots := c.slots.set i.val r i.isLt, fill := some i } : Capu).agrees source := by
  intro j
  obtain ⟨filling', latest', complete, free⟩ := h j
  dsimp only
  rw [slots_set]
  by_cases here : i = j
  · subst here
    rw [if_pos rfl, filling]
    simp [latest]
  · rw [if_neg here]
    refine ⟨?_, latest', complete, free⟩
    rw [filling', empty]
    simp [here]

end Capu

end Sys2Proof.Machine

namespace Sys2Proof.Machine

open State

/-! ### The slot records along the rows -/

theorem Capu.fillFor_eq_some {c : Capu} {frame : Word} {i : SlotId} :
    c.fillFor frame = some i ↔ c.fill = some i ∧ c.slots[i].frame = some frame := by
  simp [Capu.fillFor, Option.filter_eq_some_iff]

theorem Capu.fillFor_eq_none {c : Capu} {frame : Word} :
    c.fillFor frame = none ↔ ∀ i, c.fill = some i → c.slots[i].frame ≠ some frame := by
  simp [Capu.fillFor, Option.filter_eq_none_iff]

/-- An abandonment empties the slot's record and takes its waiting entries out of the buffer (R17). -/
theorem State.abandonCapture_capu (s : State) (i : SlotId) : (s.abandonCapture i).capu =
    { slots := s.capu.slots.set i.val SlotRecord.emptied i.isLt, fill := none, latest := s.capu.latest
      buffer := s.capu.withoutSlot i (s.marb.busy .captureWrite) } := by
  unfold State.abandonCapture
  split <;> simp [State.undoCapture]

/-- The slot records agree with fill, latest and a scan source, whatever number the next frame will take. -/
abbrev State.SlotsAgree (s : State) : Prop := s.capu.agrees s.scanSource

section
variable {s t : State}

/-- The slot records, the scan source and the frame counter are all the invariant speaks of. -/
theorem SlotInv.of_key (h : SlotInv s) (key : t.scanKey = s.scanKey) (capu : t.capu = s.capu)
    (counter : t.lrx.frameCounter = s.lrx.frameCounter) : SlotInv t := by
  rw [slotInv_iff] at h ⊢
  rwa [capu, counter, scanSource_of_scanKey key]

theorem SlotInv.of_same (h : SlotInv s) (same : SameRun s t) (capu : t.capu = s.capu)
    (counter : t.lrx.frameCounter = s.lrx.frameCounter) : SlotInv t := h.of_key same.scan capu counter

theorem SlotInv.setCheck (h : SlotInv s) (x : Check) : SlotInv (s.setLrx { s.lrx with check := x }) :=
  h.of_key rfl rfl rfl

/-- With no fill only the agreement is left to see. -/
theorem SlotsAgree.slotInv (h : s.SlotsAgree) (fill : s.capu.fill = none) : SlotInv s :=
  slotInv_iff.mpr ⟨h, Capu.captures_of_no_fill fill⟩

theorem SlotsAgree.abandonCapture (h : s.SlotsAgree) {i : SlotId} (fill : s.capu.fill = some i) :
    (s.abandonCapture i).SlotsAgree := by
  rw [State.SlotsAgree, State.abandonCapture_capu, (sameRun_abandonCapture s i).source]
  exact h.undone fill _

theorem SlotInv.abandonCapture (h : SlotInv s) {i : SlotId} (fill : s.capu.fill = some i) :
    SlotInv (s.abandonCapture i) :=
  SlotsAgree.slotInv (SlotsAgree.abandonCapture (slotInv_iff.mp h).1 fill) (by rw [State.abandonCapture_capu])

theorem SlotInv.abandonFrame (h : SlotInv s) (frame : Word) : SlotInv (s.abandonFrame frame) := by
  unfold State.abandonFrame
  split
  · next i mine => exact h.abandonCapture (Capu.fillFor_eq_some.mp mine).1
  · exact h

theorem SlotInv.malformed (h : SlotInv s) (frame : Word) (k : Nat) : SlotInv (s.malformed frame k) := by
  have closed : SlotInv (s.closeCheck.raise .malformedFrame) :=
    (h.setCheck .closed).of_same (sameRun_raise s.closeCheck .malformedFrame) (by simp) (by simp; rfl)
  have cleared := (closed.abandonFrame frame).of_same (sameRun_clearPending _ frame) (by simp) (by simp)
  unfold State.malformed
  exact cleared.of_same (sameRun_engineMalformed _ frame k) (by simp) (by simp)

theorem SlotInv.cutArriving (h : SlotInv s) : SlotInv s.cutArriving := by
  unfold State.cutArriving
  split
  · exact h.malformed _ _
  · exact h
  · exact h

theorem SlotInv.captureLine (h : SlotInv s) (frame : Word) (line : Nat) (pixels : List GamePixel) :
    SlotInv (s.captureLine frame line pixels) := by
  unfold State.captureLine
  split
  · exact h
  · next i mine =>
    split
    · exact h
    · exact (h.abandonCapture (Capu.fillFor_eq_some.mp mine).1).of_same (sameRun_raise _ _) (by simp) (by simp)

theorem SlotInv.captureFrameEnd (h : SlotInv s) (frame : Word) : SlotInv (s.captureFrameEnd frame) := by
  unfold State.captureFrameEnd
  split
  · next i mine =>
    refine SlotsAgree.slotInv ?_ (Capu.complete_fill i)
    exact (slotInv_iff.mp h).1.complete (Capu.fillFor_eq_some.mp mine).1
  · exact h

theorem SlotInv.countLine (h : SlotInv s) (f : FrameCheck) : SlotInv (s.countLine f) := by
  unfold State.countLine
  dsimp only
  split
  · exact (h.setCheck _).captureFrameEnd f.frame
  · exact h.setCheck _

theorem SlotInv.takeLineEnd (h : SlotInv s) (pixels : List GamePixel) : SlotInv (s.takeLineEnd pixels) := by
  unfold State.takeLineEnd
  split
  · exact h
  · exact h
  · split
    · split
      · exact ((h.captureLine _ _ _).of_same (sameRun_engineLine _ _ _ _ _) (by simp) (by simp)).countLine _
      · exact h.malformed _ _
    · exact h

theorem SlotInv.takeLineStart (h : SlotInv s) : SlotInv s.takeLineStart := by
  unfold State.takeLineStart State.arrivingLineStart
  split
  · exact h
  · split
    · exact h.malformed _ _
    · split
      · exact h.of_same (.of_frame rfl rfl rfl) rfl rfl
      · exact h.malformed _ _
  · exact h.malformed _ _

theorem SlotInv.takeBlanking (h : SlotInv s) : SlotInv s.takeBlanking := by
  unfold State.takeBlanking
  split
  · exact h
  · exact h.malformed _ _
  · exact h.of_same (.of_frame rfl rfl rfl) rfl rfl

theorem SlotInv.lineOverdue (h : SlotInv s) : SlotInv s.lineOverdue := by
  unfold State.lineOverdue
  split
  · exact h
  · exact h
  · split
    · exact h.malformed _ _
    · exact h

theorem SlotInv.captureWriteEnds (h : SlotInv s) (i : SlotId) (line : Nat) : SlotInv (s.captureWriteEnds i line) := by
  rw [slotInv_iff] at h
  unfold State.captureWriteEnds
  split
  · exact slotInv_iff.mpr ⟨h.1.writeEnded, h.2.writeEnded⟩
  · exact slotInv_iff.mpr h

theorem SlotInv.transferActs (h : SlotInv s) (x : Transfer) : SlotInv (s.transferActs x) := by
  cases x with
  | captureWrite i line => exact h.captureWriteEnds i line
  | scanRead i line wanted =>
    exact h.of_same (sameRun_transferActs s _) (by cases wanted <;> simp [State.transferActs]) (by simp)
  | overlayRead p line wanted =>
    exact h.of_same (sameRun_transferActs s _) (by cases wanted <;> simp [State.transferActs]) (by simp)
  | overlayWrite e buffered => exact h.of_same (sameRun_transferActs s _) (by simp [State.transferActs]) (by simp)

/-! ### Scan starts and scan ends -/

/-- With no scan in flight the records agree with no scan source. -/
theorem SlotsAgree.no_source (h : s.SlotsAgree) (quiet : s.scanKey = none) : s.capu.agrees none := by
  rwa [State.SlotsAgree, State.scanSource_eq_bind, quiet] at h

/-- A scan starts with no scan in flight: whatever its source is, the records agree with it. -/
theorem SlotsAgree.startScan (h : s.SlotsAgree) (quiet : s.scanKey = none) (r : StartReason) :
    (s.startScan r).SlotsAgree := by
  rw [State.SlotsAgree, (s.startScan_frame r).2.2.2.1]
  exact (SlotsAgree.no_source h quiet).of_none

theorem SlotInv.startScan (h : SlotInv s) (quiet : s.scanKey = none) (r : StartReason) : SlotInv (s.startScan r) := by
  rw [slotInv_iff] at h ⊢
  refine ⟨SlotsAgree.startScan h.1 quiet r, ?_⟩
  rw [(s.startScan_frame r).2.2.2.1, (s.startScan_frame r).2.2.1]
  exact h.2

theorem SlotInv.takeOpen (h : SlotInv s) (quiet : s.scanKey = none) : SlotInv s.takeOpen := by
  unfold State.takeOpen
  split <;> split
  · exact h.startScan quiet _
  · exact h
  · exact h.startScan quiet _
  · exact h

theorem SlotInv.takeActive (h : SlotInv s) (run : s.RunInv) : SlotInv s.takeActive := by
  unfold State.takeActive
  split
  · next state =>
    have quiet : s.scanKey = none := run.scan_none (by rw [state]; decide)
    split
    · unfold State.takeMin
      split
      · exact h.startScan quiet _
      · exact SlotInv.takeOpen (h.of_key rfl rfl rfl) quiet
    · exact h
  · next state => exact h.takeOpen (run.scan_none (by rw [state]; decide))
  · exact h
  · exact h

/-- The slot invariant with what a scan start needs to know of the run. -/
abbrev State.SlotRun (s : State) : Prop := s.RunInv ∧ SlotInv s

theorem SlotRun.of_same (h : s.SlotRun) (same : SameRun s t) (capu : t.capu = s.capu)
    (counter : t.lrx.frameCounter = s.lrx.frameCounter) : t.SlotRun :=
  ⟨h.1.of_same same, h.2.of_same same capu counter⟩

theorem SlotRun.takeActive (h : s.SlotRun) : SlotInv s.takeActive := SlotInv.takeActive h.2 h.1

theorem SlotInv.engineScanEnd (h : SlotInv s) {sc : Scan} (found : s.seng.scan = some sc) (cut : Bool) :
    SlotInv (s.engineScanEnd cut sc) := by
  rw [slotInv_iff] at h ⊢
  have source : s.scanSource = sc.scanSource := by simp [State.scanSource, found]
  have capu : (s.engineScanEnd cut sc).capu = s.capu.releaseSource sc.scanSource := by simp [State.engineScanEnd]
  rw [State.scanSource_eq_bind, State.engineScanEnd_scanKey, capu, (s.engineScanEnd_frame cut sc).2.2.1, ← source]
  exact ⟨h.1.releaseSource, h.2.releaseSource⟩

/-- The scheduler's OFF leaves the slots and the scan in flight. -/
theorem SlotInv.reachOff (h : SlotInv s) : SlotInv s.reachOff :=
  h.of_key s.reachOff_scanKey (by simp) (by simp)

theorem SlotInv.afterScanEnd (h : SlotInv s) (quiet : s.scanKey = none) (dctl : s.dctl = .running) :
    SlotInv s.afterScanEnd := by
  unfold State.afterScanEnd
  split
  · exact h.reachOff
  · refine SlotInv.takeActive (h.of_key rfl rfl rfl) ⟨fun _ => dctl, fun some => ?_⟩
    rw [show (s.setSsch { s.ssch with state := .hold }).scanKey = none from quiet] at some
    cases some

/-- A scan ends, or is cut short, and the scheduler takes its end. -/
theorem SlotRun.scanEnds (h : s.SlotRun) {sc : Scan} (found : s.seng.scan = some sc) (cut : Bool) :
    SlotInv (s.engineScanEnd cut sc).afterScanEnd :=
  (h.2.engineScanEnd found cut).afterScanEnd (by simp) (by simpa using h.1.running_of_scan found)

theorem SlotRun.outputTime (h : s.SlotRun) : SlotInv s.outputTime := by
  unfold State.outputTime
  split
  · exact h.2
  · next sc found =>
    split
    · exact h.2
    · split
      · split
        · exact h.2.of_same (sameRun_outputLine s sc found) (by simp) (by simp)
        · exact SlotRun.scanEnds h found false
      · exact h.2

theorem SlotRun.forceStop (h : s.SlotRun) : SlotInv s.forceStop := by
  have drawn : s.drawn.SlotRun := SlotRun.of_same h (sameRun_drawn s) (by simp) (by simp)
  unfold State.forceStop
  split
  · next sc found =>
    have found' : s.drawn.seng.scan = some sc := by simpa using found
    split
    · split
      · exact SlotRun.scanEnds drawn found' false
      · exact SlotRun.scanEnds drawn found' true
    · exact SlotRun.scanEnds h found true
  · exact h.2

/-! ### The live link and frame starts -/

theorem SlotRun.lockTaken (h : s.SlotRun) : SlotInv s.lockTaken := by
  have locked : SameRun s ((s.setLrx { s.lrx with link := .locked }).raise .liveLock) :=
    .of_frame (by simp) (by simp) (by simp)
  exact SlotRun.takeActive (SlotRun.of_same h (locked.trans (sameRun_withCrp _ _)) (by simp) (by simp))

theorem SlotRun.lossTaken (h : s.SlotRun) : SlotInv s.lossTaken := by
  have cut : s.cutArriving.SlotRun := ⟨h.1.of_same (sameRun_cutArriving s), h.2.cutArriving⟩
  revert cut
  unfold State.lossTaken
  generalize s.cutArriving = t
  intro cut
  have lost : SameRun t ((t.setLrx { t.lrx with link := .down, check := .closed }).raise .liveLoss) :=
    .of_frame (by simp) (by simp) (by simp)
  exact SlotRun.takeActive (SlotRun.of_same cut (lost.trans (sameRun_withCrp _ _)) (by simp) (by simp))

theorem SlotRun.followLiveLock (h : s.SlotRun) : SlotInv s.followLiveLock := by
  unfold State.followLiveLock
  split
  · exact SlotRun.lockTaken h
  · exact SlotRun.lossTaken h
  · exact h.2
  · exact h.2

theorem SlotsAgree.reportLfs (h : s.SlotsAgree) (run : s.RunInv) (frame : Word) : (s.reportLfs frame).SlotsAgree := by
  have kept {t : State} (same : SameRun s t) (capu : t.capu = s.capu) : t.SlotsAgree := by
    rw [State.SlotsAgree, capu, same.source]; exact h
  unfold State.reportLfs
  split
  · next state => exact SlotsAgree.startScan h (run.scan_none (by rw [state]; decide)) _
  · exact kept ((sameRun_cadenceLfs s _ _).trans (sameRun_pend _ _)) (by simp)
  · exact kept ((sameRun_cadenceInScan s _).trans (sameRun_pend _ _)) (by simp)
  · exact kept (sameRun_cadenceLfs s _ _) (by simp)

theorem SlotsAgree.resolveCapture (h : s.SlotsAgree) :
    s.resolveCapture.SlotsAgree ∧ s.resolveCapture.capu.fill = none := by
  unfold State.resolveCapture
  split
  · next i fill => exact ⟨SlotsAgree.abandonCapture h fill, by rw [State.abandonCapture_capu]⟩
  · next fill => exact ⟨h, fill⟩

/-- CAPU allocates a slot for the frame that has the newest number (R12). -/
theorem SlotsAgree.openFrame (h : s.SlotsAgree) (fill : s.capu.fill = none) :
    SlotInv (s.openFrame s.lrx.frameCounter) := by
  have allocated (w l : Nat) : SlotInv (s.allocate s.lrx.frameCounter w l) := by
    unfold State.allocate
    split
    · exact SlotsAgree.slotInv h fill
    · next i lowest =>
      obtain ⟨⟨-, latest, -⟩, -⟩ := Capu.lowestFree_eq_some.mp lowest
      refine slotInv_iff.mpr ⟨Capu.agrees.allocated h fill latest rfl, fun j mine => ?_⟩
      cases mine
      simp only [State.setCapu_capu, slots_set, if_pos, State.setCapu_lrx]
  unfold State.openFrame
  dsimp only
  split
  · exact (allocated _ _).setCheck _
  · exact SlotsAgree.slotInv h fill

theorem SlotRun.takeLfs (h : s.SlotRun) : SlotInv s.takeLfs := by
  have same : SameRun s s.cutArriving.numbered := (sameRun_cutArriving s).trans (.of_frame rfl rfl rfl)
  have numbered : s.cutArriving.numbered.SlotsAgree := (slotInv_iff.mp h.2.cutArriving).1
  have reported := SlotsAgree.reportLfs numbered (h.1.of_same same) s.cutArriving.numbered.lrx.frameCounter
  obtain ⟨resolved, fill⟩ := SlotsAgree.resolveCapture reported
  rw [State.takeLfs_eq]
  have opened := SlotsAgree.openFrame resolved fill
  rwa [(State.resolveCapture_frame _).2.2.1, (State.reportLfs_frame _ _).2.2.1] at opened

/-! ### Timers, plan points and commands -/

theorem SlotRun.minExpires (h : s.SlotRun) : SlotInv s.minExpires := by
  unfold State.minExpires
  split
  · exact SlotRun.takeActive (SlotRun.of_same h (.setSsch rfl) rfl rfl)
  · exact h.2

theorem SlotRun.deadlineExpires (h : s.SlotRun) : SlotInv s.deadlineExpires := by
  unfold State.deadlineExpires
  split
  · exact SlotRun.takeActive (SlotRun.of_same h (.setSsch rfl) rfl rfl)
  · exact h.2

theorem SlotRun.freeRunExpires (h : s.SlotRun) : SlotInv s.freeRunExpires := by
  unfold State.freeRunExpires
  split
  · exact SlotRun.takeActive (SlotRun.of_same h (.setSsch rfl) rfl rfl)
  · exact h.2

theorem SlotRun.repeatDue (h : s.SlotRun) (point : Word) (remaining : Nat) : SlotInv (s.repeatDue point remaining) := by
  have told : SlotInv (s.setSsch { s.ssch with planEmpty := s.ssch.planEmpty || remaining == 0 }) :=
    h.2.of_key rfl rfl rfl
  unfold State.repeatDue
  split
  · next state =>
    refine told.startScan ?_ _
    exact h.1.scan_none (by rw [state]; decide)
  · split
    · exact told.of_key rfl rfl rfl
    · exact told
  · exact told
  · exact told

theorem SlotRun.planTimerExpires (h : s.SlotRun) : SlotInv s.planTimerExpires := by
  unfold State.planTimerExpires
  split
  · next point _ =>
    split
    · exact SlotRun.repeatDue (SlotRun.of_same (t := s.setCrp { s.crp with
        plan := s.crp.plan.advance, raised := some point }) h ⟨rfl, rfl, rfl⟩ rfl rfl) point _
    · exact h.2
  · exact h.2

theorem SlotRun.startRun (h : s.SlotRun) (out : s.dctl ≠ .running) : SlotInv s.startRun := by
  have quiet : s.scanKey = none := h.1.scan_none_of_dctl out
  have key : ((s.leaveOff.setDctl .running).setSeng { s.leaveOff.seng with output := .blanking }).scanKey
      = s.scanKey := by
    simp [State.scanKey]
  have left : SlotRun ((s.leaveOff.setDctl .running).setSeng { s.leaveOff.seng with output := .blanking }) := by
    refine ⟨⟨fun _ => rfl, fun some => ?_⟩, h.2.of_key key (by simp) (by simp)⟩
    rw [key, quiet] at some
    cases some
  exact (SlotRun.takeActive left).of_same (sameRun_markOpening _ _) (by simp) (by simp)

theorem SlotInv.commitAtOpening (h : SlotInv s) (marker : Half) {sc : Scan} (found : s.seng.scan = some sc) (k : Kept) :
    SlotInv (s.commitAtOpening marker sc k) := by
  rw [slotInv_iff] at h
  have source : s.scanSource = sc.scanSource := by simp [State.scanSource, found]
  rw [source] at h
  refine SlotInv.startScan (slotInv_iff.mpr ?_) rfl _
  exact ⟨h.1.releaseSource.of_none, h.2.releaseSource⟩

theorem SlotInv.answered (h : SlotInv s) (tag code : Byte) (status : Status) (payload : List Byte) :
    SlotInv (s.addReply tag code status payload) :=
  h.of_same (sameRun_addReply s _ _ _ _) (by simp) (by simp)

theorem SlotInv.serve (h : SlotInv s) : SlotInv s.serve := h.of_same (sameRun_serve s) (by simp) (by simp)

theorem SlotRun.startEffect (h : s.SlotRun) (tag : Byte) : SlotInv (startEffect tag s) := by
  unfold Machine.startEffect
  split
  · exact h.2.answered _ _ _ _
  · next standby =>
    split
    · exact h.2.answered _ _ _ _
    · split
      · exact h.2.answered _ _ _ _
      · have out : s.dctl ≠ .running := by rw [not_not.mp standby]; decide
        exact ((SlotRun.startRun h out).answered _ _ _ _).serve

theorem SlotRun.stopEffect (h : s.SlotRun) (tag : Byte) : SlotInv (stopEffect tag s) := by
  unfold Machine.stopEffect
  split
  · exact h.2.answered _ _ _ _
  · exact (h.2.reachOff.answered _ _ _ _).serve
  · exact (h.2.reachOff.answered _ _ _ _).serve
  · split
    · exact ((SlotRun.forceStop h).answered _ _ _ _).serve
    · exact h.2.of_key rfl rfl rfl

theorem SlotRun.commitEffect (h : s.SlotRun) (tag : Byte) (marker : Half) : SlotInv (commitEffect tag marker s) := by
  unfold Machine.commitEffect
  split
  · exact h.2.answered _ _ _ _
  · split
    · exact h.2.answered _ _ _ _
    · split
      · unfold commitInRun
        split
        · next sc k now =>
          have found := ((State.openingNow_eq_some sc k).mp now).1
          exact ((h.2.commitAtOpening marker found k).answered _ _ _ _).serve
        · exact h.2.of_key rfl rfl rfl
      · exact SlotInv.answered (h.2.of_key (State.scanKey_of_seng (by simp)) (by simp) (by simp)) _ _ _ _

/-- Empty slots and no scan in flight: what a reset leaves. -/
theorem SlotInv.of_reset (capu : s.capu = Capu.initial) : SlotInv s := by
  refine SlotsAgree.slotInv (fun i => ?_) (by rw [capu]; rfl)
  rw [capu]
  fin_cases i <;> simp [Capu.initial, SlotRecord.emptied]

theorem SlotRun.softResetEffect (h : s.SlotRun) (tag : Byte) : SlotInv (softResetEffect tag s) := by
  unfold Machine.softResetEffect
  split
  · exact h.2.answered _ _ _ _
  · split
    · exact h.2.answered _ _ _ _
    · exact .of_reset rfl

theorem SlotRun.resetCadenceEffect (h : s.SlotRun) (tag : Byte) : SlotInv (resetCadenceEffect tag s) := by
  have told : (s.withCrp (s.crp.invalidate false)).SlotRun := SlotRun.of_same h (sameRun_withCrp s _) rfl rfl
  exact ((SlotRun.takeActive told).answered tag 0x20 .ok []).serve

theorem SlotRun.command (h : s.SlotRun) (tag : Byte) (c : Command) : SlotInv (commandEffect tag c s) := by
  have plain (c : Command) (hc : plainCommand c = true) : SlotInv (commandEffect tag c s) := by
    obtain ⟨-, -, lrx, capu, -⟩ := plainCommand_frame s tag c hc
    exact h.2.of_same (sameRun_plainCommand s tag c hc) capu (congrArg _ lrx)
  cases c with
  | start => exact SlotRun.startEffect h tag
  | stop => exact SlotRun.stopEffect h tag
  | softReset => exact SlotRun.softResetEffect h tag
  | resetCadence => exact SlotRun.resetCadenceEffect h tag
  | commit marker => exact SlotRun.commitEffect h tag marker
  | _ => exact plain _ rfl

/-- At the end of LOADING the scheduler is OFF, and no scan is in flight. -/
theorem State.RunInv.standby (h : s.RunInv) (out : s.dctl ≠ .running) (owed : Option Byte) (p : Pru) :
    (((s.setPru p).setDctl .standby).overlayAtLoadingEnd owed).RunInv := by
  refine .of_off (by simpa using h.off_of_dctl out) ?_
  rw [State.scanKey_of_seng (s := s) (by simp)]
  exact h.scan_none_of_dctl out

theorem SlotRun.loadingEnds (h : s.SlotRun) : SlotInv s.loadingEnds := by
  unfold State.loadingEnds
  split
  · next due owed loading =>
    split
    · have out : s.dctl ≠ .running := by rw [loading]; exact Device.noConfusion
      exact (SlotRun.followLiveLock ⟨h.1.standby out owed _,
        h.2.of_key (State.scanKey_of_seng (by simp)) (by simp) (by simp)⟩).serve
    · exact h.2
  · exact h.2
  · exact h.2

end

/-- Every row keeps the slot records in agreement with fill, latest and scan source. -/
theorem rowsLead_slotInv : RowsLead State.SlotRun SlotInv where
  dequeue _ _ h := SlotRun.of_same h (.of_frame rfl rfl rfl) rfl rfl
  clock _ _ h := SlotRun.of_same h (.of_frame rfl rfl rfl) rfl rfl
  liveLock _ _ h := SlotRun.of_same h (.of_frame rfl rfl rfl) rfl rfl
  overlayLock _ _ h := SlotRun.of_same h (.of_frame rfl rfl rfl) rfl rfl
  fprog _ _ h := SlotRun.of_same h (.of_frame rfl rfl rfl) rfl rfl
  fprogFalls _ h := SlotRun.of_same h (.of_frame (by simp) (by simp) (by simp)) (by simp) (by simp)
  idle _ h := h.2
  serve _ h := h.serve
  assertReset _ _ := .of_reset rfl
  releaseReset _ h := h.2.of_key rfl rfl rfl
  loadingEnds _ h := SlotRun.loadingEnds h
  followLiveLock _ _ h := SlotRun.followLiveLock h
  takeLfs _ _ h := SlotRun.takeLfs h
  takeLineStart _ _ h := h.2.takeLineStart
  takeLineEnd _ pixels _ h := h.2.takeLineEnd pixels
  takeBlanking _ _ h := h.2.takeBlanking
  lineOverdue _ _ h := h.2.lineOverdue
  maintenanceDue _ h := h.2.of_key (scanKey_of_seng (by simp)) (by simp) (by simp)
  maintenanceEnds _ h := h.2.of_key (scanKey_of_seng (by simp)) (by simp) (by simp)
  transferEnds s x _ h := (h.2.transferActs x).of_same (sameRun_portFreed _) (by simp) (by simp)
  minExpires _ h := SlotRun.minExpires h
  deadlineExpires _ h := SlotRun.deadlineExpires h
  freeRunExpires _ h := SlotRun.freeRunExpires h
  planTimerExpires _ h := SlotRun.planTimerExpires h
  outputTime _ h := SlotRun.outputTime h
  followOverlayLock _ _ h := h.2.of_key (scanKey_of_seng (by simp)) (by simp) (by simp)
  overlayFrameStart _ _ h := h.2.of_key (scanKey_of_seng (by simp)) (by simp) (by simp)
  overlayLineStart _ _ h := h.2.of_key (scanKey_of_seng (by simp)) (by simp) (by simp)
  overlayLineEnd _ _ _ h := h.2.of_key (scanKey_of_seng (by simp)) (by simp) (by simp)
  packetBad s h := h.2.of_same (sameRun_raise s _) (by simp) (by simp)
  refused _ tag code status _ h := h.2.answered tag code status []
  command _ tag c _ _ h := SlotRun.command h tag c
  fuseProgramEnd _ h := h.2.of_key (scanKey_of_seng (by simp)) (by simp) (by simp)
  fuseLockEnd _ h := h.2.of_key (scanKey_of_seng (by simp)) (by simp) (by simp)

/-- Settles O37: the slot invariant goes through every operation on the slot records, and a scan starts only with no scan
in flight, so that its source may be any slot. -/
theorem slotsKept : Obligations.SlotsKept := by
  intro s t sched slots taken
  exact rowsLead_slotInv.step taken ⟨sched.runInv, slots⟩

end Sys2Proof.Machine

namespace Sys2Proof.Machine

open State

/-! ### The buffers along the rows -/

section
variable {s t : State}

/-- Buffers that hold no more than before stay within their sizes. -/
theorem BufferInv.of_le (h : BufferInv s) (capu : t.capu.buffer.length ≤ s.capu.buffer.length)
    (ocap : t.ocap.buffer.length ≤ s.ocap.buffer.length)
    (ahead : t.seng.readAhead.length ≤ s.seng.readAhead.length)
    (lane : t.rct.lane.length ≤ s.rct.lane.length) (overtaken : t.ssch.overtaken ≤ s.ssch.overtaken) :
    BufferInv t :=
  ⟨capu.trans h.1, ocap.trans h.2.1, ahead.trans h.2.2.1, lane.trans h.2.2.2.1, overtaken.trans h.2.2.2.2⟩

theorem BufferInv.of_frame (h : BufferInv s) (capu : t.capu.buffer = s.capu.buffer)
    (ocap : t.ocap.buffer = s.ocap.buffer) (ahead : t.seng.readAhead = s.seng.readAhead)
    (lane : t.rct.lane = s.rct.lane) (overtaken : t.ssch.overtaken = s.ssch.overtaken) : BufferInv t := by
  unfold BufferInv
  rwa [capu, ocap, ahead, lane, overtaken]

theorem BufferInv.raise (h : BufferInv s) (e : EventSource) : BufferInv (s.raise e) :=
  h.of_frame (by simp) (by simp) (by simp) (by simp) (by simp)

theorem BufferInv.drawn (h : BufferInv s) : BufferInv s.drawn :=
  h.of_frame (by simp) (by simp) (by simp) (by simp) (by simp)

theorem BufferInv.serve (h : BufferInv s) : BufferInv s.serve :=
  h.of_frame (by simp) (by simp) (by simp) (by simp) (by simp)

theorem BufferInv.addReply (h : BufferInv s) (tag code : Byte) (status : Status) (payload : List Byte) :
    BufferInv (s.addReply tag code status payload) :=
  h.of_frame (by simp) (by simp) (by simp) rfl (by simp)

theorem BufferInv.withCrp (h : BufferInv s) (c : Crp) : BufferInv (s.withCrp c) := h.of_frame rfl rfl rfl rfl rfl

theorem BufferInv.cadenceLfs (h : BufferInv s) (frame time : Word) : BufferInv (s.cadenceLfs frame time) := by
  unfold State.cadenceLfs
  dsimp only
  split
  · exact (h.withCrp _).raise _
  · exact h.withCrp _

theorem BufferInv.switchToPatching (h : BufferInv s) : BufferInv s.switchToPatching := by
  unfold State.switchToPatching
  split
  · exact h
  · split
    · exact h
    · exact h.of_le le_rfl le_rfl (Nat.zero_le _) le_rfl le_rfl

theorem BufferInv.engineMalformed (h : BufferInv s) (frame : Word) (line : Nat) :
    BufferInv (s.engineMalformed frame line) := by
  unfold State.engineMalformed
  split
  · exact h
  · split
    · exact h.switchToPatching
    · exact h

theorem BufferInv.engineAbandoned (h : BufferInv s) (i : SlotId) : BufferInv (s.engineAbandoned i) := by
  unfold State.engineAbandoned
  split
  · exact h
  · split
    · exact h.switchToPatching
    · exact h

theorem BufferInv.clearPending (h : BufferInv s) (frame : Word) : BufferInv (s.clearPending frame) := by
  unfold State.clearPending
  split
  · exact h
  · split
    · exact h.of_frame rfl rfl rfl rfl rfl
    · exact h

/-- An abandonment leaves the head of the buffer at most, and of the rest no more than there was (R17). -/
theorem Capu.withoutSlot_length_le (c : Capu) (i : SlotId) (inProgress : Bool) :
    (c.withoutSlot i inProgress).length ≤ c.buffer.length := by
  unfold Capu.withoutSlot
  split
  · calc (c.buffer.take 1 ++ (c.buffer.drop 1).filter (·.slot ≠ i)).length
        ≤ (c.buffer.take 1).length + (c.buffer.drop 1).length := by
          rw [List.length_append]
          exact Nat.add_le_add_left (List.length_filter_le _ _) _
      _ = c.buffer.length := by rw [← List.length_append, List.take_append_drop]
  · exact List.length_filter_le _ _

theorem BufferInv.abandonCapture (h : BufferInv s) (i : SlotId) : BufferInv (s.abandonCapture i) := by
  have undone : BufferInv (s.undoCapture i) :=
    h.of_le (s.capu.withoutSlot_length_le i _) le_rfl le_rfl le_rfl le_rfl
  unfold State.abandonCapture
  dsimp only
  split
  · exact (undone.clearPending _).engineAbandoned i
  · exact undone.engineAbandoned i

theorem BufferInv.abandonFrame (h : BufferInv s) (frame : Word) : BufferInv (s.abandonFrame frame) := by
  unfold State.abandonFrame
  split
  · exact h.abandonCapture _
  · exact h

theorem BufferInv.malformed (h : BufferInv s) (frame : Word) (k : Nat) : BufferInv (s.malformed frame k) := by
  have closed : BufferInv s.closeCheck := h.of_frame rfl rfl rfl rfl rfl
  exact (((closed.raise .malformedFrame).abandonFrame frame).clearPending frame).engineMalformed frame k

theorem BufferInv.cutArriving (h : BufferInv s) : BufferInv s.cutArriving := by
  unfold State.cutArriving
  split
  · exact h.malformed _ _
  · exact h
  · exact h

theorem BufferInv.captureLine (h : BufferInv s) (frame : Word) (line : Nat) (pixels : List GamePixel) :
    BufferInv (s.captureLine frame line pixels) := by
  unfold State.captureLine
  split
  · exact h
  · split
    · next room =>
      obtain ⟨-, rest⟩ := h
      exact ⟨by simpa using room, rest⟩
    · exact (h.abandonCapture _).raise _

theorem BufferInv.engineLine (h : BufferInv s) (frame : Word) (line start : Nat) (pixels : List GamePixel) :
    BufferInv (s.engineLine frame line start pixels) := by
  unfold State.engineLine
  split
  · exact h
  · split
    · exact h.of_frame rfl rfl rfl rfl rfl
    · exact h

theorem Capu.complete_buffer (c : Capu) (i : SlotId) (source : Option SlotId) :
    (c.complete i source).buffer = c.buffer := by
  unfold Capu.complete Capu.releaseOld Capu.release
  split
  · rfl
  · split <;> rfl

theorem Capu.releaseSource_buffer (c : Capu) (source : Option SlotId) : (c.releaseSource source).buffer = c.buffer := by
  unfold Capu.releaseSource Capu.release
  split
  · rfl
  · split <;> rfl

theorem Capu.writeEnded_buffer (c : Capu) : c.writeEnded.buffer = c.buffer.tail := by
  unfold Capu.writeEnded
  split
  · next empty => rw [empty]; rfl
  · next e rest found =>
    dsimp only
    split <;> rw [found] <;> rfl

theorem BufferInv.countLine (h : BufferInv s) (f : FrameCheck) : BufferInv (s.countLine f) := by
  unfold State.countLine State.captureFrameEnd
  dsimp only
  split
  · split
    · exact h.of_frame (Capu.complete_buffer _ _ _) rfl rfl rfl rfl
    · exact h.of_frame rfl rfl rfl rfl rfl
  · exact h.of_frame rfl rfl rfl rfl rfl

theorem BufferInv.takeLineEnd (h : BufferInv s) (pixels : List GamePixel) : BufferInv (s.takeLineEnd pixels) := by
  unfold State.takeLineEnd
  split
  · exact h
  · exact h
  · split
    · split
      · exact ((h.captureLine _ _ _).engineLine _ _ _ _).countLine _
      · exact h.malformed _ _
    · exact h

theorem BufferInv.takeLineStart (h : BufferInv s) : BufferInv s.takeLineStart := by
  unfold State.takeLineStart State.arrivingLineStart
  split
  · exact h
  · split
    · exact h.malformed _ _
    · split
      · exact h.of_frame rfl rfl rfl rfl rfl
      · exact h.malformed _ _
  · exact h.malformed _ _

theorem BufferInv.takeBlanking (h : BufferInv s) : BufferInv s.takeBlanking := by
  unfold State.takeBlanking
  split
  · exact h
  · exact h.malformed _ _
  · exact h.of_frame rfl rfl rfl rfl rfl

theorem BufferInv.lineOverdue (h : BufferInv s) : BufferInv s.lineOverdue := by
  unfold State.lineOverdue
  split
  · exact h
  · exact h
  · split
    · exact h.malformed _ _
    · exact h

/-! ### Scan starts and scan ends -/

theorem Ocap.atScanStart_buffer (o : Ocap) : o.atScanStart.buffer = o.buffer := by
  unfold Ocap.atScanStart
  split <;> rfl

/-- A scan start empties the read-ahead buffer, and the overtaken count is 0 or stays (R72, R90). -/
theorem BufferInv.startScan (h : BufferInv s) (r : StartReason) : BufferInv (s.startScan r) := by
  have cadence (u : State) (a b : Bool) : (u.cadenceAtStart r a b).ssch.overtaken = u.ssch.overtaken := by
    have format (v : State) (frame : Option Word) :
        (v.reportFormatChange frame).ssch.overtaken = v.ssch.overtaken := rfl
    have lfs (v : State) (frame time : Word) : (v.cadenceLfs frame time).ssch.overtaken = v.ssch.overtaken := by
      unfold State.cadenceLfs; dsimp only; split <;> simp [State.withCrp]
    have live (frame : Word) (v : State) : (v.liveReports frame a).ssch.overtaken = v.ssch.overtaken := by
      unfold State.liveReports
      split
      · split <;> simp [format, lfs]
      · exact lfs _ _ _
    have other (v : State) : (v.reportWithoutFrame a).ssch.overtaken = v.ssch.overtaken := by
      unfold State.reportWithoutFrame; split <;> simp [format]
    have fresh (v : State) (time : Word) : (v.freshReport time).ssch.overtaken = v.ssch.overtaken := by
      unfold State.freshReport; dsimp only; split <;> simp [State.withCrp]
    unfold State.cadenceAtStart
    split
    · rw [fresh, live]
    · rw [fresh, other]
    · dsimp only
      split
      · exact other u
      · exact other u
    · exact other u
    · exact other u
  refine h.of_le (by simp) ?_ (by simp [State.startScan, State.engineAtStart]) (by simp) ?_
  · simp [State.startScan, State.imageAtStart, Ocap.atScanStart_buffer]
  · simp only [State.startScan, State.engineAtStart_frame, State.imageAtStart_frame, State.schedulerAtStart,
      State.setSsch_ssch, cadence]
    split
    · exact Nat.zero_le _
    · simp

theorem BufferInv.takeOpen (h : BufferInv s) : BufferInv s.takeOpen := by
  unfold State.takeOpen
  split <;> split
  · exact h.startScan _
  · exact h
  · exact h.startScan _
  · exact h

theorem BufferInv.takeActive (h : BufferInv s) : BufferInv s.takeActive := by
  unfold State.takeActive State.takeMin
  split
  · split
    · split
      · exact h.startScan _
      · exact BufferInv.takeOpen (h.of_frame rfl rfl rfl rfl rfl)
    · exact h
  · exact h.takeOpen
  · exact h
  · exact h

theorem BufferInv.engineScanEnd (h : BufferInv s) (cut : Bool) (sc : Scan) : BufferInv (s.engineScanEnd cut sc) := by
  refine h.of_le ?_ (by simp) (by simp [State.engineScanEnd, State.clearEngine]) (by simp) (by simp)
  have capu : (s.engineScanEnd cut sc).capu = s.capu.releaseSource sc.scanSource := by simp [State.engineScanEnd]
  rw [capu, Capu.releaseSource_buffer]

theorem BufferInv.reachOff (h : BufferInv s) : BufferInv s.reachOff := by
  rw [State.reachOff_eq]
  unfold State.offReached
  dsimp only
  split <;> exact h.of_le le_rfl le_rfl le_rfl le_rfl (Nat.zero_le _)

theorem BufferInv.afterScanEnd (h : BufferInv s) : BufferInv s.afterScanEnd := by
  unfold State.afterScanEnd
  split
  · exact h.reachOff
  · exact BufferInv.takeActive (h.of_frame rfl rfl rfl rfl rfl)

theorem BufferInv.emitLine (h : BufferInv s) (sc : Scan) (made : Produced) (coupled : Bool) :
    BufferInv (s.emitLine sc made coupled) := by
  rw [State.emitLine_eq sc made.pixels made.patched coupled s]
  exact h.of_le le_rfl le_rfl (List.length_filter_le _ _) le_rfl le_rfl

theorem BufferInv.outputLine (h : BufferInv s) (sc : Scan) : BufferInv (s.outputLine sc) := by
  unfold State.outputLine
  split
  · exact h.emitLine _ _ _
  · split
    · dsimp only
      split
      · exact h.switchToPatching.serve.emitLine _ _ _
      · exact h.switchToPatching.serve
    · exact h.emitLine _ _ _

theorem BufferInv.outputTime (h : BufferInv s) : BufferInv s.outputTime := by
  unfold State.outputTime
  split
  · exact h
  · split
    · exact h
    · split
      · split
        · exact h.outputLine _
        · exact (h.engineScanEnd _ _).afterScanEnd
      · exact h

theorem BufferInv.forceStop (h : BufferInv s) : BufferInv s.forceStop := by
  unfold State.forceStop
  split
  · split
    · split
      · exact (h.drawn.engineScanEnd _ _).afterScanEnd
      · exact (h.drawn.engineScanEnd _ _).afterScanEnd
    · exact (h.engineScanEnd _ _).afterScanEnd
  · exact h

/-! ### The live link and frame starts -/

theorem BufferInv.followLiveLock (h : BufferInv s) : BufferInv s.followLiveLock := by
  unfold State.followLiveLock
  split
  · have locked : BufferInv (s.setLrx { s.lrx with link := .locked }) := h.of_frame rfl rfl rfl rfl rfl
    exact ((locked.raise .liveLock).withCrp _).takeActive
  · unfold State.lossTaken
    have cut := h.cutArriving
    revert cut
    generalize s.cutArriving = u
    intro cut
    have lost : BufferInv (u.setLrx { u.lrx with link := .down, check := .closed }) :=
      cut.of_frame rfl rfl rfl rfl rfl
    exact ((lost.raise .liveLoss).withCrp _).takeActive
  · exact h
  · exact h

/-- The overtaken count stops at 255 (R74). -/
theorem BufferInv.pend (h : BufferInv s) (frame : Word) : BufferInv (s.pend frame) := by
  obtain ⟨capu, ocap, ahead, lane, overtaken⟩ := h
  refine ⟨capu, ocap, ahead, lane, ?_⟩
  unfold State.pend pendFrame
  simp only [State.setSsch_ssch]
  split
  · exact Nat.min_le_right _ _
  · exact overtaken

theorem BufferInv.cadenceInScan (h : BufferInv s) (frame : Word) : BufferInv (s.cadenceInScan frame) := by
  have before (sc : Scan) : BufferInv (s.drawn.lfsBeforeStart sc frame) := by
    unfold State.lfsBeforeStart
    dsimp only
    split
    · exact BufferInv.raise (h.of_frame rfl rfl rfl rfl rfl) .stall
    · exact h.of_frame rfl rfl rfl rfl rfl
  unfold State.cadenceInScan
  split
  · split
    · exact before _
    · exact h.drawn.cadenceLfs _ _
  · exact h.cadenceLfs _ _

theorem BufferInv.reportLfs (h : BufferInv s) (frame : Word) : BufferInv (s.reportLfs frame) := by
  unfold State.reportLfs
  split
  · exact h.startScan _
  · exact (h.cadenceLfs _ _).pend _
  · exact (h.cadenceInScan _).pend _
  · exact h.cadenceLfs _ _

theorem BufferInv.resolveCapture (h : BufferInv s) : BufferInv s.resolveCapture := by
  unfold State.resolveCapture
  split
  · exact h.abandonCapture _
  · exact h

theorem BufferInv.openFrame (h : BufferInv s) (frame : Word) : BufferInv (s.openFrame frame) := by
  have allocated (w l : Nat) : BufferInv (s.allocate frame w l) := by
    unfold State.allocate
    split
    · exact h
    · exact h.of_frame rfl rfl rfl rfl rfl
  unfold State.openFrame
  dsimp only
  split
  · exact (allocated _ _).of_frame rfl rfl rfl rfl rfl
  · exact h

theorem BufferInv.takeLfs (h : BufferInv s) : BufferInv s.takeLfs := by
  have numbered : BufferInv s.cutArriving.numbered := h.cutArriving.of_frame rfl rfl rfl rfl rfl
  rw [State.takeLfs_eq]
  exact ((numbered.reportLfs _).resolveCapture).openFrame _

/-! ### The memory port and the overlay -/

theorem BufferInv.keepSlotLine (h : BufferInv s) (i : SlotId) (line : Nat) : BufferInv (s.keepSlotLine i line) := by
  unfold State.keepSlotLine
  split
  · exact h
  · split
    · next room =>
      obtain ⟨capu, ocap, -, rest⟩ := h
      exact ⟨capu, ocap, by simpa using room.2.2, rest⟩
    · exact h

theorem Ocap.writeEnded_buffer (o : Ocap) : o.writeEnded.buffer = o.buffer.tail := by
  unfold Ocap.writeEnded
  split
  · next empty => rw [empty]; rfl
  · next e rest found => split <;> rw [found] <;> rfl

theorem BufferInv.transferActs (h : BufferInv s) (x : Transfer) : BufferInv (s.transferActs x) := by
  cases x with
  | captureWrite i line =>
    unfold State.transferActs State.captureWriteEnds
    dsimp only
    split
    · exact h.of_le (by simp [Capu.writeEnded_buffer]) le_rfl le_rfl le_rfl le_rfl
    · exact h
  | scanRead i line wanted =>
    cases wanted
    · exact h
    · exact h.keepSlotLine i line
  | overlayRead p line wanted =>
    exact h.of_frame (by cases wanted <;> simp [State.transferActs]) (by cases wanted <;> simp [State.transferActs])
      (by cases wanted <;> simp [State.transferActs]) (by simp) (by simp)
  | overlayWrite e buffered =>
    unfold State.transferActs State.overlayWriteEnds
    dsimp only
    split
    · exact h.of_le le_rfl (by simp [Ocap.writeEnded_buffer]) le_rfl le_rfl le_rfl
    · exact h.of_frame rfl rfl rfl rfl rfl

theorem BufferInv.discardOverlay (h : BufferInv s) (begun : Bool) (phase : OverlayPhase) :
    BufferInv (s.discardOverlay begun phase) := by
  have dropped : BufferInv s.dropBackFrame := h.of_le le_rfl (List.length_filter_le _ _) le_rfl le_rfl le_rfl
  unfold State.discardOverlay
  refine BufferInv.raise ?_ _
  cases begun
  · exact h.of_frame rfl rfl rfl rfl rfl
  · exact dropped.of_frame rfl rfl rfl rfl rfl

theorem BufferInv.overlayLineEnd (h : BufferInv s) (pixels : List OverlayPixel) :
    BufferInv (s.overlayLineEnd pixels) := by
  have passes : BufferInv (s.overlayLinePasses pixels) := by
    unfold State.overlayLinePasses
    split
    · have seen : BufferInv (s.setOcap { s.ocap with linesSeen := s.ocap.linesSeen + 1 }) :=
        h.of_frame rfl rfl rfl rfl rfl
      exact seen.discardOverlay _ _
    · next room =>
      obtain ⟨capu, -, rest⟩ := h
      exact ⟨capu, by simp; omega, rest⟩
  unfold State.overlayLineEnd
  split
  · exact h
  · split
    · exact h
    · exact h
    · exact h
    · split
      · split
        · exact passes
        · exact h.discardOverlay _ _
      · exact h

theorem BufferInv.overlayFrameStart (h : BufferInv s) : BufferInv s.overlayFrameStart := by
  unfold State.overlayFrameStart
  split
  · exact h
  · split
    · exact h.of_frame rfl rfl rfl rfl rfl
    · exact h.discardOverlay _ _
    · exact h.discardOverlay _ _
    · exact h.of_frame rfl rfl rfl rfl rfl

/-- A window has no more packets than places: the replies that fit with the notice, and what room they leave (R159,
R160). At most sixteen replies wait, so that the notice always has its place. -/
theorem State.windowPackets_length_le (places : PlacesInv s) : s.windowPackets.length ≤ 24 := by
  have queued : s.rct.queue.length ≤ 16 := le_trans (Nat.le_add_right _ _) places
  have replies : s.windowReplies.length ≤ 16 := by
    simp only [State.windowReplies, List.length_map, List.length_take]
    omega
  have notice : s.windowNotice.length ≤ 1 := by
    unfold State.windowNotice
    split <;> simp
  have stats : (s.zsu.packets s.roomForStats).length = s.zsu.packetsFor s.roomForStats := by
    unfold Zsu.packets Zsu.packetsFor
    split <;> simp [*]
  have room : s.zsu.packetsFor s.roomForStats ≤ s.roomForStats := by
    unfold Zsu.packetsFor
    split
    · exact Nat.zero_le _
    · exact Nat.min_le_left _ _
  have records : (s.frl.taken s.roomForRecords).length ≤ s.roomForRecords := by
    unfold Frl.taken
    exact List.length_take_le _ _
  simp only [State.windowPackets, List.length_append, List.length_map, stats]
  simp only [State.roomForRecords, State.roomForStats, Config.windowPlaces] at *
  omega

theorem BufferInv.overlayLineStart (h : BufferInv s) (places : PlacesInv s) : BufferInv s.overlayLineStart := by
  unfold State.overlayLineStart
  split
  · exact h
  · split
    · exact h
    · have lane : s.beginBackFrame.openWindow.rct.lane.length ≤ 24 :=
        State.windowPackets_length_le (s := s.beginBackFrame) places
      obtain ⟨capu, ocap, ahead, -, overtaken⟩ := h
      exact ⟨capu, by simpa [State.openWindow, State.beginBackFrame] using ocap, ahead, lane, overtaken⟩
    · split
      · exact h.discardOverlay _ _
      · exact h.of_frame rfl rfl rfl rfl rfl
    · exact h.discardOverlay _ _

theorem BufferInv.returnLost (h : BufferInv s) (inProgress : Bool) : BufferInv (s.returnLost inProgress) := by
  unfold State.returnLost
  split
  · exact h.of_le le_rfl le_rfl le_rfl (by simp) le_rfl
  · exact h.of_frame rfl rfl rfl rfl rfl

theorem BufferInv.followOverlayLock (h : BufferInv s) : BufferInv s.followOverlayLock := by
  have down {u : State} (hu : BufferInv u) :
      BufferInv (u.setOcap { u.ocap with link := .down, phase := .closed, lineOpen := false }) :=
    hu.of_frame rfl rfl rfl rfl rfl
  unfold State.followOverlayLock
  split
  · exact h.of_frame rfl rfl rfl rfl rfl
  · unfold State.overlayLossTaken
    refine (down ?_).returnLost _
    split
    · exact h
    · exact h.discardOverlay _ _
    · exact h.discardOverlay _ _
    · split
      · exact h.discardOverlay _ _
      · exact h
  · exact h
  · exact h

end

end Sys2Proof.Machine

namespace Sys2Proof.Machine

open State

/-! ### The reply places along the rows -/

/-- The replies a fuse operation owes (R155). -/
def Engine.owes : Engine → Nat
  | .idle => 0
  | .programming _ _ _ _ => 1
  | .locking _ _ => 1

/-- The replies a SOFT_RESET owes (R155). -/
def Device.owes : Device → Nat
  | .loading _ (some _) => 1
  | .loading _ none => 0
  | .standby => 0
  | .running => 0

section
variable {s t : State}

theorem State.placesInUse_eq (s : State) :
    s.placesInUse = s.rct.queue.length + (s.lfb.engine.owes + s.dctl.owes) := by
  unfold State.placesInUse State.repliesOwed Engine.owes Device.owes
  rfl

theorem Engine.owes_of_isIdle {e : Engine} (h : e.isIdle = true) : e.owes = 0 := by
  cases e with
  | idle => rfl
  | programming => cases h
  | locking => cases h

/-- With the queue no longer, the fuse engine the same and the device where it was or out of LOADING, no more places are
in use. -/
theorem PlacesInv.of_le (h : PlacesInv s) (queue : t.rct.queue.length ≤ s.rct.queue.length)
    (engine : t.lfb.engine = s.lfb.engine) (dctl : t.dctl.owes ≤ s.dctl.owes) : PlacesInv t := by
  unfold PlacesInv at h ⊢
  rw [State.placesInUse_eq] at h ⊢
  rw [engine]
  omega

theorem PlacesInv.of_frame (h : PlacesInv s) (rct : t.rct = s.rct) (lfb : t.lfb = s.lfb) (dctl : t.dctl = s.dctl) :
    PlacesInv t := h.of_le (by rw [rct]) (by rw [lfb]) (by rw [dctl])

/-! ### OFF, scan ends and the output time -/

/-- A scan end leaves the device state, or the scheduler reaches OFF and it is STANDBY. -/
theorem State.afterScanEnd_owes (s : State) : s.afterScanEnd.dctl.owes ≤ s.dctl.owes := by
  unfold State.afterScanEnd
  split
  · exact Nat.zero_le _
  · simp

theorem PlacesInv.outputTime (h : PlacesInv s) : PlacesInv s.outputTime := by
  refine h.of_le (by simp) (by simp) ?_
  unfold State.outputTime
  split
  · exact le_rfl
  · split
    · exact le_rfl
    · split
      · split
        · simp
        · exact (State.afterScanEnd_owes _).trans (by simp)
      · exact le_rfl

theorem State.forceStop_owes (s : State) : s.forceStop.dctl.owes ≤ s.dctl.owes := by
  unfold State.forceStop
  split
  · split
    · split
      · exact (State.afterScanEnd_owes _).trans (by simp)
      · exact (State.afterScanEnd_owes _).trans (by simp)
    · exact (State.afterScanEnd_owes _).trans (by simp)
  · exact le_rfl

/-! ### Fuse operations -/

/-- A fuse operation that ends pays the reply it owed: its place is the reply's. -/
theorem PlacesInv.fuseReplied (h : PlacesInv s) (owing : s.lfb.engine.owes = 1)
    (queue : t.rct.queue.length ≤ s.rct.queue.length + 1) (engine : t.lfb.engine = .idle)
    (dctl : t.dctl = s.dctl) : PlacesInv t := by
  unfold PlacesInv at h ⊢
  rw [State.placesInUse_eq] at h ⊢
  have idle : t.lfb.engine.owes = 0 := by rw [engine]; rfl
  rw [dctl, idle]
  omega

theorem State.addReply_queue_length (s : State) (tag code : Byte) (status : Status) (payload : List Byte) :
    (s.addReply tag code status payload).rct.queue.length = s.rct.queue.length + 1 := by
  simp [State.addReply]

theorem PlacesInv.fuseProgramEnd (h : PlacesInv s) : PlacesInv s.fuseProgramEnd := by
  unfold State.fuseProgramEnd
  split
  · next busy =>
    split
    · exact h.fuseReplied (by rw [busy]; rfl) (by simp [State.programEnds, State.addReply_queue_length]) rfl rfl
    · exact h
  · exact h
  · exact h

theorem PlacesInv.fuseLockEnd (h : PlacesInv s) : PlacesInv s.fuseLockEnd := by
  unfold State.fuseLockEnd
  split
  · next busy =>
    split
    · exact h.fuseReplied (by rw [busy]; rfl) (by simp [State.lockEnds, State.addReply_queue_length]) rfl
        (by simp [State.lockEnds])
    · exact h
  · exact h
  · exact h

theorem PlacesInv.fprogFalls (h : PlacesInv s) : PlacesInv s.fprogFalls := by
  unfold State.fprogFalls
  split
  · next busy =>
    exact h.fuseReplied (by rw [busy]; rfl) (by simp [State.programInterrupted, State.addReply_queue_length]) rfl rfl
  · next busy =>
    exact h.fuseReplied (by rw [busy]; rfl) (by simp [State.lockInterrupted, State.addReply_queue_length]) rfl rfl
  · exact h

/-! ### The overlay link and the end of LOADING -/

/-- A window takes replies out of the queue; nothing else of an overlay line start reaches it (R160). -/
theorem State.overlayLineStart_queue_length (s : State) : s.overlayLineStart.rct.queue.length ≤ s.rct.queue.length := by
  unfold State.overlayLineStart
  split
  · exact le_rfl
  · split
    · exact le_rfl
    · simp [State.openWindow]
    · split <;> simp
    · simp

theorem State.followOverlayLock_queue_length (s : State) :
    s.followOverlayLock.rct.queue.length ≤ s.rct.queue.length := by
  unfold State.followOverlayLock
  split
  · simp
  · unfold State.overlayLossTaken State.returnLost
    dsimp only
    split <;> simp
  · exact le_rfl
  · exact le_rfl

theorem State.payOwed_queue_length (s : State) (owed : Option Byte) :
    (s.payOwed owed).rct.queue.length = s.rct.queue.length + owed.toList.length := by
  cases owed <;> simp [State.payOwed, State.addReply]

theorem State.overlayAtLoadingEnd_queue_length (s : State) (owed : Option Byte) :
    (s.overlayAtLoadingEnd owed).rct.queue.length ≤ s.rct.queue.length + owed.toList.length := by
  unfold State.overlayAtLoadingEnd
  split
  · split
    · rw [State.payOwed_queue_length]
      exact Nat.add_le_add_right ((State.followOverlayLock_queue_length _).trans (by simp)) _
    · exact (State.followOverlayLock_queue_length _).trans (by rw [State.payOwed_queue_length]; simp)
  · exact (State.followOverlayLock_queue_length _).trans (by rw [State.payOwed_queue_length])

theorem PlacesInv.loadingEnds (h : PlacesInv s) : PlacesInv s.loadingEnds := by
  unfold State.loadingEnds
  split
  · next due owed loading =>
    split
    · unfold PlacesInv at h ⊢
      rw [State.placesInUse_eq] at h ⊢
      have paid : s.dctl.owes = owed.toList.length := by
        rw [loading]; cases owed <;> rfl
      have queue : (s.endLoading owed).rct.queue.length ≤ s.rct.queue.length + owed.toList.length := by
        simp only [State.endLoading, State.serve_frame, State.followLiveLock_frame]
        exact State.overlayAtLoadingEnd_queue_length _ owed
      have lfb : (s.endLoading owed).lfb = s.lfb := by simp [State.endLoading]
      have standby : (s.endLoading owed).dctl.owes = 0 := by simp [State.endLoading]; rfl
      rw [lfb, standby]
      omega
    · exact h
  · exact h
  · exact h

/-! ### Commands -/

/-- A command that answers at once adds a reply to a free place. -/
theorem PlacesInv.of_reply (room : s.placesInUse < 16) (queue : t.rct.queue.length ≤ s.rct.queue.length + 1)
    (engine : t.lfb.engine = s.lfb.engine) (dctl : t.dctl.owes ≤ s.dctl.owes) : PlacesInv t := by
  unfold PlacesInv
  rw [State.placesInUse_eq] at room ⊢
  rw [engine]
  omega

/-- A command whose operation runs on owes a reply to a free place. -/
theorem PlacesInv.of_owed (room : s.placesInUse < 16) (rct : t.rct = s.rct) (idle : s.lfb.engine.isIdle = true)
    (dctl : t.dctl = s.dctl) : PlacesInv t := by
  unfold PlacesInv
  rw [State.placesInUse_eq] at room ⊢
  have owes : t.lfb.engine.owes ≤ 1 := by cases t.lfb.engine <;> simp [Engine.owes]
  rw [Engine.owes_of_isIdle idle] at room
  rw [rct, dctl]
  omega

/-- A command that answers at once and reaches no fuse engine. -/
def answersAtOnce : Command → Bool
  | .softReset => false
  | .fuseProgram _ _ => false
  | .fuseLock => false
  | _ => true

/-- One reply joins the queue, and the rest of RCT stays. -/
def Rct.answers (before after : Rct) : Prop := ∃ r : Reply, after = { before with queue := before.queue ++ [r] }

theorem State.addReply_answers (s : State) (tag code : Byte) (status : Status) (payload : List Byte) {r : Rct}
    (same : s.rct = r) : r.answers (s.addReply tag code status payload).rct := ⟨_, by rw [← same]; rfl⟩

theorem State.answerProfile_answers (s : State) (tag : Byte) (r : ProfileRequest) (d : Except Status Profile) :
    s.rct.answers (s.answerProfile tag r d).rct := by
  unfold State.answerProfile
  (repeat' split) <;> exact State.addReply_answers _ _ _ _ _ (by simp)

/-- Every answer of these commands is one reply, whatever else the command does. -/
theorem commandEffect_answers (s : State) (tag : Byte) (c : Command) (h : answersAtOnce c = true) :
    s.rct.answers (commandEffect tag c s).rct := by
  cases c with
  | softReset => cases h
  | fuseProgram word value => cases h
  | fuseLock => cases h
  | writeProfile r => exact State.answerProfile_answers _ tag r _
  | start | stop | resetCadence =>
    simp only [commandEffect, startEffect, stopEffect, resetCadenceEffect]
    (repeat' split) <;> (try simp only [State.serve_frame]) <;> exact State.addReply_answers _ _ _ _ _ (by simp)
  | commit marker =>
    simp only [commandEffect, commitEffect, commitInRun]
    (repeat' split) <;> (try simp only [State.serve_frame]) <;> exact State.addReply_answers _ _ _ _ _ (by simp)
  | _ =>
    simp only [commandEffect, statusEffect, readProfileEffect, writeTonePointsEffect, readTonePointsEffect,
      writeRegionEffect, readRegionEffect, setFillEffect, selectProfileEffect, discardShadowEffect,
      statsConfigEffect, statsStartEffect, statsStopEffect, recordStreamEffect, fetchRecordEffect,
      eventConfigEffect, setThresholdsEffect, clearEventsEffect, readEventsEffect, fuseReadEffect]
    (repeat' split) <;> exact State.addReply_answers _ _ _ _ _ (by simp)

theorem Rct.answers.queue_length {a b : Rct} (h : a.answers b) : b.queue.length = a.queue.length + 1 := by
  obtain ⟨r, rfl⟩ := h
  simp

theorem Rct.answers.lane {a b : Rct} (h : a.answers b) : b.lane = a.lane := by
  obtain ⟨r, rfl⟩ := h
  rfl

/-- These commands leave the fuse engine, and leave LOADING to its end. -/
theorem commandEffect_owes (s : State) (tag : Byte) (c : Command) (h : answersAtOnce c = true) :
    (commandEffect tag c s).lfb = s.lfb ∧ (commandEffect tag c s).dctl.owes ≤ s.dctl.owes := by
  cases c with
  | softReset => cases h
  | fuseProgram word value => cases h
  | fuseLock => cases h
  | start =>
    refine ⟨by simp [commandEffect], ?_⟩
    simp only [commandEffect, startEffect]
    have running : s.startRun.dctl = .running := by simp [State.startRun]
    (repeat' split) <;> simp [running, Device.owes]
  | stop =>
    refine ⟨by simp [commandEffect], ?_⟩
    have off : s.reachOff.dctl.owes = 0 := rfl
    have forced := State.forceStop_owes s
    simp only [commandEffect, stopEffect]
    (repeat' split) <;> simp [off, forced]
  | commit marker => simp [commandEffect]
  | resetCadence => simp [commandEffect]
  | _ => simp [commandEffect]

/-- A refusal or an answer joins a free place. -/
theorem PlacesInv.answered (room : s.placesInUse < 16) (tag code : Byte) (status : Status) (payload : List Byte) :
    PlacesInv (s.addReply tag code status payload) :=
  .of_reply room (State.addReply_queue_length _ _ _ _ _).le rfl le_rfl

/-- An accepted SOFT_RESET leaves an empty queue, an idle fuse engine and the one reply it owes. -/
theorem PlacesInv.softReset (room : s.placesInUse < 16) (tag : Byte) : PlacesInv (softResetEffect tag s) := by
  unfold softResetEffect
  split
  · exact .answered room _ _ _ _
  · split
    · exact .answered room _ _ _ _
    · next busy =>
      unfold PlacesInv
      rw [State.placesInUse_eq]
      have idle : s.lfb.engine.owes = 0 := Engine.owes_of_isIdle (by simpa using busy)
      simp [State.readFuses, idle, Device.owes, State.resetBlocks, Rct.initial]

theorem PlacesInv.fuseProgram (room : s.placesInUse < 16) (tag word : Byte) (value : Half) :
    PlacesInv (fuseProgramEffect tag word value s) := by
  unfold fuseProgramEffect
  split
  · exact .answered room _ _ _ _
  · split
    · exact .answered room _ _ _ _
    · next busy =>
      split
      · exact .answered room _ _ _ _
      · split
        · exact .answered room _ _ _ _
        · exact .of_owed room rfl (by simpa using busy) rfl

theorem PlacesInv.fuseLock (room : s.placesInUse < 16) (tag : Byte) : PlacesInv (fuseLockEffect tag s) := by
  unfold fuseLockEffect
  split
  · exact .answered room _ _ _ _
  · split
    · exact .answered room _ _ _ _
    · next busy =>
      split
      · exact .answered room _ _ _ _
      · split
        · exact .answered room _ _ _ _
        · split
          · exact .answered room _ _ _ _
          · exact .of_owed room rfl (by simpa using busy) rfl

theorem PlacesInv.command (room : s.placesInUse < 16) (tag : Byte) (c : Command) :
    PlacesInv (commandEffect tag c s) := by
  cases once : answersAtOnce c with
  | true =>
    obtain ⟨lfb, dctl⟩ := commandEffect_owes s tag c once
    exact .of_reply room (commandEffect_answers s tag c once).queue_length.le (by rw [lfb]) dctl
  | false =>
    cases c with
    | softReset => exact .softReset room tag
    | fuseProgram word value => exact .fuseProgram room tag word value
    | fuseLock => exact .fuseLock room tag
    | _ => cases once

end

/-- Every row keeps the reply places in use at sixteen or fewer. -/
theorem rowsLead_placesInv : RowsLead PlacesInv PlacesInv where
  dequeue _ _ h := h
  clock _ _ h := h
  liveLock _ _ h := h
  overlayLock _ _ h := h
  fprog _ _ h := h
  fprogFalls _ h := h.fprogFalls
  idle _ h := h
  serve _ h := h.of_frame (by simp) (by simp) (by simp)
  assertReset s _ := by
    have engine : s.cutTransfer.cutFuses.lfb.engine = .idle := by
      unfold State.cutFuses
      split
      · rfl
      · rfl
      · next idle => exact idle
    have lfb : s.assertReset.lfb.engine = .idle := engine
    unfold PlacesInv
    rw [State.placesInUse_eq, lfb]
    simp [State.assertReset, State.resetBlocks, Rct.initial, Engine.owes, Device.owes]
  releaseReset s h := h.of_le le_rfl rfl (Nat.zero_le _)
  loadingEnds _ h := h.loadingEnds
  followLiveLock _ _ h := h.of_frame (by simp) (by simp) (by simp)
  takeLfs _ _ h := h.of_frame (by simp) (by simp) (by simp)
  takeLineStart _ _ h := h.of_frame (by simp) (by simp) (by simp)
  takeLineEnd _ _ _ h := h.of_frame (by simp) (by simp) (by simp)
  takeBlanking _ _ h := h.of_frame (by simp) (by simp) (by simp)
  lineOverdue _ _ h := h.of_frame (by simp) (by simp) (by simp)
  maintenanceDue _ h := h.of_frame (by simp) (by simp) (by simp)
  maintenanceEnds _ h := h.of_frame (by simp) (by simp) (by simp)
  transferEnds _ _ _ h := h.of_frame (by simp) (by simp) (by simp)
  minExpires _ h := h.of_frame (by simp) (by simp) (by simp)
  deadlineExpires _ h := h.of_frame (by simp) (by simp) (by simp)
  freeRunExpires _ h := h.of_frame (by simp) (by simp) (by simp)
  planTimerExpires _ h := h.of_frame (by simp) (by simp) (by simp)
  outputTime _ h := h.outputTime
  followOverlayLock s _ h := h.of_le s.followOverlayLock_queue_length (by simp) (by simp)
  overlayFrameStart _ _ h := h.of_frame (by simp) (by simp) (by simp)
  overlayLineStart s _ h := h.of_le s.overlayLineStart_queue_length (by simp) (by simp)
  overlayLineEnd _ _ _ h := h.of_frame (by simp) (by simp) (by simp)
  packetBad _ h := h.of_frame (by simp) (by simp) (by simp)
  refused _ tag code status room _ := .answered room tag code status []
  command _ tag c _ room _ := .command room tag c
  fuseProgramEnd _ h := h.fuseProgramEnd
  fuseLockEnd _ h := h.fuseLockEnd

/-! ### The buffers along the rows, with the reply places -/

section
variable {s t : State}

/-- Empty buffers: what a reset leaves. -/
theorem BufferInv.of_reset (capu : t.capu = Capu.initial) (ocap : t.ocap.buffer = []) (seng : t.seng = Seng.initial)
    (rct : t.rct = Rct.initial) (ssch : t.ssch = Ssch.initial) : BufferInv t := by
  unfold BufferInv
  rw [capu, ocap, seng, rct, ssch]
  decide

theorem BufferInv.repeatDue (h : BufferInv s) (point : Word) (remaining : Nat) :
    BufferInv (s.repeatDue point remaining) := by
  have told : BufferInv (s.setSsch { s.ssch with planEmpty := s.ssch.planEmpty || remaining == 0 }) :=
    h.of_frame rfl rfl rfl rfl rfl
  unfold State.repeatDue
  split
  · exact told.startScan _
  · split
    · exact told.withCrp _
    · exact told
  · exact told
  · exact told

theorem BufferInv.planTimerExpires (h : BufferInv s) : BufferInv s.planTimerExpires := by
  unfold State.planTimerExpires
  split
  · next point _ =>
    split
    · have advanced : BufferInv (s.setCrp { s.crp with plan := s.crp.plan.advance, raised := some point }) :=
        h.of_frame rfl rfl rfl rfl rfl
      exact advanced.repeatDue point _
    · exact h
  · exact h

theorem BufferInv.startRun (h : BufferInv s) : BufferInv s.startRun := by
  have left : BufferInv s.leaveOff := by
    unfold State.leaveOff
    split <;> exact h.of_frame rfl rfl rfl rfl rfl
  have running : BufferInv ((s.leaveOff.setDctl .running).setSeng { s.leaveOff.seng with output := .blanking }) :=
    left.of_frame rfl rfl rfl rfl rfl
  exact running.takeActive.of_frame rfl rfl rfl rfl rfl

theorem BufferInv.commitWithoutScan (h : BufferInv s) (marker : Half) : BufferInv (s.commitWithoutScan marker) := by
  have taken : BufferInv (s.takeCommit marker) := h.of_frame rfl rfl rfl rfl rfl
  unfold State.commitWithoutScan
  split
  · exact taken.withCrp _
  · exact taken

theorem BufferInv.commitAtOpening (h : BufferInv s) (marker : Half) (sc : Scan) (k : Kept) :
    BufferInv (s.commitAtOpening marker sc k) :=
  BufferInv.startScan (h.of_le (by simp [State.beforeOpening, Capu.releaseSource_buffer]) (by simp)
    (Nat.zero_le _) (by simp) (by simp [State.beforeOpening])) _

/-- No command but SOFT_RESET reaches the lane. -/
theorem commandEffect_lane (s : State) (tag : Byte) (c : Command) (h : c ≠ .softReset) :
    (commandEffect tag c s).rct.lane = s.rct.lane := by
  cases once : answersAtOnce c with
  | true => exact (commandEffect_answers s tag c once).lane
  | false =>
    cases c with
    | softReset => exact absurd rfl h
    | fuseProgram word value =>
      simp only [commandEffect, fuseProgramEffect]
      (repeat' split) <;> rfl
    | fuseLock =>
      simp only [commandEffect, fuseLockEffect]
      (repeat' split) <;> rfl
    | _ => cases once

theorem BufferInv.startEffect (h : BufferInv s) (tag : Byte) : BufferInv (startEffect tag s) := by
  unfold Machine.startEffect
  split
  · exact h.addReply _ _ _ _
  · split
    · exact h.addReply _ _ _ _
    · split
      · exact h.addReply _ _ _ _
      · exact (h.startRun.addReply _ _ _ _).serve

theorem BufferInv.stopEffect (h : BufferInv s) (tag : Byte) : BufferInv (stopEffect tag s) := by
  unfold Machine.stopEffect
  split
  · exact h.addReply _ _ _ _
  · exact (h.reachOff.addReply _ _ _ _).serve
  · exact (h.reachOff.addReply _ _ _ _).serve
  · split
    · exact (h.forceStop.addReply _ _ _ _).serve
    · exact h.of_frame rfl rfl rfl rfl rfl

theorem BufferInv.commitEffect (h : BufferInv s) (tag : Byte) (marker : Half) :
    BufferInv (commitEffect tag marker s) := by
  unfold Machine.commitEffect
  split
  · exact h.addReply _ _ _ _
  · split
    · exact h.addReply _ _ _ _
    · split
      · unfold commitInRun
        split
        · exact ((h.commitAtOpening _ _ _).addReply _ _ _ _).serve
        · exact h.of_frame rfl rfl rfl rfl rfl
      · exact (h.commitWithoutScan _).addReply _ _ _ _

theorem BufferInv.softResetEffect (h : BufferInv s) (tag : Byte) : BufferInv (softResetEffect tag s) := by
  unfold Machine.softResetEffect
  split
  · exact h.addReply _ _ _ _
  · split
    · exact h.addReply _ _ _ _
    · exact .of_reset rfl rfl rfl rfl rfl

theorem BufferInv.command (h : BufferInv s) (tag : Byte) (c : Command) : BufferInv (commandEffect tag c s) := by
  have plain (c : Command) (hc : plainCommand c = true) : BufferInv (commandEffect tag c s) := by
    obtain ⟨-, -, -, capu, -, -, ssch, seng, ocap, -, -⟩ := plainCommand_frame s tag c hc
    refine h.of_frame (by rw [capu]) (by rw [ocap]) (by rw [seng]) (commandEffect_lane s tag c ?_) (by rw [ssch])
    rintro rfl
    cases hc
  cases c with
  | start => exact h.startEffect tag
  | stop => exact h.stopEffect tag
  | softReset => exact h.softResetEffect tag
  | resetCadence => exact ((h.withCrp (s.crp.invalidate false)).takeActive.addReply tag 0x20 .ok []).serve
  | commit marker => exact h.commitEffect tag marker
  | _ => exact plain _ rfl

theorem BufferInv.loadingEnds (h : BufferInv s) : BufferInv s.loadingEnds := by
  have paid {u : State} (hu : BufferInv u) (owed : Option Byte) : BufferInv (u.payOwed owed) := by
    cases owed
    · exact hu
    · exact hu.addReply _ _ _ _
  unfold State.loadingEnds
  split
  · next due owed _ =>
    split
    · have standby : BufferInv ((s.setPru { s.pru with limits := limitsAtLoading s.lfb.words }).setDctl .standby) :=
        h.of_frame rfl rfl rfl rfl rfl
      refine (BufferInv.followLiveLock ?_).serve
      unfold State.overlayAtLoadingEnd
      split
      · split
        · exact paid standby.drawn.followOverlayLock owed
        · exact (paid standby.drawn owed).followOverlayLock
      · exact (paid standby owed).followOverlayLock
    · exact h
  · exact h
  · exact h

/-- A timer that has run, marked so, leaves the buffers. -/
theorem BufferInv.setSsch (h : BufferInv s) {x : Ssch} (overtaken : x.overtaken = s.ssch.overtaken) :
    BufferInv (s.setSsch x) := h.of_frame rfl rfl rfl rfl overtaken

theorem BufferInv.fprogFalls (h : BufferInv s) : BufferInv s.fprogFalls := by
  unfold State.fprogFalls
  split
  · exact h.of_frame rfl rfl rfl rfl rfl
  · exact h.of_frame rfl rfl rfl rfl rfl
  · exact h

theorem BufferInv.fuseProgramEnd (h : BufferInv s) : BufferInv s.fuseProgramEnd := by
  unfold State.fuseProgramEnd
  split
  · split
    · exact h.of_frame rfl rfl rfl rfl rfl
    · exact h
  · exact h
  · exact h

theorem BufferInv.fuseLockEnd (h : BufferInv s) : BufferInv s.fuseLockEnd := by
  unfold State.fuseLockEnd
  split
  · split
    · refine h.of_frame (by simp) (by simp) (by simp) ?_ (by simp)
      simp [State.lockEnds, State.addReply]
    · exact h
  · exact h
  · exact h

theorem BufferInv.expires (h : BufferInv s) : BufferInv s.minExpires ∧ BufferInv s.deadlineExpires
    ∧ BufferInv s.freeRunExpires := by
  unfold State.minExpires State.deadlineExpires State.freeRunExpires
  refine ⟨?_, ?_, ?_⟩ <;> split
  · exact (h.setSsch (x := { s.ssch with min := s.ssch.min.expire }) rfl).takeActive
  · exact h
  · exact (h.setSsch (x := { s.ssch with deadline := s.ssch.deadline.expire }) rfl).takeActive
  · exact h
  · exact (h.setSsch (x := { s.ssch with freeRun := s.ssch.freeRun.expire }) rfl).takeActive
  · exact h

end

/-- Every row keeps the buffers within their sizes where the reply places are. -/
theorem rowsLead_bufferInv : RowsLead (fun s => PlacesInv s ∧ BufferInv s) BufferInv where
  dequeue _ _ h := h
  clock _ _ h := h
  liveLock _ _ h := h
  overlayLock _ _ h := h
  fprog _ _ h := h
  fprogFalls _ h := ⟨h.1.fprogFalls, h.2.fprogFalls⟩
  idle _ h := h.2
  serve _ h := h.serve
  assertReset _ _ := .of_reset rfl rfl rfl rfl rfl
  releaseReset _ h := h.2
  loadingEnds _ h := h.2.loadingEnds
  followLiveLock _ _ h := h.2.followLiveLock
  takeLfs _ _ h := h.2.takeLfs
  takeLineStart _ _ h := h.2.takeLineStart
  takeLineEnd _ pixels _ h := h.2.takeLineEnd pixels
  takeBlanking _ _ h := h.2.takeBlanking
  lineOverdue _ _ h := h.2.lineOverdue
  maintenanceDue _ h := h.2.of_frame (by simp) (by simp) (by simp) (by simp) (by simp)
  maintenanceEnds _ h := h.2.of_frame (by simp) (by simp) (by simp) (by simp) (by simp)
  transferEnds _ x _ h := (h.2.transferActs x).of_frame (by simp) (by simp) (by simp) (by simp) (by simp)
  minExpires _ h := h.2.expires.1
  deadlineExpires _ h := h.2.expires.2.1
  freeRunExpires _ h := h.2.expires.2.2
  planTimerExpires _ h := h.2.planTimerExpires
  outputTime _ h := h.2.outputTime
  followOverlayLock _ _ h := h.2.followOverlayLock
  overlayFrameStart _ _ h := h.2.overlayFrameStart
  overlayLineStart _ _ h := h.2.overlayLineStart h.1
  overlayLineEnd _ pixels _ h := h.2.overlayLineEnd pixels
  packetBad _ h := h.2.raise _
  refused _ tag code status _ h := h.2.addReply tag code status []
  command _ tag c _ _ h := h.2.command tag c
  fuseProgramEnd _ h := h.2.fuseProgramEnd
  fuseLockEnd _ h := h.2.fuseLockEnd

end Sys2Proof.Machine

namespace Sys2Proof.Machine

open State

/-! ### The overlay line cache along the rows -/

/-- No requested line is in the cache, and no overlay read waits while one is in progress (R24, R123). -/
def Marb.asksNew (m : Marb) (cache : List (Nat × List OverlayPixel)) : Prop :=
  (∀ r ∈ m.overlayRead, ∀ c ∈ cache, c.1 ≠ r.2)
    ∧ ∀ p line wanted, m.transfer = some (.overlayRead p line wanted) →
      m.overlayRead = none ∧ (wanted = true → ∀ c ∈ cache, c.1 ≠ line)

/-- Every cached line is of the target's line set (R123). -/
def State.onTarget (s : State) : Prop :=
  ∀ sc ∈ s.seng.scan, ∀ y ∈ s.ocmp.target, ∀ c ∈ s.ocmp.cache, c.1 ∈ s.lineSet sc y

theorem cacheInv_iff {s : State} : CacheInv s ↔
    (s.ocmp.cache.length ≤ 4 ∧ (s.ocmp.cache.map (·.1)).Nodup) ∧ s.marb.asksNew s.ocmp.cache ∧ s.onTarget := by
  unfold CacheInv Marb.asksNew State.onTarget
  cases found : s.marb.transfer with
  | none => simp [and_assoc]
  | some x => cases x <;> simp [and_assoc]

/-- The line set of any width, line count, content and bank (R122). -/
theorem State.lineSet_congr {s t : State} {sc sc' : Scan} (image : t.ocap.frontImage = s.ocap.frontImage)
    (active : t.tbc.active = s.tbc.active) (width : sc'.width = sc.width) (lines : sc'.lines = sc.lines) (y : Nat) :
    t.lineSet sc' y = s.lineSet sc y := by
  unfold State.lineSet
  rw [image, active, width, lines]

theorem State.mem_lineSet_congr {s t : State} {sc sc' : Scan} {n y : Nat}
    (image : t.ocap.frontImage = s.ocap.frontImage) (active : t.tbc.active = s.tbc.active) (width : sc'.width = sc.width)
    (lines : sc'.lines = sc.lines) (h : n ∈ s.lineSet sc y) : n ∈ t.lineSet sc' y := by
  rwa [State.lineSet_congr image active width lines]

/-- A line set has at most four lines (R122). -/
theorem admitRegions_length_le (y : Nat) (regions : List Region) (set : List Nat) (h : set.length ≤ 4) :
    (admitRegions y regions set).1.length ≤ 4 := by
  induction regions generalizing set with
  | nil => exact h
  | cons r rest ih =>
    unfold admitRegions
    split
    · exact ih set h
    · split
      · next room => exact ih _ (by simpa using room)
      · exact ih set h

theorem State.lineSet_length_le (s : State) (sc : Scan) (y : Nat) : (s.lineSet sc y).length ≤ 4 := by
  unfold State.lineSet overlayBudget
  split
  · exact admitRegions_length_le _ _ _ (Nat.zero_le _)
  · exact Nat.zero_le _

/-- A scan of the same source and size as another's. -/
theorem State.exists_scan_of_scanKey {s t : State} (key : t.scanKey = s.scanKey) {sc : Scan}
    (h : t.seng.scan = some sc) :
    ∃ sc', s.seng.scan = some sc' ∧ sc.width = sc'.width ∧ sc.lines = sc'.lines := by
  rw [State.scanKey_of_scan h] at key
  obtain ⟨sc', found, same⟩ := Option.map_eq_some_iff.mp key.symm
  simp only [Prod.mk.injEq] at same
  exact ⟨sc', found, same.2.1.symm, same.2.2.symm⟩

section
variable {s t : State}

theorem onTarget.of_view (h : s.onTarget) (ocmp : t.ocmp = s.ocmp) (key : t.scanKey = s.scanKey)
    (image : t.ocap.frontImage = s.ocap.frontImage) (active : t.tbc.active = s.tbc.active) : t.onTarget := by
  intro sc found y target c cached
  obtain ⟨sc', found', width, lines⟩ := State.exists_scan_of_scanKey key found
  rw [State.lineSet_congr image active width lines]
  rw [ocmp] at target cached
  exact h sc' found' y target c cached

/-- The cache, the two overlay reads, the scan's size, the front content and the active bank are all the invariant speaks
of. -/
theorem CacheInv.of_view (h : CacheInv s) (ocmp : t.ocmp = s.ocmp) (read : t.marb.overlayRead = s.marb.overlayRead)
    (transfer : t.marb.transfer = s.marb.transfer) (key : t.scanKey = s.scanKey)
    (image : t.ocap.frontImage = s.ocap.frontImage) (active : t.tbc.active = s.tbc.active) : CacheInv t := by
  rw [cacheInv_iff] at h ⊢
  obtain ⟨tidy, asks, target⟩ := h
  refine ⟨by rwa [ocmp], ?_, onTarget.of_view target ocmp key image active⟩
  unfold Marb.asksNew
  rw [ocmp, read, transfer]
  exact asks

theorem CacheInv.of_same (h : CacheInv s) (same : SameRun s t) (ocmp : t.ocmp = s.ocmp) (marb : t.marb = s.marb)
    (ocap : t.ocap = s.ocap) (tbc : t.tbc = s.tbc) : CacheInv t :=
  h.of_view ocmp (by rw [marb]) (by rw [marb]) same.scan (by rw [ocap]) (by rw [tbc])

/-- With no scan in flight the active bank and the content shown are free to change. -/
theorem CacheInv.of_quiet (h : CacheInv s) (quiet : t.scanKey = none) (ocmp : t.ocmp = s.ocmp)
    (marb : t.marb = s.marb) :
    CacheInv t := by
  rw [cacheInv_iff] at h ⊢
  obtain ⟨tidy, asks, -⟩ := h
  refine ⟨by rwa [ocmp], by rwa [ocmp, marb], fun sc found => ?_⟩
  rw [State.scanKey_eq_none.mp quiet] at found
  cases found

/-- An empty cache keeps the invariant as long as no overlay read waits while one is in progress. -/
theorem CacheInv.of_empty (cache : t.ocmp.cache = [])
    (asks : ∀ p line wanted, t.marb.transfer = some (.overlayRead p line wanted) → t.marb.overlayRead = none) :
    CacheInv t := by
  rw [cacheInv_iff]
  unfold Marb.asksNew State.onTarget
  rw [cache]
  simpa using asks

/-! ### Requests and grants -/

/-- OCMP asks for a line that is not in its cache, and only with no overlay read in progress (R123). -/
theorem State.overlayReadDesire_eq_some {r : Plane × Nat} (h : s.overlayReadDesire = some r) :
    s.ocmp.cache.lookup r.2 = none ∧ s.marb.overlayRead = none ∧ s.marb.busy .overlayRead = false := by
  unfold State.overlayReadDesire at h
  split at h
  · cases h
  · next idle =>
    have still : s.marb.overlayRead = none ∧ s.marb.busy .overlayRead = false := by simpa using idle
    split at h
    · obtain ⟨n, found, rfl⟩ := Option.map_eq_some_iff.mp h
      exact ⟨by simpa using List.find?_some found, still⟩
    · cases h

theorem Marb.busy_overlayRead {m : Marb} {p : Plane} {line : Nat} {wanted : Bool}
    (h : m.transfer = some (.overlayRead p line wanted)) : m.busy .overlayRead = true := by
  unfold Marb.busy
  rw [h]
  rfl

theorem Marb.asksNew.makeRequests (h : s.marb.asksNew s.ocmp.cache) :
    s.makeRequests.marb.asksNew s.ocmp.cache := by
  obtain ⟨waiting, moving⟩ := h
  have transfer : s.makeRequests.marb.transfer = s.marb.transfer := rfl
  have read : s.makeRequests.marb.overlayRead = s.marb.overlayRead.or s.overlayReadDesire := rfl
  unfold Marb.asksNew
  rw [transfer, read]
  constructor
  · intro r asked c cached
    rcases Option.or_eq_some_iff.mp asked with was | ⟨-, desired⟩
    · exact waiting r was c cached
    · intro same
      have absent := (State.overlayReadDesire_eq_some desired).1
      rw [List.lookup_eq_none_iff] at absent
      simpa [same] using absent c cached
  · intro p line wanted inProgress
    obtain ⟨none, fresh⟩ := moving p line wanted inProgress
    refine ⟨?_, fresh⟩
    rw [none, Option.none_or]
    cases desired : s.overlayReadDesire with
    | none => rfl
    | some r =>
      have := (State.overlayReadDesire_eq_some desired).2.2
      rw [Marb.busy_overlayRead inProgress] at this
      cases this

/-- A transfer of another requester leaves the waiting overlay read. -/
theorem Marb.asksNew.other {m m' : Marb} {cache : List (Nat × List OverlayPixel)} (h : m.asksNew cache)
    (read : m'.overlayRead = m.overlayRead)
    (other : ∀ p line wanted, m'.transfer ≠ some (.overlayRead p line wanted)) : m'.asksNew cache :=
  ⟨by rw [read]; exact h.1, fun p line wanted inProgress => absurd inProgress (other p line wanted)⟩

theorem Marb.asksNew.grantOverlayRead (h : s.marb.asksNew s.ocmp.cache) {r : Plane × Nat}
    (waiting : s.marb.overlayRead = some r) : (s.grantOverlayRead r).marb.asksNew s.ocmp.cache := by
  constructor
  · intro r' asked
    cases asked
  · intro p line wanted inProgress
    cases inProgress
    exact ⟨rfl, fun _ => h.1 r waiting⟩

theorem Marb.asksNew.grantOverlay (h : s.marb.asksNew s.ocmp.cache) : s.grantOverlay.marb.asksNew s.ocmp.cache := by
  unfold State.grantOverlay
  split
  · next r waiting => exact h.grantOverlayRead waiting
  · next none =>
    split
    · unfold State.grantOverlayWrite
      split
      · exact h.other rfl (by simp)
      · exact h
    · exact h

theorem Marb.asksNew.grant (h : s.marb.asksNew s.ocmp.cache) : s.grant.marb.asksNew s.ocmp.cache := by
  unfold State.grant
  split
  · exact h.other rfl (by simp [State.grantCaptureWrite])
  · split
    · exact h.other rfl (by simp [State.grantScanRead])
    · exact h.grantOverlay

theorem Marb.asksNew.grantOverlayReadFirst (h : s.marb.asksNew s.ocmp.cache) :
    s.grantOverlayReadFirst.marb.asksNew s.ocmp.cache := by
  unfold State.grantOverlayReadFirst
  split
  · next r _ waiting => exact h.grantOverlayRead waiting
  · exact h.grant

/-- The port may change as long as it asks for new lines. -/
theorem CacheInv.of_port (h : CacheInv s) (asks : t.marb.asksNew s.ocmp.cache) (ocmp : t.ocmp = s.ocmp)
    (seng : t.seng = s.seng) (ocap : t.ocap = s.ocap) (tbc : t.tbc = s.tbc) : CacheInv t := by
  rw [cacheInv_iff] at h ⊢
  obtain ⟨tidy, -, target⟩ := h
  exact ⟨by rwa [ocmp], by rwa [ocmp],
    onTarget.of_view target ocmp (State.scanKey_of_seng seng) (by rw [ocap]) (by rw [tbc])⟩

theorem CacheInv.serve (h : CacheInv s) : CacheInv s.serve := by
  have made : s.makeRequests.marb.asksNew s.ocmp.cache := ((cacheInv_iff.mp h).2.1).makeRequests
  refine h.of_port ?_ (by simp) (by simp) (by simp) (by simp)
  unfold State.serve
  dsimp only
  split
  · split
    · split
      · exact Marb.asksNew.grantOverlayReadFirst (s := s.makeRequests.drawn) made
      · exact Marb.asksNew.grant (s := s.makeRequests.drawn) made
    · exact Marb.asksNew.grant (s := s.makeRequests) made
  · exact made

/-- The port is freed: what holds with no transfer in progress holds after the next requests and the next grant. -/
theorem CacheInv.portFreed (h : CacheInv (s.setMarb { s.marb with transfer := none })) : CacheInv s.portFreed := by
  have made : (s.setMarb { s.marb with transfer := none }).makeRequests.marb.asksNew s.ocmp.cache :=
    ((cacheInv_iff.mp h).2.1).makeRequests
  refine h.of_port ?_ (by simp) (by simp) (by simp) (by simp)
  unfold State.portFreed
  dsimp only
  split
  · exact made
  · split
    · exact Marb.asksNew.grant (s := (s.setMarb { s.marb with transfer := none }).makeRequests) made
    · exact made
  · exact made

theorem CacheInv.maintenanceEnds (h : CacheInv s) : CacheInv s.maintenanceEnds := by
  have asks := (cacheInv_iff.mp h).2.1
  refine h.of_port ?_ (by simp) (by simp) (by simp) (by simp)
  unfold State.maintenanceEnds
  split
  · dsimp only
    split
    · exact Marb.asksNew.grant (s := s.setMarb { s.marb with maintenance := .none }) asks
    · exact asks
  · exact asks
  · exact asks

/-- With the transfer over, the lines asked for stay new. -/
theorem CacheInv.freed (h : CacheInv s) : CacheInv (s.setMarb { s.marb with transfer := none }) :=
  h.of_port (((cacheInv_iff.mp h).2.1).other rfl (by simp)) rfl rfl rfl rfl

/-- A plane line that has been read joins the cache once: it was new, and it is of the target's set, which has at most
four lines. -/
theorem CacheInv.cachePlaneLine (h : CacheInv s) {p : Plane} {line : Nat}
    (inProgress : s.marb.transfer = some (.overlayRead p line true)) (pixels : List OverlayPixel) :
    CacheInv ((s.cachePlaneLine line pixels).setMarb { s.marb with transfer := none }) := by
  unfold State.cachePlaneLine
  split
  · next sc y found target =>
    split
    · next wanted =>
      rw [cacheInv_iff] at h ⊢
      obtain ⟨⟨-, nodup⟩, ⟨-, moving⟩, onTarget⟩ := h
      obtain ⟨none, fresh⟩ := moving p line true inProgress
      have members : ∀ n ∈ (s.ocmp.cache ++ [(line, pixels)]).map (·.1), n ∈ s.lineSet sc y := by
        simp only [List.map_append, List.mem_append, List.mem_map, List.map_cons, List.map_nil, List.mem_singleton]
        rintro n (⟨c, cached, rfl⟩ | rfl)
        · exact onTarget sc found y target c cached
        · exact wanted
      have nodup' : ((s.ocmp.cache ++ [(line, pixels)]).map (·.1)).Nodup := by
        rw [List.map_append, List.nodup_append]
        refine ⟨nodup, by simp, ?_⟩
        simp only [List.mem_map, List.map_cons, List.map_nil, List.mem_singleton]
        rintro _ ⟨c, cached, rfl⟩ _ rfl
        exact fresh rfl c cached
      refine ⟨⟨?_, nodup'⟩, ⟨?_, ?_⟩, ?_⟩
      · have few := (List.subperm_of_subset nodup' members).length_le
        rw [List.length_map] at few
        exact few.trans (s.lineSet_length_le sc y)
      · intro r asked
        cases none.symm.trans (show s.marb.overlayRead = some r from asked)
      · intro p line wanted other
        cases other
      · intro sc' found' y' target' c cached
        cases found.symm.trans (show s.seng.scan = some sc' from found')
        cases target.symm.trans (show s.ocmp.target = some y' from target')
        exact members c.1 (List.mem_map_of_mem cached)
    · exact h.freed
  · exact h.freed

theorem CacheInv.transferEnds (h : CacheInv s) {x : Transfer} (inProgress : s.marb.transfer = some x) :
    CacheInv (s.transferActs x).portFreed := by
  refine CacheInv.portFreed ?_
  have freed {u : State} (same : SameRun s u) (ocmp : u.ocmp = s.ocmp) (marb : u.marb = s.marb)
      (image : u.ocap.frontImage = s.ocap.frontImage) (tbc : u.tbc = s.tbc) :
      CacheInv (u.setMarb { u.marb with transfer := none }) :=
    CacheInv.freed (h.of_view ocmp (by rw [marb]) (by rw [marb]) same.scan image (by rw [tbc]))
  cases x with
  | captureWrite i line =>
    exact freed (sameRun_transferActs s _) (by simp [State.transferActs]) (by simp) (by simp [State.transferActs])
      (by simp)
  | scanRead i line wanted =>
    exact freed (sameRun_transferActs s _) (by cases wanted <;> simp [State.transferActs]) (by simp)
      (by cases wanted <;> simp [State.transferActs]) (by simp)
  | overlayRead p line wanted =>
    cases wanted with
    | false => exact h.freed
    | true =>
      have cached := h.cachePlaneLine inProgress (s.mem.readPlaneLine p line)
      have marb : (s.transferActs (.overlayRead p line true)).marb = s.marb := by simp
      rw [marb]
      exact cached
  | overlayWrite e buffered =>
    have image : s.ocap.writeEnded.frontImage = s.ocap.frontImage := by
      unfold Ocap.writeEnded
      (repeat' split) <;> rfl
    refine freed (sameRun_transferActs s _) (by simp [State.transferActs]) (by simp) ?_ (by simp)
    unfold State.transferActs State.overlayWriteEnds
    cases buffered
    · rfl
    · exact image

/-! ### Captures and lines -/

theorem CacheInv.raise (h : CacheInv s) (e : EventSource) : CacheInv (s.raise e) :=
  h.of_same (sameRun_raise s e) (by simp) (by simp) (by simp) (by simp)

theorem CacheInv.abandonCapture (h : CacheInv s) (i : SlotId) : CacheInv (s.abandonCapture i) := by
  have marb : (s.abandonCapture i).marb = (s.undoCapture i).marb := by
    unfold State.abandonCapture
    split <;> simp
  exact h.of_view (by simp) (by rw [marb]; rfl) (by rw [marb]; rfl) (sameRun_abandonCapture s i).scan (by simp)
    (by simp)

theorem CacheInv.abandonFrame (h : CacheInv s) (frame : Word) : CacheInv (s.abandonFrame frame) := by
  unfold State.abandonFrame
  split
  · exact h.abandonCapture _
  · exact h

theorem CacheInv.malformed (h : CacheInv s) (frame : Word) (k : Nat) : CacheInv (s.malformed frame k) := by
  have closed : CacheInv s.closeCheck := h.of_view rfl rfl rfl rfl rfl rfl
  have cleared := ((closed.raise .malformedFrame).abandonFrame frame).of_same (sameRun_clearPending _ frame)
    (by simp) (by simp) (by simp) (by simp)
  unfold State.malformed
  exact cleared.of_same (sameRun_engineMalformed _ frame k) (by simp) (by simp) (by simp) (by simp)

theorem CacheInv.cutArriving (h : CacheInv s) : CacheInv s.cutArriving := by
  unfold State.cutArriving
  split
  · exact h.malformed _ _
  · exact h
  · exact h

theorem CacheInv.captureLine (h : CacheInv s) (frame : Word) (line : Nat) (pixels : List GamePixel) :
    CacheInv (s.captureLine frame line pixels) := by
  unfold State.captureLine
  split
  · exact h
  · split
    · exact h.of_view rfl rfl rfl rfl rfl rfl
    · exact (h.abandonCapture _).raise _

theorem CacheInv.takeLineEnd (h : CacheInv s) (pixels : List GamePixel) : CacheInv (s.takeLineEnd pixels) := by
  unfold State.takeLineEnd
  split
  · exact h
  · exact h
  · split
    · split
      · next f _ _ _ =>
        have used := (h.captureLine f.frame f.linesSeen pixels).of_same
          (sameRun_engineLine _ f.frame f.linesSeen f.lineStart pixels) (by simp) (by simp) (by simp) (by simp)
        unfold State.handOn
        exact used.of_same (sameRun_countLine _ f) (by simp) (by simp) (by simp) (by simp)
      · exact h.malformed _ _
    · exact h

theorem CacheInv.takeLineStart (h : CacheInv s) : CacheInv s.takeLineStart := by
  unfold State.takeLineStart State.arrivingLineStart
  split
  · exact h
  · split
    · exact h.malformed _ _
    · split
      · exact h.of_view rfl rfl rfl rfl rfl rfl
      · exact h.malformed _ _
  · exact h.malformed _ _

theorem CacheInv.takeBlanking (h : CacheInv s) : CacheInv s.takeBlanking := by
  unfold State.takeBlanking
  split
  · exact h
  · exact h.malformed _ _
  · exact h.of_view rfl rfl rfl rfl rfl rfl

theorem CacheInv.lineOverdue (h : CacheInv s) : CacheInv s.lineOverdue := by
  unfold State.lineOverdue
  split
  · exact h
  · exact h
  · split
    · exact h.malformed _ _
    · exact h

/-! ### Scan starts and scan ends -/

/-- A scan starts with an empty cache; a read in progress is then of an earlier scan (R90, R123). -/
theorem CacheInv.startScan (h : CacheInv s) (r : StartReason) : CacheInv (s.startScan r) := by
  refine .of_empty rfl fun p line wanted inProgress => ?_
  simp only [State.startScan_frame] at inProgress ⊢
  exact ((cacheInv_iff.mp h).2.1.2 p line wanted inProgress).1

theorem CacheInv.takeOpen (h : CacheInv s) : CacheInv s.takeOpen := by
  unfold State.takeOpen
  split <;> split
  · exact h.startScan _
  · exact h
  · exact h.startScan _
  · exact h

theorem CacheInv.takeActive (h : CacheInv s) : CacheInv s.takeActive := by
  unfold State.takeActive State.takeMin
  split
  · split
    · split
      · exact h.startScan _
      · exact CacheInv.takeOpen (h.of_view rfl rfl rfl rfl rfl rfl)
    · exact h
  · exact h.takeOpen
  · exact h
  · exact h

/-- A scan end empties the cache, withdraws the waiting read and lets the one in progress go (R102, R103). -/
theorem CacheInv.engineScanEnd (s : State) (cut : Bool) (sc : Scan) : CacheInv (s.engineScanEnd cut sc) :=
  .of_empty rfl fun _ _ _ _ => rfl

theorem CacheInv.reachOff (h : CacheInv s) (quiet : s.scanKey = none) : CacheInv s.reachOff :=
  h.of_quiet (by rw [State.reachOff_scanKey, quiet]) (by simp) (by simp)

theorem CacheInv.afterScanEnd (h : CacheInv s) (quiet : s.scanKey = none) : CacheInv s.afterScanEnd := by
  unfold State.afterScanEnd
  split
  · exact h.reachOff quiet
  · exact CacheInv.takeActive (h.of_view rfl rfl rfl rfl rfl rfl)

theorem CacheInv.scanEnds (s : State) (cut : Bool) (sc : Scan) : CacheInv (s.engineScanEnd cut sc).afterScanEnd :=
  (CacheInv.engineScanEnd s cut sc).afterScanEnd (by simp)

/-- The lines kept are those of the set of the line that comes next, and so is the request that still waits (R123). -/
theorem CacheInv.emitLine (h : CacheInv s) (sc : Scan) (made : Produced) (coupled : Bool) :
    CacheInv (s.emitLine sc made coupled) := by
  rw [State.emitLine_eq sc made.pixels made.patched coupled s]
  rw [cacheInv_iff] at h ⊢
  obtain ⟨⟨few, nodup⟩, ⟨waiting, moving⟩, -⟩ := h
  unfold State.onTarget Marb.asksNew State.lineLeft
  dsimp only
  by_cases more : sc.nextOut + 1 < sc.lines
  · simp only [if_pos more]
    have kept : ∀ c ∈ s.ocmp.cache.filter (fun c => decide (c.1 ∈ s.lineSet sc (sc.nextOut + 1))), c ∈ s.ocmp.cache :=
      fun c hc => List.mem_of_mem_filter hc
    refine ⟨⟨(List.length_filter_le _ _).trans few, nodup.sublist (List.filter_sublist.map _)⟩, ⟨?_, ?_⟩, ?_⟩
    · intro r asked c hc
      exact waiting r (Option.mem_filter_iff.mp asked).1 c (kept c hc)
    · intro p line wanted inProgress
      obtain ⟨none, fresh⟩ := moving p line wanted inProgress
      exact ⟨by rw [none]; rfl, fun w c hc => fresh w c (kept c hc)⟩
    · intro sc' found y target c hc
      cases found
      cases target
      have inSet := (List.mem_filter.mp hc).2
      rw [decide_eq_true_eq] at inSet
      exact State.mem_lineSet_congr (s := s) (sc := sc) rfl rfl (Scan.withChoices_key _ _).2.1
        (Scan.withChoices_key _ _).2.2 inSet
  · simp only [if_neg more]
    refine ⟨⟨few, nodup⟩, ⟨?_, ?_⟩, ?_⟩
    · intro r asked
      cases asked
    · intro p line wanted inProgress
      exact ⟨trivial, (moving p line wanted inProgress).2⟩
    · intro sc' _ y target
      cases target

theorem CacheInv.switchToPatching (h : CacheInv s) : CacheInv s.switchToPatching :=
  h.of_same (sameRun_switchToPatching s) (by simp) (by simp) (by simp) (by simp)

theorem CacheInv.outputTime (h : CacheInv s) : CacheInv s.outputTime := by
  unfold State.outputTime
  split
  · exact h
  · split
    · exact h
    · split
      · split
        · unfold State.outputLine
          split
          · exact h.emitLine _ _ _
          · split
            · dsimp only
              split
              · exact h.switchToPatching.serve.emitLine _ _ _
              · exact h.switchToPatching.serve
            · exact h.emitLine _ _ _
        · exact .scanEnds _ _ _
      · exact h

theorem CacheInv.forceStop (h : CacheInv s) : CacheInv s.forceStop := by
  unfold State.forceStop
  split
  · split
    · split <;> exact .scanEnds _ _ _
    · exact .scanEnds _ _ _
  · exact h

/-! ### The live link, frame starts, timers and plan points -/

theorem CacheInv.withCrp (h : CacheInv s) (c : Crp) : CacheInv (s.withCrp c) := h.of_view rfl rfl rfl rfl rfl rfl

theorem CacheInv.followLiveLock (h : CacheInv s) : CacheInv s.followLiveLock := by
  unfold State.followLiveLock
  split
  · have locked : CacheInv (s.setLrx { s.lrx with link := .locked }) := h.of_view rfl rfl rfl rfl rfl rfl
    exact ((locked.raise .liveLock).withCrp _).takeActive
  · unfold State.lossTaken
    have cut := h.cutArriving
    revert cut
    generalize s.cutArriving = u
    intro cut
    have lost : CacheInv (u.setLrx { u.lrx with link := .down, check := .closed }) :=
      cut.of_view rfl rfl rfl rfl rfl rfl
    exact ((lost.raise .liveLoss).withCrp _).takeActive
  · exact h
  · exact h

theorem CacheInv.reportLfs (h : CacheInv s) (frame : Word) : CacheInv (s.reportLfs frame) := by
  unfold State.reportLfs
  split
  · exact h.startScan _
  · exact h.of_same ((sameRun_cadenceLfs s _ _).trans (sameRun_pend _ _)) (by simp) (by simp) (by simp) (by simp)
  · exact h.of_same ((sameRun_cadenceInScan s _).trans (sameRun_pend _ _)) (by simp) (by simp) (by simp) (by simp)
  · exact h.of_same (sameRun_cadenceLfs s _ _) (by simp) (by simp) (by simp) (by simp)

theorem CacheInv.takeLfs (h : CacheInv s) : CacheInv s.takeLfs := by
  have numbered : CacheInv s.cutArriving.numbered := h.cutArriving.of_view rfl rfl rfl rfl rfl rfl
  have resolved {u : State} (hu : CacheInv u) : CacheInv u.resolveCapture := by
    unfold State.resolveCapture
    split
    · exact hu.abandonCapture _
    · exact hu
  rw [State.takeLfs_eq]
  exact (resolved (numbered.reportLfs _)).of_same (sameRun_openFrame _ _) (by simp) (by simp) (by simp) (by simp)

theorem CacheInv.expires (h : CacheInv s) : CacheInv s.minExpires ∧ CacheInv s.deadlineExpires
    ∧ CacheInv s.freeRunExpires := by
  have marked (x : Ssch) : CacheInv (s.setSsch x) := h.of_view rfl rfl rfl rfl rfl rfl
  unfold State.minExpires State.deadlineExpires State.freeRunExpires
  refine ⟨?_, ?_, ?_⟩ <;> split
  · exact (marked _).takeActive
  · exact h
  · exact (marked _).takeActive
  · exact h
  · exact (marked _).takeActive
  · exact h

theorem CacheInv.repeatDue (h : CacheInv s) (point : Word) (remaining : Nat) :
    CacheInv (s.repeatDue point remaining) := by
  have told (x : Ssch) : CacheInv (s.setSsch x) := h.of_view rfl rfl rfl rfl rfl rfl
  unfold State.repeatDue
  split
  · exact (told _).startScan _
  · split
    · exact (told _).withCrp _
    · exact told _
  · exact told _
  · exact told _

theorem CacheInv.planTimerExpires (h : CacheInv s) : CacheInv s.planTimerExpires := by
  unfold State.planTimerExpires
  split
  · next point _ =>
    split
    · have advanced : CacheInv (s.setCrp { s.crp with plan := s.crp.plan.advance, raised := some point }) :=
        h.of_view rfl rfl rfl rfl rfl rfl
      exact advanced.repeatDue point _
    · exact h
  · exact h

/-! ### The overlay -/

/-- A discard marks the transfer in progress, and takes no overlay read away. -/
theorem CacheInv.discardOverlay (h : CacheInv s) (begun : Bool) (phase : OverlayPhase) :
    CacheInv (s.discardOverlay begun phase) := by
  have dropped : CacheInv s.dropBackFrame := by
    rw [cacheInv_iff] at h ⊢
    obtain ⟨tidy, ⟨waiting, moving⟩, target⟩ := h
    refine ⟨tidy, ⟨waiting, fun p line wanted inProgress => ?_⟩, onTarget.of_view target rfl rfl rfl rfl⟩
    refine moving p line wanted ?_
    simp only [State.dropBackFrame, State.setOcap_marb, State.setMarb_marb] at inProgress
    split at inProgress
    · obtain ⟨x, found, same⟩ := Option.map_eq_some_iff.mp inProgress
      cases x <;> cases same
      exact found
    · exact inProgress
  unfold State.discardOverlay
  refine CacheInv.raise ?_ _
  cases begun
  · exact h.of_view rfl rfl rfl rfl rfl rfl
  · exact dropped.of_view rfl rfl rfl rfl rfl rfl

theorem CacheInv.overlayFrameStart (h : CacheInv s) : CacheInv s.overlayFrameStart := by
  unfold State.overlayFrameStart
  split
  · exact h
  · split
    · exact h.of_view rfl rfl rfl rfl rfl rfl
    · exact h.discardOverlay _ _
    · exact h.discardOverlay _ _
    · exact h.of_view rfl rfl rfl rfl rfl rfl

theorem CacheInv.overlayLineStart (h : CacheInv s) : CacheInv s.overlayLineStart := by
  unfold State.overlayLineStart
  split
  · exact h
  · split
    · exact h
    · exact h.of_view rfl rfl rfl rfl rfl rfl
    · split
      · exact h.discardOverlay _ _
      · exact h.of_view rfl rfl rfl rfl rfl rfl
    · exact h.discardOverlay _ _

theorem CacheInv.overlayLineEnd (h : CacheInv s) (pixels : List OverlayPixel) : CacheInv (s.overlayLineEnd pixels) := by
  have passes : CacheInv (s.overlayLinePasses pixels) := by
    unfold State.overlayLinePasses
    split
    · have seen : CacheInv (s.setOcap { s.ocap with linesSeen := s.ocap.linesSeen + 1 }) :=
        h.of_view rfl rfl rfl rfl rfl rfl
      exact seen.discardOverlay _ _
    · exact h.of_view rfl rfl rfl rfl rfl rfl
  unfold State.overlayLineEnd
  split
  · exact h
  · split
    · exact h
    · exact h
    · exact h
    · split
      · split
        · exact passes
        · exact h.discardOverlay _ _
      · exact h

theorem CacheInv.followOverlayLock (h : CacheInv s) : CacheInv s.followOverlayLock := by
  have lost {u : State} (hu : CacheInv u) (b : Bool) : CacheInv
      ((u.setOcap { u.ocap with link := .down, phase := .closed, lineOpen := false }).returnLost b) := by
    unfold State.returnLost
    cases b <;> exact hu.of_view rfl rfl rfl rfl rfl rfl
  unfold State.followOverlayLock
  split
  · exact h.of_view rfl rfl rfl rfl rfl rfl
  · unfold State.overlayLossTaken
    refine lost ?_ _
    split
    · exact h
    · exact h.discardOverlay _ _
    · exact h.discardOverlay _ _
    · split
      · exact h.discardOverlay _ _
      · exact h
  · exact h
  · exact h

theorem CacheInv.addReply (h : CacheInv s) (tag code : Byte) (status : Status) (payload : List Byte) :
    CacheInv (s.addReply tag code status payload) := h.of_view rfl rfl rfl rfl rfl rfl

theorem CacheInv.loadingEnds (h : CacheInv s) : CacheInv s.loadingEnds := by
  have paid {u : State} (hu : CacheInv u) (owed : Option Byte) : CacheInv (u.payOwed owed) := by
    cases owed
    · exact hu
    · exact hu.addReply _ _ _ _
  have drawn {u : State} (hu : CacheInv u) : CacheInv u.drawn := hu.of_view rfl rfl rfl rfl rfl rfl
  unfold State.loadingEnds
  split
  · next due owed _ =>
    split
    · have standby : CacheInv ((s.setPru { s.pru with limits := limitsAtLoading s.lfb.words }).setDctl .standby) :=
        h.of_view rfl rfl rfl rfl rfl rfl
      refine (CacheInv.followLiveLock ?_).serve
      unfold State.overlayAtLoadingEnd
      split
      · split
        · exact paid (drawn standby).followOverlayLock owed
        · exact (paid (drawn standby) owed).followOverlayLock
      · exact (paid standby owed).followOverlayLock
    · exact h
  · exact h
  · exact h

/-! ### Commands -/

theorem CacheInv.startRun (h : CacheInv s) : CacheInv s.startRun := by
  have left : CacheInv ((s.leaveOff.setDctl .running).setSeng { s.leaveOff.seng with output := .blanking }) := by
    refine h.of_view (by simp) (by simp) (by simp) ?_ (by simp) (by simp)
    simp [State.scanKey]
  exact left.takeActive.of_view rfl rfl rfl (sameRun_markOpening _ _).scan rfl rfl

theorem CacheInv.startEffect (h : CacheInv s) (tag : Byte) : CacheInv (startEffect tag s) := by
  unfold Machine.startEffect
  split
  · exact h.addReply _ _ _ _
  · split
    · exact h.addReply _ _ _ _
    · split
      · exact h.addReply _ _ _ _
      · exact (h.startRun.addReply _ _ _ _).serve

theorem CacheInv.stopEffect (h : CacheInv s) (run : s.RunInv) (tag : Byte) : CacheInv (stopEffect tag s) := by
  unfold Machine.stopEffect
  split
  · exact h.addReply _ _ _ _
  · next state => exact ((h.reachOff (run.scan_none (by rw [state]; decide))).addReply _ _ _ _).serve
  · next state => exact ((h.reachOff (run.scan_none (by rw [state]; decide))).addReply _ _ _ _).serve
  · split
    · exact (h.forceStop.addReply _ _ _ _).serve
    · exact h.of_view rfl rfl rfl rfl rfl rfl

theorem CacheInv.commitEffect (h : CacheInv s) (run : s.RunInv) (tag : Byte) (marker : Half) :
    CacheInv (commitEffect tag marker s) := by
  unfold Machine.commitEffect
  split
  · exact h.addReply _ _ _ _
  · split
    · exact h.addReply _ _ _ _
    · split
      · unfold commitInRun
        split
        · next sc k _ =>
          have started : CacheInv (s.commitAtOpening marker sc k) :=
            CacheInv.startScan (.of_empty rfl fun _ _ _ _ => rfl) _
          exact (started.addReply _ _ _ _).serve
        · exact h.of_view rfl rfl rfl rfl rfl rfl
      · next out =>
        refine (h.of_quiet ?_ (by simp) (by simp)).addReply _ _ _ _
        rw [State.scanKey_of_seng (s := s) (by simp)]
        exact run.scan_none_of_dctl out

theorem CacheInv.of_reset (ocmp : t.ocmp = Ocmp.initial) (marb : t.marb = Marb.initial) : CacheInv t :=
  .of_empty (by rw [ocmp]; rfl) fun _ _ _ _ => by rw [marb]; rfl

theorem plainCommand_active (s : State) (tag : Byte) (c : Command) (plain : plainCommand c = true) :
    (commandEffect tag c s).tbc.active = s.tbc.active := by
  cases c with
  | start => cases plain
  | stop => cases plain
  | softReset => cases plain
  | resetCadence => cases plain
  | commit marker => cases plain
  | writeTonePoints channel first points =>
    simp only [commandEffect, writeTonePointsEffect]
    (repeat' split) <;> rfl
  | writeRegion r =>
    simp only [commandEffect, writeRegionEffect]
    (repeat' split) <;> rfl
  | setFill red green blue =>
    simp only [commandEffect, setFillEffect]
    (repeat' split) <;> rfl
  | selectProfile index =>
    simp only [commandEffect, selectProfileEffect]
    (repeat' split) <;> rfl
  | discardShadow =>
    simp only [commandEffect, discardShadowEffect]
    (repeat' split) <;> rfl
  | _ => simp [commandEffect]

theorem CacheInv.command (h : CacheInv s) (run : s.RunInv) (tag : Byte) (c : Command) :
    CacheInv (commandEffect tag c s) := by
  have plain (c : Command) (hc : plainCommand c = true) : CacheInv (commandEffect tag c s) := by
    obtain ⟨-, -, -, -, marb, -, -, -, ocap, ocmp, -⟩ := plainCommand_frame s tag c hc
    exact h.of_view ocmp (by rw [marb]) (by rw [marb]) (sameRun_plainCommand s tag c hc).scan (by rw [ocap])
      (plainCommand_active s tag c hc)
  cases c with
  | start => exact h.startEffect tag
  | stop => exact h.stopEffect run tag
  | softReset =>
    simp only [commandEffect, softResetEffect]
    split
    · exact h.addReply _ _ _ _
    · split
      · exact h.addReply _ _ _ _
      · exact .of_reset rfl rfl
  | resetCadence => exact ((h.withCrp (s.crp.invalidate false)).takeActive.addReply tag 0x20 .ok []).serve
  | commit marker => exact h.commitEffect run tag marker
  | _ => exact plain _ rfl

end

/-- Every row keeps the overlay line cache. -/
theorem rowsLead_cacheInv : RowsLead (fun s => s.RunInv ∧ CacheInv s) CacheInv where
  dequeue _ _ h := ⟨h.1.of_same (.of_frame rfl rfl rfl), h.2.of_view rfl rfl rfl rfl rfl rfl⟩
  clock _ _ h := ⟨h.1.of_same (.of_frame rfl rfl rfl), h.2.of_view rfl rfl rfl rfl rfl rfl⟩
  liveLock _ _ h := ⟨h.1.of_same (.of_frame rfl rfl rfl), h.2.of_view rfl rfl rfl rfl rfl rfl⟩
  overlayLock _ _ h := ⟨h.1.of_same (.of_frame rfl rfl rfl), h.2.of_view rfl rfl rfl rfl rfl rfl⟩
  fprog _ _ h := ⟨h.1.of_same (.of_frame rfl rfl rfl), h.2.of_view rfl rfl rfl rfl rfl rfl⟩
  fprogFalls _ h :=
    have same := SameRun.of_frame (by simp) (by simp) (by simp)
    ⟨h.1.of_same same, h.2.of_same same (by simp) (by simp) (by simp) (by simp)⟩
  idle _ h := h.2
  serve _ h := h.serve
  assertReset _ _ := .of_reset rfl rfl
  releaseReset _ h := h.2.of_view rfl rfl rfl rfl rfl rfl
  loadingEnds _ h := h.2.loadingEnds
  followLiveLock _ _ h := h.2.followLiveLock
  takeLfs _ _ h := h.2.takeLfs
  takeLineStart _ _ h := h.2.takeLineStart
  takeLineEnd _ pixels _ h := h.2.takeLineEnd pixels
  takeBlanking _ _ h := h.2.takeBlanking
  lineOverdue _ _ h := h.2.lineOverdue
  maintenanceDue s h := by
    unfold State.maintenanceDue
    split <;> exact h.2.of_view rfl rfl rfl rfl rfl rfl
  maintenanceEnds _ h := h.2.maintenanceEnds
  transferEnds _ _ inProgress h := h.2.transferEnds inProgress
  minExpires _ h := h.2.expires.1
  deadlineExpires _ h := h.2.expires.2.1
  freeRunExpires _ h := h.2.expires.2.2
  planTimerExpires _ h := h.2.planTimerExpires
  outputTime _ h := h.2.outputTime
  followOverlayLock _ _ h := h.2.followOverlayLock
  overlayFrameStart _ _ h := h.2.overlayFrameStart
  overlayLineStart _ _ h := h.2.overlayLineStart
  overlayLineEnd _ pixels _ h := h.2.overlayLineEnd pixels
  packetBad _ h := h.2.raise _
  refused _ tag code status _ h := h.2.addReply tag code status []
  command _ tag c _ _ h := h.2.command h.1 tag c
  fuseProgramEnd _ h := h.2.of_same (.of_frame (by simp) (by simp) (by simp)) (by simp) (by simp) (by simp) (by simp)
  fuseLockEnd _ h := h.2.of_same (.of_frame (by simp) (by simp) (by simp)) (by simp) (by simp) (by simp) (by simp)

/-- Settles O38: the reply places hold the window's replies to sixteen, which leaves room for the notice; and a cached
line is one of the four of the target's set. -/
theorem buffersKept : Obligations.BuffersKept := by
  refine ⟨fun s t places taken => ⟨rowsLead_placesInv.step taken places, fun buffers => ?_⟩, ?_⟩
  · exact rowsLead_bufferInv.step taken ⟨places, buffers⟩
  · intro s t sched cache taken
    exact rowsLead_cacheInv.step taken ⟨sched.runInv, cache⟩

end Sys2Proof.Machine

namespace Sys2Proof.Machine

/-! ### The machine after reset -/

theorem reset_profileInv : ProfileInv State.reset := by decide

theorem reset_cadenceInv : CadenceInv State.reset := by
  refine ⟨fun e h => (by cases h), ?_⟩
  decide

theorem reset_schedulerInv : SchedulerInv State.reset := by decide

theorem reset_recordInv : RecordInv State.reset := by
  refine ⟨by decide, fun k h => absurd h (Nat.not_lt_zero k), fun c h => (by cases h), rfl⟩

theorem reset_layoutInv : LayoutInv State.reset := by
  refine ⟨by decide, trivial, ?_, ?_, by decide, ?_, by decide, ?_, ?_, ?_, trivial⟩ <;> intro x h <;> cases h

theorem reset_minInv : MinInv State.reset := by
  refine ⟨by decide, fun due h => (by cases h), by decide⟩

theorem Curve.identity_point (k : Fin 65) : Curve.identity[k] = BitVec.ofNat 12 (min (64 * k.val) 4095) := by
  simp [Curve.identity]

/-- Settles O58: each invariant on the reset state, and the values read off it. -/
theorem resetInvariants : Obligations.ResetInvariants := by
  refine ⟨reset_memory_wf, reset_profileInv, reset_cadenceInv, reset_schedulerInv, reset_recordInv, by decide,
    .of_reset rfl, by decide, by decide, reset_minInv, reset_layoutInv, .of_reset rfl rfl, rfl, ⟨rfl, rfl, rfl⟩, ?_, ?_,
    by decide, rfl, rfl⟩
  · exact ⟨rfl, rfl, rfl, rfl, rfl, rfl, rfl, rfl, rfl, rfl, rfl, rfl, rfl, rfl, rfl, rfl⟩
  · refine ⟨rfl, fun k => ⟨Curve.identity_point k, rfl, rfl⟩, ?_, rfl, rfl⟩
    decide

end Sys2Proof.Machine

namespace Sys2Proof.Machine

open State

/-! ### Patch choices (R98) -/

theorem lookup_filter_key {α : Type} (l : List (Nat × α)) (keep : Nat → Bool) (n : Nat) :
    (l.filter fun x => keep x.1).lookup n = if keep n then l.lookup n else none := by
  induction l with
  | nil => simp
  | cons x rest ih =>
    obtain ⟨k, v⟩ := x
    by_cases here : n = k
    · subst here
      cases kept : keep n <;> simp [kept, ih]
    · cases kept : keep k <;> simp [kept, ih, beq_eq_false_iff_ne.mpr here, List.lookup_cons]

theorem lookup_map_same {α : Type} (l : List Nat) (v : α) (n : Nat) :
    (l.map fun k => (k, v)).lookup n = if n ∈ l then some v else none := by
  induction l with
  | nil => rfl
  | cons k rest ih =>
    by_cases here : n = k
    · subst here
      simp
    · simp [List.lookup_cons, beq_eq_false_iff_ne.mpr here, ih, here]

theorem lookup_append_pairs {α : Type} (l l' : List (Nat × α)) (n : Nat) :
    (l ++ l').lookup n = (l.lookup n).or (l'.lookup n) := by
  induction l with
  | nil => rfl
  | cons x rest ih =>
    obtain ⟨k, v⟩ := x
    rw [List.cons_append, List.lookup_cons, List.lookup_cons]
    cases n == k
    · exact ih
    · rfl

section
variable (sc : Scan) (c : Capu)

/-- The read window: the next output line and the three after it, up to the last (R94). -/
theorem Scan.mem_window (n : Nat) : n ∈ sc.window ↔ sc.nextOut ≤ n ∧ n ≤ sc.nextOut + 3 ∧ n < sc.lines := by
  simp only [Scan.window, List.mem_filter, List.mem_cons, List.not_mem_nil, or_false, decide_eq_true_eq]
  omega

theorem Scan.withChoices_of_none (h : sc.patchFrom = none) : sc.withChoices c = sc := by
  unfold Scan.withChoices
  rw [h]

theorem Scan.withChoices_eq : sc.withChoices c = { sc with choices := (sc.withChoices c).choices } := by
  unfold Scan.withChoices
  split <;> rfl

/-- What is chosen for a line from the next one out on: what was, or, where none was and the patched line is in the
window, the patch source. -/
theorem Scan.withChoices_lookup {k n : Nat} (h : sc.patchFrom = some k) (out : sc.nextOut ≤ n) :
    (sc.withChoices c).choices.lookup n = (sc.choices.lookup n).or
      (if (k ≤ n ∧ n ≤ sc.nextOut + 3 ∧ n < sc.lines) ∧ sc.choices.lookup n = none then some (sc.patchSource c)
        else none) := by
  have kept (m : Nat) : (sc.choices.filter fun x => decide (sc.nextOut ≤ x.1)).lookup m =
      if sc.nextOut ≤ m then sc.choices.lookup m else none := by
    rw [lookup_filter_key sc.choices fun m => decide (sc.nextOut ≤ m)]
    simp only [decide_eq_true_eq]
  unfold Scan.withChoices
  rw [h]
  dsimp only
  rw [lookup_append_pairs, lookup_map_same, kept, if_pos out]
  congr 1
  simp only [List.mem_filter, Scan.mem_window, kept, if_pos out, Bool.and_eq_true, decide_eq_true_eq,
    Option.isNone_iff_eq_none]
  congr 1
  simp only [eq_iff_iff]
  tauto

theorem Scan.withChoices_choice_of_some {k n : Nat} (h : sc.patchFrom = some k) (out : sc.nextOut ≤ n)
    {chosen : Option SlotId} (was : sc.choices.lookup n = some chosen) : (sc.withChoices c).choice n = chosen := by
  unfold Scan.choice
  rw [sc.withChoices_lookup c h out, was]
  rfl

theorem Scan.withChoices_choice_of_none {k n : Nat} (h : sc.patchFrom = some k) (out : sc.nextOut ≤ n)
    (was : sc.choices.lookup n = none) (from_k : k ≤ n) (window : n ≤ sc.nextOut + 3) (last : n < sc.lines) :
    (sc.withChoices c).choice n = sc.patchSource c := by
  unfold Scan.choice
  rw [sc.withChoices_lookup c h out, was, if_pos ⟨⟨from_k, window, last⟩, rfl⟩]
  rfl

theorem Scan.withChoices_patchFrom : (sc.withChoices c).patchFrom = sc.patchFrom := by
  unfold Scan.withChoices
  split <;> rfl

/-- A line patched when nothing has been chosen yet is read from the patch source. -/
theorem Scan.patched_slotFor {k n : Nat} (fresh : sc.choices = []) (from_k : k ≤ n) (out : sc.nextOut ≤ n)
    (window : n ≤ sc.nextOut + 3) (last : n < sc.lines) :
    (Scan.withChoices { sc with patchFrom := some k } c).slotFor n = sc.patchSource c := by
  have chosen := Scan.withChoices_choice_of_none { sc with patchFrom := some k } c rfl out
    (by rw [show ({ sc with patchFrom := some k } : Scan).choices = [] from fresh]; rfl) from_k window last
  unfold Scan.slotFor
  rw [Scan.withChoices_patchFrom]
  dsimp only
  rw [if_pos from_k, chosen]
  rfl

end

/-! ### An abandonment, field by field (R17, R74, R95) -/

variable (s : State)

theorem Ssch.with_same_pending (x : Ssch) {p : Option PendingFrame} (h : p = x.pending) :
    { x with pending := p } = x := by
  subst h; rfl

theorem State.clearPending_ssch (frame : Word) : (s.clearPending frame).ssch =
    { s.ssch with pending := s.ssch.pending.filter fun p => decide (p.frame ≠ frame) } := by
  unfold State.clearPending
  cases found : s.ssch.pending with
  | none => exact (Ssch.with_same_pending _ (by rw [found]; rfl)).symm
  | some p =>
    dsimp only
    split
    · next named => simp [Option.filter, named]
    · next named => exact (Ssch.with_same_pending _ (by simp [found, Option.filter, named])).symm

theorem State.abandonCapture_marb (i : SlotId) : (s.abandonCapture i).marb =
    { s.marb with captureWrite := s.marb.captureWrite.filter fun r => decide (r.1 ≠ i) } := by
  unfold State.abandonCapture
  split <;> simp [State.undoCapture]

theorem State.abandonCapture_ssch (i : SlotId) : (s.abandonCapture i).ssch =
    { s.ssch with pending := s.ssch.pending.filter fun p => decide (s.capu.slots[i].frame ≠ some p.frame) } := by
  unfold State.abandonCapture
  cases named : s.capu.slots[i].frame with
  | none =>
    refine Eq.trans ?_ (Ssch.with_same_pending _ ?_).symm
    · simp
    · cases s.ssch.pending <;> rfl
  | some frame =>
    simp only [State.engineAbandoned_frame, State.clearPending_ssch, State.undoCapture_frame, ne_eq,
      Option.some.injEq]
    congr 2
    funext p
    simp only [eq_comm]

/-- A scan in flight that is not patched yet is patched from its next line (R95). -/
theorem State.switchToPatching_seng {sc : Scan} (found : s.seng.scan = some sc) : s.switchToPatching.seng =
    if sc.patchFrom = none then
      { s.seng with
        scan := some (Scan.withChoices { sc with patchFrom := some sc.nextLine } s.capu), readAhead := [] }
    else s.seng := by
  unfold State.switchToPatching
  rw [found]
  dsimp only
  cases patched : sc.patchFrom <;> simp

theorem State.engineAbandoned_seng (i : SlotId) {sc : Scan} (found : s.seng.scan = some sc) :
    (s.engineAbandoned i).seng =
      if (sc.kind = .deferred ∧ sc.scanSource = some i) ∧ sc.patchFrom = none then
        { s.seng with
          scan := some (Scan.withChoices { sc with patchFrom := some sc.nextLine } s.capu), readAhead := [] }
      else s.seng := by
  unfold State.engineAbandoned
  rw [found]
  dsimp only
  split
  · next chase => rw [s.switchToPatching_seng found]; simp [chase]
  · next other => rw [if_neg fun h => other h.1]

theorem State.engineAbandoned_seng_of_none (i : SlotId) (idle : s.seng.scan = none) :
    (s.engineAbandoned i).seng = s.seng := by
  unfold State.engineAbandoned
  rw [idle]

theorem State.engineMalformed_seng (frame : Word) (k : Nat) {sc : Scan} (found : s.seng.scan = some sc) :
    (s.engineMalformed frame k).seng =
      if (sc.showsFresh frame = true ∧ sc.losesLine k = true) ∧ sc.patchFrom = none then
        { s.seng with
          scan := some (Scan.withChoices { sc with patchFrom := some sc.nextLine } s.capu), readAhead := [] }
      else s.seng := by
  unfold State.engineMalformed
  rw [found]
  dsimp only
  split
  · next fresh => rw [s.switchToPatching_seng found]; simp [fresh]
  · next other => rw [if_neg fun h => other h.1]

/-- The state an abandonment hands to SENG: the capture undone and the pending frame cleared. -/
theorem State.abandonCapture_seng (i : SlotId) : ∃ u : State, u.seng = s.seng ∧ u.capu = (s.abandonCapture i).capu
    ∧ (s.abandonCapture i).seng = (u.engineAbandoned i).seng := by
  unfold State.abandonCapture
  split
  · next frame _ => exact ⟨(s.undoCapture i).clearPending frame, by simp, by simp, rfl⟩
  · exact ⟨s.undoCapture i, by simp, by simp, rfl⟩

theorem State.abandonCapture_seng_eq (i : SlotId) {sc : Scan} (found : s.seng.scan = some sc) :
    (s.abandonCapture i).seng =
      if (sc.kind = .deferred ∧ sc.scanSource = some i) ∧ sc.patchFrom = none then
        { s.seng with
          scan := some (Scan.withChoices { sc with patchFrom := some sc.nextLine } (s.abandonCapture i).capu)
          readAhead := [] }
      else s.seng := by
  obtain ⟨u, seng, capu, same⟩ := s.abandonCapture_seng i
  rw [same, u.engineAbandoned_seng i (by rw [seng, found]), seng, capu]

theorem State.abandonCapture_seng_of_none (i : SlotId) (idle : s.seng.scan = none) :
    (s.abandonCapture i).seng = s.seng := by
  obtain ⟨u, seng, -, same⟩ := s.abandonCapture_seng i
  rw [same, u.engineAbandoned_seng_of_none i (by rw [seng, idle]), seng]

theorem State.abandonCapture_eq (i : SlotId) : s.abandonCapture i =
    { s with
      capu := (s.abandonCapture i).capu, marb := (s.abandonCapture i).marb, ssch := (s.abandonCapture i).ssch
      seng := (s.abandonCapture i).seng } := by
  have frame := s.abandonCapture_frame i
  revert frame
  generalize s.abandonCapture i = t
  obtain ⟨⟩ := t
  obtain ⟨⟩ := s
  simp only [State.mk.injEq]
  tauto

end Sys2Proof.Machine

namespace Sys2Proof.Machine

open State

/-! ### A malformation, field by field (R9) -/

/-- A malformation at line k hits this scan: a fresh scan of the frame loses a line, or a chase reads the slot of the
capture that is abandoned (R9, R95). -/
def Scan.hitBy (sc : Scan) (c : Capu) (frame : Word) (k : Nat) : Prop :=
  (sc.kind = .live ∨ sc.kind = .deferred) ∧ sc.frame = some frame
      ∧ (k < sc.lines ∨ sc.kind = .live ∧ sc.nextLine < sc.lines)
    ∨ sc.kind = .deferred ∧ ∃ i, (c.fill = some i ∧ c.slots[i].frame = some frame) ∧ sc.scanSource = some i

theorem Scan.fresh_loses_iff (sc : Scan) (frame : Word) (k : Nat) :
    sc.showsFresh frame = true ∧ sc.losesLine k = true ↔
      (sc.kind = .live ∨ sc.kind = .deferred) ∧ sc.frame = some frame
        ∧ (k < sc.lines ∨ sc.kind = .live ∧ sc.nextLine < sc.lines) := by
  simp [Scan.showsFresh, Scan.losesLine, and_assoc]

variable (s : State)

theorem State.abandonFrame_of_mine {frame : Word} {i : SlotId} (fill : s.capu.fill = some i)
    (mine : s.capu.slots[i].frame = some frame) : s.abandonFrame frame = s.abandonCapture i := by
  unfold State.abandonFrame
  rw [Capu.fillFor_eq_some.mpr ⟨fill, mine⟩]

theorem State.abandonFrame_of_not_mine {frame : Word}
    (other : ∀ i, s.capu.fill = some i → s.capu.slots[i].frame ≠ some frame) : s.abandonFrame frame = s := by
  unfold State.abandonFrame
  rw [Capu.fillFor_eq_none.mpr other]

theorem State.malformed_lrx (frame : Word) (k : Nat) :
    (s.malformed frame k).lrx = { s.lrx with check := .closed } := by
  simp [State.malformed, State.closeCheck]

theorem State.malformed_evu (frame : Word) (k : Nat) : (s.malformed frame k).evu = s.evu.raise .malformedFrame := by
  simp [State.malformed, State.raise]

/-- A malformation takes out of CAPU, MARB and the pending frame what an abandonment of the frame's capture does. -/
theorem State.malformed_parts (frame : Word) (k : Nat) :
    (s.malformed frame k).capu = (s.abandonFrame frame).capu ∧ (s.malformed frame k).marb = (s.abandonFrame frame).marb
      ∧ (s.malformed frame k).ssch =
        { s.ssch with pending := s.ssch.pending.filter fun p => decide (p.frame ≠ frame) } := by
  have closed : (s.closeCheck.raise .malformedFrame).capu = s.capu ∧ (s.closeCheck.raise .malformedFrame).marb = s.marb
      ∧ (s.closeCheck.raise .malformedFrame).ssch = s.ssch := by simp
  revert closed
  unfold State.malformed
  generalize s.closeCheck.raise .malformedFrame = u
  rintro ⟨capu, marb, ssch⟩
  simp only [State.engineMalformed_frame, State.clearPending_frame, State.clearPending_ssch]
  by_cases mine : ∃ i, s.capu.fill = some i ∧ s.capu.slots[i].frame = some frame
  · obtain ⟨i, fill, named⟩ := mine
    rw [s.abandonFrame_of_mine fill named, u.abandonFrame_of_mine (by rwa [capu]) (by rwa [capu])]
    simp only [State.abandonCapture_capu, State.abandonCapture_marb, State.abandonCapture_ssch, capu, marb, ssch, named,
      true_and]
    congr 1
    cases s.ssch.pending with
    | none => rfl
    | some p =>
      by_cases same : p.frame = frame
      · simp [Option.filter, same]
      · simp [Option.filter, same, Ne.symm same]
  · have other (c : Capu) (h : c = s.capu) : ∀ i, c.fill = some i → c.slots[i].frame ≠ some frame := by
      rintro i fill named
      exact mine ⟨i, by rwa [h] at fill, by rwa [h] at named⟩
    rw [s.abandonFrame_of_not_mine (other s.capu rfl), u.abandonFrame_of_not_mine (other u.capu capu)]
    exact ⟨capu, marb, by rw [ssch]⟩

/-- What the abandonment within a malformation does to the engine. -/
theorem State.abandonFrame_seng (frame : Word) {sc : Scan} (found : s.seng.scan = some sc) :
    (s.abandonFrame frame).seng =
      if (sc.kind = .deferred ∧ ∃ i, (s.capu.fill = some i ∧ s.capu.slots[i].frame = some frame) ∧ sc.scanSource = some i)
          ∧ sc.patchFrom = none then
        { s.seng with
          scan := some (Scan.withChoices { sc with patchFrom := some sc.nextLine } (s.abandonFrame frame).capu)
          readAhead := [] }
      else s.seng := by
  by_cases mine : ∃ i, s.capu.fill = some i ∧ s.capu.slots[i].frame = some frame
  · obtain ⟨i, fill, named⟩ := mine
    have only : (∃ j, (s.capu.fill = some j ∧ s.capu.slots[j].frame = some frame) ∧ sc.scanSource = some j)
        ↔ sc.scanSource = some i := by
      constructor
      · rintro ⟨j, ⟨fill', -⟩, source⟩
        rw [fill] at fill'
        cases fill'
        exact source
      · exact fun source => ⟨i, ⟨fill, named⟩, source⟩
    rw [s.abandonFrame_of_mine fill named, s.abandonCapture_seng_eq i found]
    simp only [only]
  · have other : ∀ i, s.capu.fill = some i → s.capu.slots[i].frame ≠ some frame :=
      fun i fill named => mine ⟨i, fill, named⟩
    rw [s.abandonFrame_of_not_mine other, if_neg]
    rintro ⟨⟨-, i, held, -⟩, -⟩
    exact mine ⟨i, held⟩

/-- The scan in flight is patched from its next line when the malformation hits it and it is not patched yet. -/
theorem State.malformed_seng (frame : Word) (k : Nat) {sc : Scan} (found : s.seng.scan = some sc) :
    ((sc.hitBy s.capu frame k → sc.patchFrom = none →
        (s.malformed frame k).seng = { s.seng with
          scan := some (Scan.withChoices { sc with patchFrom := some sc.nextLine } (s.malformed frame k).capu)
          readAhead := [] })
      ∧ (¬ sc.hitBy s.capu frame k ∨ sc.patchFrom.isSome = true → (s.malformed frame k).seng = s.seng)) := by
  have closed : (s.closeCheck.raise .malformedFrame).capu = s.capu
      ∧ (s.closeCheck.raise .malformedFrame).seng = s.seng := by simp
  revert closed
  unfold State.malformed Scan.hitBy
  generalize s.closeCheck.raise .malformedFrame = u
  rintro ⟨capu, seng⟩
  have abandoned := u.abandonFrame_seng frame (by rw [seng, found])
  rw [seng, capu] at abandoned
  have cleared : ((u.abandonFrame frame).clearPending frame).seng = (u.abandonFrame frame).seng := by simp
  simp only [State.engineMalformed_frame, State.clearPending_frame]
  by_cases patched : sc.patchFrom = none
  · by_cases chased : sc.kind = .deferred
        ∧ ∃ i, (s.capu.fill = some i ∧ s.capu.slots[i].frame = some frame) ∧ sc.scanSource = some i
    · rw [if_pos ⟨chased, patched⟩] at abandoned
      have now := State.engineMalformed_seng ((u.abandonFrame frame).clearPending frame) frame k
        (by rw [cleared, abandoned])
      rw [Scan.withChoices_patchFrom, if_neg (by rintro ⟨-, x⟩; cases x), cleared, abandoned] at now
      refine ⟨fun _ _ => now, fun h => ?_⟩
      rcases h with miss | already
      · exact absurd (.inr chased) miss
      · rw [patched] at already; cases already
    · rw [if_neg fun h => chased h.1] at abandoned
      have now := State.engineMalformed_seng ((u.abandonFrame frame).clearPending frame) frame k (sc := sc)
        (by rw [cleared, abandoned, found])
      simp only [Scan.fresh_loses_iff, cleared, abandoned, State.clearPending_frame] at now
      rw [now]
      constructor
      · intro hit _
        rw [if_pos ⟨hit.resolve_right chased, patched⟩]
      · intro miss
        rw [if_neg]
        rintro ⟨hit, -⟩
        exact (miss.resolve_right (by simp [patched])) (.inl hit)
  · rw [if_neg fun h => patched h.2] at abandoned
    have now := State.engineMalformed_seng ((u.abandonFrame frame).clearPending frame) frame k (sc := sc)
      (by rw [cleared, abandoned, found])
    rw [if_neg fun h => patched h.2, cleared, abandoned] at now
    exact ⟨fun _ h => absurd h patched, fun _ => now⟩

theorem State.malformed_seng_of_none (frame : Word) (k : Nat) (idle : s.seng.scan = none) :
    (s.malformed frame k).seng = s.seng := by
  have abandoned (u : State) (h : u.seng.scan = none) : (u.abandonFrame frame).seng = u.seng := by
    unfold State.abandonFrame
    split
    · exact u.abandonCapture_seng_of_none _ h
    · rfl
  have closed : (s.closeCheck.raise .malformedFrame).seng = s.seng := by simp
  unfold State.malformed State.engineMalformed
  rw [State.clearPending_frame _ _ |>.2.2.2.2.2.2.2.1, abandoned _ (by rw [closed, idle]), closed, idle]
  simp [abandoned _ (show (s.closeCheck.raise .malformedFrame).seng.scan = none by rw [closed, idle])]

theorem State.malformed_eq (frame : Word) (k : Nat) : s.malformed frame k =
    { s with
      lrx := (s.malformed frame k).lrx, evu := (s.malformed frame k).evu, capu := (s.malformed frame k).capu
      marb := (s.malformed frame k).marb, ssch := (s.malformed frame k).ssch, seng := (s.malformed frame k).seng } := by
  have frame' := s.malformed_frame frame k
  revert frame'
  generalize s.malformed frame k = t
  obtain ⟨⟩ := t
  obtain ⟨⟩ := s
  simp only [State.mk.injEq]
  tauto

/-- Settles O33: a malformation is the abandonment of the frame's capture with the reports to SSCH and SENG, and patching
chooses each line's source once, when it enters the read window. -/
theorem malformedFrame : Obligations.MalformedFrame := by
  refine ⟨fun frame k s => ?_, fun i s => ?_, fun sc c => ?_, fun sc c k fresh => ?_⟩
  · obtain ⟨capu, marb, ssch⟩ := s.malformed_parts frame k
    refine ⟨s.malformed_lrx frame k, s.malformed_evu frame k, ?_, ?_, ssch,
      fun sc found => s.malformed_seng frame k found, s.malformed_seng_of_none frame k, s.malformed_eq frame k⟩
    · rintro i ⟨fill, named⟩
      rw [capu, marb, s.abandonFrame_of_mine fill named, s.abandonCapture_capu, s.abandonCapture_marb]
      exact ⟨rfl, rfl⟩
    · intro other
      rw [capu, marb, s.abandonFrame_of_not_mine fun i fill named => other i ⟨fill, named⟩]
      exact ⟨rfl, rfl⟩
  · refine ⟨s.abandonCapture_capu i, s.abandonCapture_marb i, s.abandonCapture_ssch i, ?_, ?_, s.abandonCapture_eq i⟩
    · intro sc found chase source patched
      rw [s.abandonCapture_seng_eq i found, if_pos ⟨⟨chase, source⟩, patched⟩]
    · intro other
      cases found : s.seng.scan with
      | none => exact s.abandonCapture_seng_of_none i found
      | some sc =>
        rw [s.abandonCapture_seng_eq i found, if_neg]
        rintro ⟨⟨chase, source⟩, patched⟩
        rcases other sc found with h | h | h
        · exact h chase
        · exact h source
        · rw [patched] at h; cases h
  · refine ⟨sc.withChoices_eq c, sc.withChoices_of_none c, fun k n patched out => ⟨?_, ?_⟩⟩
    · exact fun chosen was => sc.withChoices_choice_of_some c patched out was
    · exact fun was from_k window last => sc.withChoices_choice_of_none c patched out was from_k window last
  · refine ⟨Scan.withChoices_eq _ c, fun n from_k out window last => ?_⟩
    have read := sc.patched_slotFor c fresh from_k out window last
    refine ⟨fun i latest other width lines => ?_, fun unfit => ?_⟩
    · rw [read, Scan.patchSource, latest]
      exact if_pos ⟨other, width, lines⟩
    · rw [read, Scan.patchSource]
      cases latest : c.latest with
      | none => rfl
      | some i =>
        refine if_neg ?_
        rintro ⟨other, width, lines⟩
        rcases unfit i latest with h | h | h
        · exact other h
        · exact h width
        · exact h lines

end Sys2Proof.Machine

namespace Sys2Proof.Machine

open State

/-! ### The Live Port's arrivals, taken and not taken (R2 to R4, R176) -/

section
variable {s : State}

/-- With the link LOCKED a Live Port arrival acts on the state `dt` later. -/
theorem liveArrival_of (h : s.hearsLive) (dt : Nat) (act : State → State) :
    arrivalOutsideLoading dt (State.whenLocked act) s = act (s.after dt) := by
  rw [arrivalOutsideLoading_of h.1, whenLocked_of h]

theorem liveArrival_held (h : s.pins.reset = true) (dt : Nat) (act : State → State) :
    arrivalOutsideLoading dt (State.whenLocked act) s = s := arrival_held h dt _

/-- In LOADING, or with the link DOWN, only the time passes. -/
theorem liveArrival_not_taken (released : s.pins.reset = false) (h : s.dctl.isLoading = true ∨ s.lrx.link = .down)
    (dt : Nat) (act : State → State) : arrivalOutsideLoading dt (State.whenLocked act) s = s.after dt := by
  unfold arrivalOutsideLoading
  rw [arrival_of released]
  rcases h with loading | down
  · rw [if_pos (by simpa using loading)]
  · split
    · rfl
    · unfold State.whenLocked
      rw [show (s.after dt).lrx.link = .down from down]

/-- The period check of R7 as a distance. -/
theorem periodAccepted_iff (period lineTime : Nat) :
    periodAccepted period lineTime = true ↔ 64 * ((period : Int) - lineTime).natAbs ≤ lineTime := by
  simp only [periodAccepted, Bool.and_eq_true, decide_eq_true_eq]
  omega

/-- A line start in ARRIVING is accepted with no line open and a period within one sixty-fourth of the line time; line 0
is not checked (R6, R7). -/
def FrameCheck.accepts (f : FrameCheck) (clock : Nat) : Prop :=
  f.lineOpen = false ∧ (f.linesSeen = 0 ∨ 64 * (((clock - f.lineStart : Nat) : Int) - f.lineTime).natAbs ≤ f.lineTime)

theorem State.arrivingLineStart_accepted {f : FrameCheck} (h : f.accepts s.clock) : s.arrivingLineStart f =
    s.setLrx { s.lrx with check := .arriving { f with lineOpen := true, lineStart := s.clock } } := by
  obtain ⟨closed, period⟩ := h
  rw [← periodAccepted_iff] at period
  simp [State.arrivingLineStart, closed, period]

theorem State.arrivingLineStart_refused {f : FrameCheck} (h : ¬ f.accepts s.clock) :
    s.arrivingLineStart f = s.malformed f.frame f.linesSeen := by
  unfold FrameCheck.accepts at h
  rw [← periodAccepted_iff] at h
  unfold State.arrivingLineStart
  cases opened : f.lineOpen with
  | true => simp
  | false => simp only [opened, true_and] at h; simp [h]

end

/-- Settles O35: each live arrival by check state, and none of them taken with the link DOWN, in LOADING or under the
reset line. -/
theorem lineStart : Obligations.LineStart := by
  refine ⟨fun dt s hears => ⟨?_, ?_, ?_⟩, fun dt pixels s => ⟨fun held => ?_, fun released off => ?_⟩⟩
  · show execLineStart dt s = _
    unfold execLineStart
    rw [liveArrival_of hears]
    unfold State.takeLineStart
    cases found : s.lrx.check with
    | closed => simp only [State.after_lrx, found]
    | counted f => simp only [State.after_lrx, found]
    | arriving f =>
      simp only [State.after_lrx, found]
      split
      · next accepted => rw [State.arrivingLineStart_accepted (s := s.after dt) accepted]; rfl
      · next refused => rw [State.arrivingLineStart_refused (s := s.after dt) refused]
  · show execBlankingStart dt s = _
    unfold execBlankingStart
    rw [liveArrival_of hears]
    unfold State.takeBlanking
    cases found : s.lrx.check with
    | closed => simp only [State.after_lrx, found]
    | arriving f => simp only [State.after_lrx, found]
    | counted f => simp only [State.after_lrx, found]; rfl
  · show execLineOverdueExpiry dt s = _
    unfold execLineOverdueExpiry
    rw [liveArrival_of hears]
    unfold State.lineOverdue
    cases found : s.lrx.check with
    | closed => simp only [State.after_lrx, found]
    | counted f => simp only [State.after_lrx, found]
    | arriving f =>
      have longest : f.lineStart + longestPeriod f.lineTime = f.lineStart + f.lineTime + f.lineTime / 64 :=
        (Nat.add_assoc _ _ _).symm
      simp only [State.after_lrx, found]
      split
      · next overdue => exact congrArg Host.Outcome.next (if_pos (longest.symm.trans_le overdue)).symm
      · next early => exact congrArg Host.Outcome.next (if_neg fun h => early (longest.trans_le h)).symm
  · refine ⟨?_, ?_, ?_, ?_, ?_⟩ <;> exact congrArg _ (liveArrival_held held dt _)
  · refine ⟨?_, ?_, ?_, ?_, ?_⟩ <;> exact congrArg _ (liveArrival_not_taken released off dt _)

end Sys2Proof.Machine

namespace Sys2Proof.Machine

open State

/-! ### A line that passes its checks, block by block (R14 to R16, R92) -/

section
variable (s : State)

theorem State.captureLine_room {frame : Word} {line : Nat} {pixels : List GamePixel} {i : SlotId}
    (fill : s.capu.fill = some i) (mine : s.capu.slots[i].frame = some frame) (room : s.capu.buffer.length < 4) :
    s.captureLine frame line pixels = s.setCapu { s.capu with
      buffer := s.capu.buffer ++ [{ slot := i, frame := frame, line := line, pixels := pixels }] } := by
  unfold State.captureLine
  rw [Capu.fillFor_eq_some.mpr ⟨fill, mine⟩]
  exact if_pos room

theorem State.captureLine_full {frame : Word} {line : Nat} {pixels : List GamePixel} {i : SlotId}
    (fill : s.capu.fill = some i) (mine : s.capu.slots[i].frame = some frame) (full : 4 ≤ s.capu.buffer.length) :
    s.captureLine frame line pixels = (s.abandonCapture i).raise .captureAbandoned := by
  unfold State.captureLine
  rw [Capu.fillFor_eq_some.mpr ⟨fill, mine⟩]
  exact if_neg (Nat.not_lt.mpr full)

theorem State.captureLine_other {frame : Word} {line : Nat} {pixels : List GamePixel}
    (other : ∀ i, s.capu.fill = some i → s.capu.slots[i].frame ≠ some frame) :
    s.captureLine frame line pixels = s := by
  unfold State.captureLine
  rw [Capu.fillFor_eq_none.mpr other]

/-- A LIVE scan coupled to the frame produces the line, due one coupling delay after its line start (R92, R93). -/
theorem State.engineLine_coupled {frame : Word} {line lineStart : Nat} {pixels : List GamePixel} {sc : Scan}
    (found : s.seng.scan = some sc) (live : sc.kind = .live) (mine : sc.frame = some frame)
    (unpatched : sc.patchFrom = none) (next : sc.nextLine = line) (active : line < sc.lines) :
    (s.engineLine frame line lineStart pixels).seng = { s.seng with
      scan := some { sc with
        nextLine := line + 1, timingBase := lineStart + 4 * sc.lineTime, timingFrom := line + 1 }
      pipeline := s.seng.pipeline ++ [{ line := line, due := lineStart + 4 * sc.lineTime, pixels := pixels }]
      previous := some pixels } := by
  unfold State.engineLine
  rw [found]
  exact congrArg State.seng (if_pos ⟨live, mine, unpatched, next, active⟩)

theorem State.engineLine_uncoupled {frame : Word} {line lineStart : Nat} {pixels : List GamePixel}
    (other : ∀ sc, s.seng.scan = some sc →
      ¬ (sc.kind = .live ∧ sc.frame = some frame ∧ sc.patchFrom = none ∧ sc.nextLine = line ∧ line < sc.lines)) :
    s.engineLine frame line lineStart pixels = s := by
  unfold State.engineLine
  cases found : s.seng.scan with
  | none => rfl
  | some sc => exact if_neg (other sc found)

/-- CAPU touches the engine only where it is overrun with a chase of the fill slot in flight (R17, R95). -/
theorem State.captureLine_seng {frame : Word} {line : Nat} {pixels : List GamePixel}
    (unhit : ∀ sc, s.seng.scan = some sc → sc.kind = .deferred → sc.patchFrom = none → ∀ i, sc.scanSource = some i →
      s.capu.fill = some i → s.capu.slots[i].frame = some frame → s.capu.buffer.length < 4) :
    (s.captureLine frame line pixels).seng = s.seng := by
  by_cases mine : ∃ i, s.capu.fill = some i ∧ s.capu.slots[i].frame = some frame
  · obtain ⟨i, fill, named⟩ := mine
    by_cases room : s.capu.buffer.length < 4
    · rw [s.captureLine_room fill named room, State.setCapu_seng]
    · rw [s.captureLine_full fill named (Nat.not_lt.mp room)]
      simp only [State.raise_frame]
      cases found : s.seng.scan with
      | none => exact (s.abandonCapture_seng_of_none i found).trans rfl
      | some sc =>
        rw [s.abandonCapture_seng_eq i found, if_neg]
        rintro ⟨⟨chase, source⟩, unpatched⟩
        exact room (unhit sc found chase unpatched i source fill named)
  · rw [s.captureLine_other fun i fill named => mine ⟨i, fill, named⟩]

theorem Capu.fillFor_of_no_fill {c : Capu} (h : c.fill = none) (frame : Word) : c.fillFor frame = none := by
  rw [Capu.fillFor_eq_none]
  intro i fill
  rw [h] at fill
  cases fill

/-- A line end leaves an engine alone that shows no line of the frame and reads no slot it abandons. -/
theorem State.captureLine_engineLine_seng {frame : Word} {line lineStart : Nat} {pixels : List GamePixel}
    (unhit : (s.captureLine frame line pixels).seng = s.seng)
    (other : ∀ sc, s.seng.scan = some sc →
      ¬ (sc.kind = .live ∧ sc.frame = some frame ∧ sc.patchFrom = none ∧ sc.nextLine = line ∧ line < sc.lines)) :
    ((s.captureLine frame line pixels).engineLine frame line lineStart pixels).seng = s.seng := by
  rw [State.engineLine_uncoupled _ (by rwa [unhit]), unhit]

theorem State.countLine_lrx (f : FrameCheck) : (s.countLine f).lrx = { s.lrx with
    check := if f.linesSeen + 1 = f.lines then .counted { f with linesSeen := f.linesSeen + 1, lineOpen := false }
      else .arriving { f with linesSeen := f.linesSeen + 1, lineOpen := false } } := by
  unfold State.countLine
  dsimp only
  split <;> simp

/-- The last line completes the frame's capture; any other leaves CAPU (R16). -/
theorem State.countLine_capu (f : FrameCheck) : (s.countLine f).capu =
    if f.linesSeen + 1 = f.lines then
      match s.capu.fillFor f.frame with
      | some i => s.capu.complete i s.scanSource
      | none => s.capu
    else s.capu := by
  unfold State.countLine State.captureFrameEnd
  dsimp only
  split
  · simp only [State.setLrx_capu]
    cases s.capu.fillFor f.frame <;> rfl
  · rfl

end

section
variable (c : Capu) (i : SlotId) (source : Option SlotId)

theorem Capu.complete_latest : (c.complete i source).latest = some i := by
  unfold Capu.complete Capu.releaseOld Capu.release
  split
  · rfl
  · split <;> rfl

/-- At a completion the captured slot is COMPLETE, the latest before it is emptied unless it is the scan source, and the
third stays (R16). -/
theorem Capu.complete_slots (j : SlotId) : (c.complete i source).slots[j] =
    if j = i then { c.slots[i] with state := .complete }
    else if c.latest = some j ∧ source ≠ some j then SlotRecord.emptied
    else c.slots[j] := by
  have base : (c.slots.set i.val { c.slots[i] with state := .complete } i.isLt)[j] =
      if j = i then { c.slots[i] with state := .complete } else c.slots[j] := by
    rw [slots_set]
    by_cases here : i = j
    · rw [if_pos here, if_pos here.symm]
    · rw [if_neg here, if_neg (Ne.symm here)]
  unfold Capu.complete Capu.releaseOld
  split
  · next none =>
    have gone : ∀ k, c.latest = some k → k = i := by
      intro k latest
      by_contra other
      rw [latest] at none
      simp [Option.filter, other] at none
    rw [base]
    by_cases here : j = i
    · rw [if_pos here, if_pos here]
    · rw [if_neg here, if_neg here, if_neg fun h => here (gone j h.1)]
  · next k old =>
    obtain ⟨latest, other⟩ := Option.filter_eq_some_iff.mp old
    have other : k ≠ i := by simpa using other
    split
    · next held =>
      rw [base]
      by_cases here : j = i
      · rw [if_pos here, if_pos here]
      · rw [if_neg here, if_neg here, if_neg]
        rintro ⟨was, free⟩
        rw [latest] at was
        cases was
        exact free held
    · next free =>
      unfold Capu.release
      dsimp only
      rw [slots_set, base]
      by_cases here : k = j
      · subst here
        rw [if_pos rfl, if_neg other, if_pos ⟨latest, free⟩]
      · rw [if_neg here, if_neg (c := c.latest = some j ∧ source ≠ some j)]
        rintro ⟨was, -⟩
        rw [latest] at was
        exact here (Option.some.inj was)

end

/-! ### The line end as a whole -/

section
variable (s : State) (f : FrameCheck) (pixels : List GamePixel)

/-- A line taken by CAPU, by SENG and by the check state. -/
def State.lineTaken : State := (s.handOn f pixels).countLine f

theorem State.lineTaken_seng :
    (s.lineTaken f pixels).seng =
      ((s.captureLine f.frame f.linesSeen pixels).engineLine f.frame f.linesSeen f.lineStart pixels).seng := by
  simp [State.lineTaken, State.handOn]

/-- What CAPU leaves of the ports, the events and the scheduler is what the line leaves. -/
theorem State.lineTaken_frame :
    (s.lineTaken f pixels).marb = (s.captureLine f.frame f.linesSeen pixels).marb
      ∧ (s.lineTaken f pixels).evu = (s.captureLine f.frame f.linesSeen pixels).evu
      ∧ (s.lineTaken f pixels).ssch = (s.captureLine f.frame f.linesSeen pixels).ssch
      ∧ (s.lineTaken f pixels).free = s.free := by
  simp [State.lineTaken, State.handOn]

theorem State.lineTaken_lrx : (s.lineTaken f pixels).lrx = { s.lrx with
    check := if f.linesSeen + 1 = f.lines then .counted { f with linesSeen := f.linesSeen + 1, lineOpen := false }
      else .arriving { f with linesSeen := f.linesSeen + 1, lineOpen := false } } := by
  rw [State.lineTaken, State.countLine_lrx, (s.handOn_frame f pixels).2.2.1]

theorem State.lineTaken_capu : (s.lineTaken f pixels).capu =
    if f.linesSeen + 1 = f.lines then
      match (s.captureLine f.frame f.linesSeen pixels).capu.fillFor f.frame with
      | some i => (s.captureLine f.frame f.linesSeen pixels).capu.complete i s.scanSource
      | none => (s.captureLine f.frame f.linesSeen pixels).capu
    else (s.captureLine f.frame f.linesSeen pixels).capu := by
  have source : (s.handOn f pixels).scanSource = s.scanSource :=
    ((sameRun_captureLine s _ _ _).trans (sameRun_engineLine _ _ _ _ _)).source
  have capu : (s.handOn f pixels).capu = (s.captureLine f.frame f.linesSeen pixels).capu := by simp [State.handOn]
  rw [State.lineTaken, State.countLine_capu, source, capu]

theorem State.lineTaken_eq : s.lineTaken f pixels =
    { s with
      lrx := (s.lineTaken f pixels).lrx, capu := (s.lineTaken f pixels).capu, marb := (s.lineTaken f pixels).marb
      ssch := (s.lineTaken f pixels).ssch, seng := (s.lineTaken f pixels).seng, evu := (s.lineTaken f pixels).evu } := by
  have frame := ((s.handOn f pixels).countLine_frame f)
  have frame' := s.handOn_frame f pixels
  revert frame frame'
  rw [show (s.handOn f pixels).countLine f = s.lineTaken f pixels from rfl]
  generalize s.lineTaken f pixels = t
  generalize s.handOn f pixels = u
  obtain ⟨⟩ := t
  obtain ⟨⟩ := u
  obtain ⟨⟩ := s
  simp only [State.mk.injEq]
  rintro ⟨⟩ ⟨⟩
  simp_all

end

/-- Settles O36: CAPU takes the line or is overrun, SENG produces it or not, and the check state counts it. -/
theorem lineEnd : Obligations.LineEnd := by
  intro dt pixels s hears
  have taken : exec (.lineEnd dt pixels) s = .next ((s.after dt).takeLineEnd pixels).serve :=
    congrArg Host.Outcome.next (liveArrival_of hears dt fun t => (t.takeLineEnd pixels).serve)
  rw [taken]
  refine ⟨fun ignored => ?_, fun f arriving opened => ⟨fun wrong => ?_, fun passes => ?_⟩⟩
  · unfold State.takeLineEnd
    rcases ignored with closed | ⟨f, counted⟩ | ⟨f, arriving, closed⟩
    · rw [show (s.after dt).lrx.check = _ from closed]
    · rw [show (s.after dt).lrx.check = _ from counted]
    · rw [show (s.after dt).lrx.check = _ from arriving]
      simp [closed]
  · unfold State.takeLineEnd
    rw [show (s.after dt).lrx.check = _ from arriving]
    simp [opened, wrong]
  · have result : (s.after dt).takeLineEnd pixels = (s.after dt).lineTaken f pixels := by
      unfold State.takeLineEnd
      rw [show (s.after dt).lrx.check = _ from arriving]
      simp [opened, passes, State.lineTaken]
    rw [result]
    obtain ⟨marb, evu, ssch, free⟩ := (s.after dt).lineTaken_frame f pixels
    have lrx := (s.after dt).lineTaken_lrx f pixels
    have capu := (s.after dt).lineTaken_capu f pixels
    have seng := (s.after dt).lineTaken_seng f pixels
    have whole := (s.after dt).lineTaken_eq f pixels
    generalize (s.after dt).lineTaken f pixels = v at *
    obtain ⟨-, -, lrx', capu', -, -, ssch', seng', -, -, -, -, -, -, -, evu', -, -, -, -⟩ := v.serve_frame
    refine ⟨_, v, rfl, rfl, free, ?_, ?_, ?_, ?_, ?_, ?_, ?_, ?_, ?_⟩
    · rw [lrx', lrx]; rfl
    · intro i fill mine room
      rw [State.captureLine_room (s.after dt) fill mine room] at capu evu ssch
      have again : ∀ b, ({ s.capu with buffer := b } : Capu).fillFor f.frame = some i :=
        fun b => Capu.fillFor_eq_some.mpr ⟨fill, mine⟩
      simp only [State.setCapu_capu, State.after_capu, again] at capu
      rw [capu', evu', ssch', evu, ssch, capu]
      by_cases last : f.linesSeen + 1 = f.lines
      · rw [if_pos last]
        refine ⟨Capu.complete_buffer _ _ _, rfl, rfl, fun h => absurd last h, fun _ => ⟨?_, Capu.complete_fill i,
          Capu.complete_latest _ i _, fun j other => ?_⟩⟩
        · rw [Capu.complete_slots, if_pos rfl]
        · rw [Capu.complete_slots, if_neg other]
          rfl
      · rw [if_neg last]
        exact ⟨rfl, rfl, rfl, fun _ => ⟨rfl, fill, rfl⟩, fun h => absurd h last⟩
    · intro i fill mine full
      rw [State.captureLine_full (s.after dt) fill mine full] at capu evu ssch marb seng
      have none : ∀ b, ({ slots := s.capu.slots.set i.val SlotRecord.emptied i.isLt, fill := none
                          latest := s.capu.latest, buffer := b } : Capu).fillFor f.frame = none :=
        fun _ => Capu.fillFor_of_no_fill rfl _
      simp only [State.raise_frame, State.abandonCapture_capu, State.abandonCapture_marb, State.abandonCapture_ssch,
        none, ite_self, State.after_capu, State.after_marb, State.after_ssch] at capu marb ssch
      rw [capu', evu', ssch', seng', capu, ssch]
      refine ⟨rfl, rfl, rfl, ?_, ?_, rfl, marb, ?_⟩
      · rw [evu]; simp [State.raise]
      · simp only [mine, ne_eq, Option.some.injEq]
        congr 2
        funext p
        simp only [eq_comm]
      · intro sc found chase source unpatched
        have patched := State.abandonCapture_seng_eq (s.after dt) i found
        rw [if_pos ⟨⟨chase, source⟩, unpatched⟩, State.abandonCapture_capu] at patched
        rw [seng, State.engineLine_uncoupled, (State.raise_frame _ _).2.2.2.2.2.2.2.2.1, patched]
        · rfl
        · rintro sc' found' ⟨live, -⟩
          rw [(State.raise_frame _ _).2.2.2.2.2.2.2.2.1, patched] at found'
          cases found'
          rw [Scan.withChoices_eq] at live
          rw [chase] at live
          cases live
    · intro untouched
      rw [marb]
      by_cases mine : ∃ i, s.capu.fill = some i ∧ s.capu.slots[i].frame = some f.frame
      · obtain ⟨i, fill, named⟩ := mine
        rw [State.captureLine_room (s.after dt) fill named (untouched.resolve_right fun other => other i fill named)]
        rfl
      · rw [State.captureLine_other (s.after dt) fun i fill named => mine ⟨i, fill, named⟩]
        rfl
    · intro other
      rw [State.captureLine_other (s.after dt) other] at capu evu ssch
      rw [capu', evu', ssch', capu, evu, ssch]
      simp only [State.after_capu, Capu.fillFor_eq_none.mpr other, ite_self]
      exact ⟨trivial, rfl, rfl⟩
    · intro sc found live named unpatched next active
      have unhit : ((s.after dt).captureLine f.frame f.linesSeen pixels).seng = (s.after dt).seng := by
        refine State.captureLine_seng _ fun sc' found' chase => ?_
        cases Option.some.inj (found.symm.trans found')
        rw [live] at chase
        cases chase
      rw [seng', seng, State.engineLine_coupled _ (by rw [unhit]; exact found) live named unpatched next active, unhit]
      rfl
    · intro sc found uncoupled unhit
      rw [seng', seng]
      refine (s.after dt).captureLine_engineLine_seng (State.captureLine_seng _ ?_) ?_
      · intro sc' found'
        cases Option.some.inj (found.symm.trans found')
        exact unhit
      · rintro sc' found' ⟨live, named, unpatched, next, active⟩
        cases Option.some.inj (found.symm.trans found')
        rcases uncoupled with x | x | x | x | x
        · exact x live
        · exact x named
        · rw [unpatched] at x; cases x
        · exact x next
        · exact absurd active (Nat.not_lt.mpr x)
    · intro absent
      have no (P : Scan → Prop) : ∀ sc, s.seng.scan = some sc → P sc := by
        intro sc found
        rw [absent] at found
        cases found
      rw [seng', seng]
      exact (s.after dt).captureLine_engineLine_seng (State.captureLine_seng _ (no _)) (no _)
    · rw [lrx', capu', ssch', seng', evu', State.serve_eq]
      exact congrArg (fun u : State => { u with marb := v.serve.marb, free := v.serve.free }) whole

end Sys2Proof.Machine

namespace Sys2Proof.Machine

open State

/-! ### The live link follows its lock condition (R1, R2, R53, R68) -/

/-- CRP with E INVALID, no LFS time and no plan (R53, R60). -/
def Crp.quieted (c : Crp) : Crp :=
  { newest := c.newest, lastLfs := none, estimate := none, stalled := false,
    plan := { spacing := 0, multiplier := 1, next := none, remaining := 0, timer := none }, raised := none }

section
variable (s : State)

/-- The plan indication after the plan is cleared: SSCH is told when there was one (R61, R68). -/
def State.shownWithoutPlan : Bool := if s.crp.plan.remaining = 0 then s.ssch.planEmpty else true

/-- The live link in its new state, with the event, E INVALID and no plan (R1, R2, R53). -/
def State.linkTaken (lrx : Lrx) (e : EventSource) : State :=
  { s with lrx := lrx, evu := s.evu.raise e, crp := s.crp.quieted
           ssch := { s.ssch with planEmpty := s.shownWithoutPlan } }

theorem State.withCrp_invalidate : s.withCrp (s.crp.invalidate false) =
    { s with crp := s.crp.quieted, ssch := { s.ssch with planEmpty := s.shownWithoutPlan } } := by
  have shown : planIndication s.crp.plan Plan.cleared s.ssch.planEmpty = s.shownWithoutPlan := by
    unfold planIndication Plan.isEmpty Plan.cleared State.shownWithoutPlan
    by_cases none : s.crp.plan.remaining = 0 <;> simp [none]
  rw [← shown]
  rfl

theorem State.lockTaken_eq : s.lockTaken = (s.linkTaken { s.lrx with link := .locked } .liveLock).takeActive := by
  unfold State.lockTaken
  dsimp only
  rw [State.withCrp_invalidate]
  rfl

theorem State.lossTaken_eq : s.lossTaken =
    (s.cutArriving.linkTaken { s.cutArriving.lrx with link := .down, check := .closed } .liveLoss).takeActive := by
  unfold State.lossTaken
  dsimp only
  rw [State.withCrp_invalidate]
  rfl

theorem State.followLiveLock_of_lock (h : s.lrx.link = .down) (lock : s.pins.liveLock = true) :
    s.followLiveLock = s.lockTaken := by
  unfold State.followLiveLock
  rw [h, lock]

theorem State.followLiveLock_of_loss (h : s.lrx.link = .locked) (lost : s.pins.liveLock = false) :
    s.followLiveLock = s.lossTaken := by
  unfold State.followLiveLock
  rw [h, lost]

theorem State.followLiveLock_of_agree (h : s.lrx.link = .locked ↔ s.pins.liveLock = true) : s.followLiveLock = s := by
  unfold State.followLiveLock
  cases link : s.lrx.link <;> cases lock : s.pins.liveLock
  · rfl
  · rw [link, lock] at h; exact absurd (h.mpr rfl) (by simp)
  · rw [link, lock] at h; exact absurd (h.mp rfl) (by simp)
  · rfl

/-- Cutting a frame off changes nothing of SSCH but the pending frame (R9). -/
theorem State.cutArriving_ssch : s.cutArriving.ssch = { s.ssch with pending := s.cutArriving.ssch.pending } := by
  unfold State.cutArriving
  split
  · rw [(s.malformed_parts _ _).2.2]
  · rfl
  · rfl

theorem State.cutArriving_shownWithoutPlan : s.cutArriving.shownWithoutPlan = s.shownWithoutPlan := by
  unfold State.shownWithoutPlan
  rw [s.cutArriving_ssch]
  simp

/-- With nothing expired in HOLD, only OPEN has an active timer to take (R67). -/
theorem State.takeActive_of_quiet_hold (quiet : s.ssch.state = .hold → s.ssch.min.isExpired = false) :
    s.takeActive = if s.ssch.state = .opened then s.takeOpen else s := by
  unfold State.takeActive
  cases state : s.ssch.state <;> simp [quiet, state]

theorem State.takeOpen_locked (h : s.lrx.link = .locked) : s.takeOpen =
    if s.ssch.planEmpty = true ∧ s.ssch.deadline.isExpired = true then s.startScan .deadline else s := by
  unfold State.takeOpen
  rw [h]
  simp

theorem State.takeOpen_down (h : s.lrx.link = .down) : s.takeOpen =
    if s.ssch.freeRun.isExpired = true then s.startScan .freeRun else s := by
  unfold State.takeOpen
  rw [h]

/-- A lock taken where no MIN expiry waits in HOLD: a DEADLINE that has expired in OPEN may then start a scan (R79). -/
theorem State.lockTaken_of_quiet_hold (quiet : s.ssch.state = .hold → s.ssch.min.isExpired = false) :
    s.lockTaken =
      if s.ssch.state = .opened ∧ s.shownWithoutPlan = true ∧ s.ssch.deadline.isExpired = true then
        (s.linkTaken { s.lrx with link := .locked } .liveLock).startScan .deadline
      else s.linkTaken { s.lrx with link := .locked } .liveLock := by
  rw [State.lockTaken_eq, State.takeActive_of_quiet_hold (s.linkTaken _ _) quiet, State.takeOpen_locked _ rfl,
    ← ite_and]
  rfl

/-- A loss taken where no MIN expiry waits in HOLD: a FREE-RUN that has expired in OPEN may then start a scan (R79). -/
theorem State.lossTaken_of_quiet_hold (quiet : s.ssch.state = .hold → s.ssch.min.isExpired = false) :
    s.lossTaken =
      if s.ssch.state = .opened ∧ s.ssch.freeRun.isExpired = true then
        (s.cutArriving.linkTaken { s.cutArriving.lrx with link := .down, check := .closed } .liveLoss).startScan
          .freeRun
      else s.cutArriving.linkTaken { s.cutArriving.lrx with link := .down, check := .closed } .liveLoss := by
  have kept : s.cutArriving.ssch.state = s.ssch.state ∧ s.cutArriving.ssch.min = s.ssch.min
      ∧ s.cutArriving.ssch.freeRun = s.ssch.freeRun := by
    rw [s.cutArriving_ssch]
    exact ⟨rfl, rfl, rfl⟩
  obtain ⟨state, min, freeRun⟩ := kept
  rw [State.lossTaken_eq, State.takeActive_of_quiet_hold, State.takeOpen_down _ rfl, ← ite_and, ← state, ← freeRun]
  · rfl
  · intro hold
    exact (congrArg Timer.isExpired min).trans (quiet (state.symm.trans hold))

/-- A link taken in the state a loss leaves is the loss as it is observed. -/
theorem State.cutArriving_linkTaken : s.cutArriving.linkTaken { s.cutArriving.lrx with link := .down, check := .closed }
    .liveLoss = { s.cutArriving with
      lrx := { s.cutArriving.lrx with link := .down, check := .closed }, evu := s.cutArriving.evu.raise .liveLoss
      crp := s.crp.quieted, ssch := { s.cutArriving.ssch with planEmpty := s.shownWithoutPlan } } := by
  unfold State.linkTaken
  rw [State.cutArriving_shownWithoutPlan, s.cutArriving_frame.2.2.2.1]

end

/-- Settles O32: by the link state the arrival finds; what the timers then start is `takeActive` in OPEN. -/
theorem liveLinks : Obligations.LiveLinks := by
  intro dt s awake quiet
  have lock : exec (.lockArrival dt) s = .next (((s.setLiveLock true).after dt).followLiveLock.serve) :=
    congrArg Host.Outcome.next (arrivalOutsideLoading_of (s := s.setLiveLock true) awake dt _)
  have loss : exec (.lossArrival dt) s = .next (((s.setLiveLock false).after dt).followLiveLock.serve) :=
    congrArg Host.Outcome.next (arrivalOutsideLoading_of (s := s.setLiveLock false) awake dt _)
  refine ⟨fun down => ⟨?_, ?_⟩, fun locked => ⟨?_, ?_⟩⟩
  · rw [loss, State.followLiveLock_of_agree]
    · rfl
    · exact ⟨fun h => absurd (down.symm.trans h) (by simp), fun h => absurd (show false = true from h) (by simp)⟩
  · intro u
    rw [lock, State.followLiveLock_of_lock ((s.setLiveLock true).after dt) down rfl,
      State.lockTaken_of_quiet_hold ((s.setLiveLock true).after dt) quiet, apply_ite State.serve]
    rfl
  · rw [lock, State.followLiveLock_of_agree]
    · rfl
    · exact ⟨fun _ => rfl, fun _ => locked⟩
  · intro u v w
    rw [loss, State.followLiveLock_of_loss ((s.setLiveLock false).after dt) locked rfl,
      State.lossTaken_of_quiet_hold ((s.setLiveLock false).after dt) quiet, State.cutArriving_linkTaken,
      apply_ite State.serve]
    rfl

end Sys2Proof.Machine

namespace Sys2Proof.Machine

open State

/-! ### A scan start only raises events (R62, R52, R130) -/

/-- Every event source pending before is pending after. -/
def Evu.KeptIn (v w : Evu) : Prop := ∀ e, (v.source e).pending = true → (w.source e).pending = true

theorem Evu.KeptIn.refl (v : Evu) : v.KeptIn v := fun _ h => h

theorem Evu.KeptIn.trans {u v w : Evu} (h : u.KeptIn v) (h' : v.KeptIn w) : u.KeptIn w := fun e p => h' e (h e p)

theorem Evu.source_raise_pending (v : Evu) (e : EventSource) : ((v.raise e).source e).pending = true := by
  simp [Evu.source, Evu.raise]

theorem Evu.keptIn_raise (v : Evu) (e : EventSource) : v.KeptIn (v.raise e) := by
  intro d pending
  unfold Evu.source Evu.raise at *
  simp only [Fin.getElem_fin, Vector.getElem_set] at *
  split
  · rfl
  · exact pending

section
variable (s : State)

theorem keptIn_raise (e : EventSource) : s.evu.KeptIn (s.raise e).evu := s.evu.keptIn_raise e

theorem keptIn_cadenceLfs (frame time : Word) : s.evu.KeptIn (s.cadenceLfs frame time).evu := by
  unfold State.cadenceLfs
  dsimp only
  split
  · exact keptIn_raise (s.withCrp _) _
  · exact Evu.KeptIn.refl _

theorem keptIn_liveReports (frame : Word) (changed : Bool) : s.evu.KeptIn (s.liveReports frame changed).evu := by
  unfold State.liveReports
  split
  · split
    · exact keptIn_cadenceLfs (s.drawn.reportFormatChange (some frame)) _ _
    · exact keptIn_cadenceLfs s.drawn _ _
  · exact keptIn_cadenceLfs s _ _

theorem keptIn_freshReport (time : Word) : s.evu.KeptIn (s.freshReport time).evu := by
  unfold State.freshReport
  dsimp only
  split
  · exact keptIn_raise (s.withCrp _) _
  · exact Evu.KeptIn.refl _

theorem keptIn_cadenceAtStart (r : StartReason) (changed committed : Bool) :
    s.evu.KeptIn (s.cadenceAtStart r changed committed).evu := by
  cases r with
  | arrival frame => exact (keptIn_liveReports s frame changed).trans (keptIn_freshReport _ _)
  | chase p =>
    have reported := keptIn_freshReport (s.reportWithoutFrame changed) p.lfsTime
    rwa [(s.reportWithoutFrame_frame changed).2.2.2.2.2.2.2.2.2.2.2.2.2.2.1] at reported
  | plan point remaining =>
    unfold State.cadenceAtStart
    dsimp only
    split <;> simp [Evu.KeptIn.refl]
  | deadline => simp [State.cadenceAtStart, Evu.KeptIn.refl]
  | freeRun => simp [State.cadenceAtStart, Evu.KeptIn.refl]

theorem keptIn_commitAtStart : s.evu.KeptIn s.commitAtStart.evu := by
  unfold State.commitAtStart
  split
  · exact Evu.keptIn_raise _ _
  · exact Evu.KeptIn.refl _

theorem startScan_evu (r : StartReason) : (s.startScan r).evu =
    (s.commitAtStart.cadenceAtStart r s.startChangesFormat s.tbc.commitPending.isSome).evu := by
  simp [State.startScan]

theorem keptIn_startScan (r : StartReason) : s.evu.KeptIn (s.startScan r).evu := by
  rw [startScan_evu]
  exact (keptIn_commitAtStart s).trans (keptIn_cadenceAtStart _ r _ _)

theorem keptIn_takeOpen : s.evu.KeptIn s.takeOpen.evu := by
  unfold State.takeOpen
  (repeat' split)
  · exact keptIn_startScan s _
  · exact Evu.KeptIn.refl _
  · exact keptIn_startScan s _
  · exact Evu.KeptIn.refl _

theorem keptIn_takeActive : s.evu.KeptIn s.takeActive.evu := by
  unfold State.takeActive State.takeMin
  (repeat' split)
  · exact keptIn_startScan s _
  · exact keptIn_takeOpen (s.setSsch { s.ssch with state := .opened })
  · exact Evu.KeptIn.refl _
  · exact keptIn_takeOpen s
  · exact Evu.KeptIn.refl _
  · exact Evu.KeptIn.refl _

theorem State.followOverlayLock_of_lock (h : s.ocap.link = .down) (lock : s.pins.overlayLock = true) :
    s.followOverlayLock = s.overlayLockTaken := by
  unfold State.followOverlayLock
  rw [h, lock]

theorem State.followOverlayLock_of_loss (h : s.ocap.link = .locked) (lost : s.pins.overlayLock = false) :
    s.followOverlayLock = s.overlayLossTaken := by
  unfold State.followOverlayLock
  rw [h, lost]

theorem State.followOverlayLock_of_agree (h : s.ocap.link = .locked ↔ s.pins.overlayLock = true) :
    s.followOverlayLock = s := by
  unfold State.followOverlayLock
  cases link : s.ocap.link <;> cases lock : s.pins.overlayLock
  · rfl
  · rw [link, lock] at h; exact absurd (h.mpr rfl) (by simp)
  · rw [link, lock] at h; exact absurd (h.mp rfl) (by simp)
  · rfl

theorem State.payOwed_eq (owed : Option Byte) : s.payOwed owed = { s with
    rct := { s.rct with queue := s.rct.queue ++ (owed.toList.map fun tag =>
      { tag := tag, code := 0x04, status := .ok, payload := [] }) } } := by
  cases owed with
  | none =>
    simp only [Option.toList_none, List.map_nil, List.append_nil]
    rfl
  | some tag => rfl

/-- Where the overlay link was not lost the reply joins the queue and OCAP follows (log 15 leaves no choice). -/
theorem State.overlayAtLoadingEnd_of_kept (owed : Option Byte)
    (kept : ¬ (s.ocap.link = .locked ∧ s.pins.overlayLock = false)) :
    s.overlayAtLoadingEnd owed = (s.payOwed owed).followOverlayLock := by
  unfold State.overlayAtLoadingEnd
  rw [if_neg]
  simp only [Bool.and_eq_true, beq_iff_eq, Bool.not_eq_true', not_and]
  exact fun h lost => kept ⟨h.2, lost⟩

theorem State.overlayAtLoadingEnd_of_agree (owed : Option Byte)
    (h : s.ocap.link = .locked ↔ s.pins.overlayLock = true) : s.overlayAtLoadingEnd owed = s.payOwed owed := by
  rw [State.overlayAtLoadingEnd_of_kept, State.followOverlayLock_of_agree]
  · cases owed <;> exact h
  · rintro ⟨locked, lost⟩
    exact absurd (lost.symm.trans (h.mp locked)) (by simp)

theorem State.overlayAtLoadingEnd_of_lock (owed : Option Byte) (down : s.ocap.link = .down)
    (lock : s.pins.overlayLock = true) : s.overlayAtLoadingEnd owed = (s.payOwed owed).overlayLockTaken := by
  rw [State.overlayAtLoadingEnd_of_kept, State.followOverlayLock_of_lock]
  · cases owed <;> exact down
  · cases owed <;> exact lock
  · rintro ⟨locked, -⟩
    exact absurd (down.symm.trans locked) (by simp)

/-- A lost overlay link with nothing owed. -/
theorem State.overlayAtLoadingEnd_of_loss_unowed (locked : s.ocap.link = .locked) (lost : s.pins.overlayLock = false) :
    s.overlayAtLoadingEnd none = s.overlayLossTaken := s.followOverlayLock_of_loss locked lost

/-- A lost overlay link with a reply owed: either is first (R161, log 15). -/
theorem State.overlayAtLoadingEnd_of_loss_owed (tag : Byte) (locked : s.ocap.link = .locked)
    (lost : s.pins.overlayLock = false) :
    s.overlayAtLoadingEnd (some tag) = s.drawn.overlayLossTaken.payOwed (some tag)
      ∨ s.overlayAtLoadingEnd (some tag) = (s.drawn.payOwed (some tag)).overlayLossTaken := by
  unfold State.overlayAtLoadingEnd
  rw [if_pos (by simp [locked, lost])]
  split
  · exact .inl (congrArg (State.payOwed (some tag)) (s.drawn.followOverlayLock_of_loss locked lost))
  · exact .inr ((s.drawn.payOwed (some tag)).followOverlayLock_of_loss locked lost)

theorem State.loadingEnds_of_due {due : Nat} {owed : Option Byte} (h : s.dctl = .loading due owed)
    (now : due ≤ s.clock) : s.loadingEnds = s.endLoading owed := by
  unfold State.loadingEnds
  rw [h]
  exact if_pos now

theorem State.loadingEnds_of_not_due {due : Nat} {owed : Option Byte} (h : s.dctl = .loading due owed)
    (early : s.clock < due) : s.loadingEnds = s := by
  unfold State.loadingEnds
  rw [h]
  exact if_neg (Nat.not_le.mpr early)

/-- The device in STANDBY with its limits, before the links are followed (R176, R35). -/
def State.loaded : State :=
  { s with pru := { s.pru with limits := if s.lfb.words[7] = 0 then Limits.defaults else limitsOfWords s.lfb.words }
           dctl := .standby }

theorem State.endLoading_eq (owed : Option Byte) :
    s.endLoading owed = (s.loaded.overlayAtLoadingEnd owed).followLiveLock.serve := rfl

/-- With the scheduler OFF a link that is followed starts no scan (R67). -/
theorem State.lockTaken_of_off (off : s.ssch.state = .off) :
    s.lockTaken = s.linkTaken { s.lrx with link := .locked } .liveLock := by
  rw [State.lockTaken_of_quiet_hold, if_neg]
  · simp [off]
  · simp [off]

theorem State.lossTaken_of_off (off : s.ssch.state = .off) : s.lossTaken =
    s.cutArriving.linkTaken { s.cutArriving.lrx with link := .down, check := .closed } .liveLoss := by
  rw [State.lossTaken_of_quiet_hold, if_neg]
  · simp [off]
  · simp [off]

end

/-- Settles O30: the reply and OCAP's link first, then the live link, which with the scheduler OFF starts no scan. -/
theorem loadingEnd : Obligations.LoadingEnd := by
  refine ⟨fun _ => rfl, fun dt due owed s released loading => ?_⟩
  have taken : exec (.loadingEnd dt) s = .next (s.after dt).loadingEnds :=
    congrArg Host.Outcome.next (arrival_of released dt _)
  have ends (now : due ≤ s.clock + dt) : exec (.loadingEnd dt) s =
      .next (((s.after dt).loaded.overlayAtLoadingEnd owed).followLiveLock.serve) := by
    rw [taken, (s.after dt).loadingEnds_of_due loading now, State.endLoading_eq]
  refine ⟨fun early => ?_, fun now live overlay => ?_, fun now down lock => ?_, fun now scheduled => ?_⟩
  · rw [taken, (s.after dt).loadingEnds_of_not_due loading early]
  · rw [ends now, State.overlayAtLoadingEnd_of_agree (s.after dt).loaded owed overlay, State.payOwed_eq,
      State.followLiveLock_of_agree]
    · rfl
    · exact live
  · rw [ends now]
    obtain ⟨-, pins, lrx, -, -, -, -, -, -, -, -, -, -, -, dctl, -, -⟩ :=
      (s.after dt).loaded.overlayAtLoadingEnd_frame owed
    generalize (s.after dt).loaded.overlayAtLoadingEnd owed = v at *
    rw [State.followLiveLock_of_lock v (by rw [lrx]; exact down) (by rw [pins]; exact lock)]
    refine ⟨_, rfl, ?_, ?_, ?_⟩
    · simp only [State.serve_frame, State.lockTaken_frame, dctl]
      rfl
    · rw [State.lockTaken_eq]
      simp only [State.serve_frame, State.takeActive_frame]
      rfl
    · rw [State.lockTaken_eq, (State.serve_frame _).2.2.2.2.2.2.2.2.2.2.2.2.2.2.2.1]
      exact keptIn_takeActive _ _ (Evu.source_raise_pending _ _)
  · have off : s.ssch.state = .off := (SchedulerInv.runInv scheduled).off_of_dctl (by simp [loading])
    intro u paid quiet shown
    have frame := (s.after dt).loaded.overlayAtLoadingEnd_frame owed
    rw [ends now]
    refine ⟨(s.after dt).loaded.overlayAtLoadingEnd owed, ?_, ?_, ?_, ?_, ?_, ?_⟩
    · intro agree
      rw [State.overlayAtLoadingEnd_of_agree (s.after dt).loaded owed agree, State.payOwed_eq]
      rfl
    · intro down lock
      rw [State.overlayAtLoadingEnd_of_lock (s.after dt).loaded owed down lock, State.payOwed_eq]
      rfl
    · intro locked lost
      constructor
      · rintro rfl
        exact State.overlayAtLoadingEnd_of_loss_unowed (s.after dt).loaded locked lost
      · intro some
        obtain ⟨tag, rfl⟩ := Option.isSome_iff_exists.mp some
        exact State.overlayAtLoadingEnd_of_loss_owed (s.after dt).loaded tag locked lost
    all_goals
      obtain ⟨-, pins, lrx, -, -, crp, ssch, -, -, -, -, -, -, -, -, -, -⟩ := frame
      generalize (s.after dt).loaded.overlayAtLoadingEnd owed = v at *
    · intro agree
      rw [State.followLiveLock_of_agree v (by rw [lrx, pins]; exact agree)]
    · intro down lock
      rw [State.followLiveLock_of_lock v (by rw [lrx]; exact down) (by rw [pins]; exact lock),
        v.lockTaken_of_off (by rw [ssch]; exact off)]
      unfold State.linkTaken State.shownWithoutPlan
      rw [lrx, crp, ssch]
      rfl
    · intro locked lost
      rw [State.followLiveLock_of_loss v (by rw [lrx]; exact locked) (by rw [pins]; exact lost),
        v.lossTaken_of_off (by rw [ssch]; exact off), State.cutArriving_linkTaken]
      unfold State.shownWithoutPlan
      rw [crp, ssch]
      unfold State.cutArriving
      rw [lrx]
      rfl

end Sys2Proof.Machine

namespace Sys2Proof.Machine

open State

/-! ### An LFS report at CRP (R50 to R52) -/

section
variable (c : Crp) (entry : ProfileEntry) (frame time : Word)

/-- An LFS report sets the newest frame and the LFS time, and leaves the plan and the raised point (R50). -/
theorem Crp.takeLfs_kept : (c.takeLfs entry frame time).newest = some frame
    ∧ (c.takeLfs entry frame time).lastLfs = some time ∧ (c.takeLfs entry frame time).plan = c.plan
    ∧ (c.takeLfs entry frame time).raised = c.raised := by
  unfold Crp.takeLfs
  dsimp only
  (repeat' split) <;> exact ⟨rfl, rfl, rfl, rfl⟩

/-- With no LFS time there is no interval: E and the stall state stay (R50 step 1). -/
theorem Crp.takeLfs_of_no_last (h : c.lastLfs = none) :
    c.takeLfs entry frame time = { c with newest := some frame, lastLfs := some time } := by
  unfold Crp.takeLfs Crp.interval
  rw [h]
  rfl

theorem Crp.stallsAt_iff : c.stallsAt entry time = true ↔ entry.state = .valid ∧ c.stalled = false
    ∧ ∃ last, c.lastLfs = some last ∧ entry.profile.stallLimit < (time - last).toNat := by
  unfold Crp.stallsAt Crp.interval
  cases last : c.lastLfs with
  | none => simp
  | some l =>
    simp only [Option.map_some, Bool.and_eq_true, beq_iff_eq, decide_eq_true_eq, Bool.not_eq_true', Option.some.injEq,
      exists_eq_left']
    tauto

end

theorem planIndication_same (p q : Plan) (same : q.remaining = p.remaining) (shown : Bool) :
    planIndication p q shown = shown := by
  simp [planIndication, Plan.isEmpty, same]

/-- SSCH is told when the plan became empty or ceased to be (R61, R68). -/
theorem planIndication_eq (p q : Plan) (shown : Bool) : planIndication p q shown =
    if (p.remaining == 0) = (q.remaining == 0) then shown else q.remaining == 0 := by
  simp only [planIndication, Plan.isEmpty, beq_iff_eq]

section
variable (s : State)

/-- A report to CRP that leaves the plan leaves SSCH (R61). -/
theorem State.withCrp_of_same_plan {c : Crp} (same : c.plan = s.crp.plan) : s.withCrp c = { s with crp := c } := by
  unfold State.withCrp
  rw [planIndication_same _ _ (by rw [same])]
  rfl

theorem State.cadenceLfs_eq (frame time : Word) : s.cadenceLfs frame time = { s with
    crp := s.crp.takeLfs s.activeEntry frame time
    evu := if s.crp.stallsAt s.activeEntry time then s.evu.raise .stall else s.evu } := by
  unfold State.cadenceLfs
  rw [s.withCrp_of_same_plan (s.crp.takeLfs_kept _ _ _).2.2.1]
  dsimp only
  split <;> rfl

/-! ### An LFS at the instant of a start that is not LIVE (log 37) -/

theorem State.startedNow_eq_some_iff {sc : Scan} : s.startedNow = some sc ↔
    s.seng.scan = some sc ∧ sc.kind ≠ .live ∧ sc.reports.clock = s.clock ∧ sc.reports.after = s.crp := by
  unfold State.startedNow
  rw [Option.filter_eq_some_iff]
  simp [and_assoc]

theorem State.startedNow_eq_none (h : ∀ sc, s.seng.scan = some sc →
    ¬ (sc.kind ≠ .live ∧ sc.reports.clock = s.clock ∧ sc.reports.after = s.crp)) : s.startedNow = none := by
  cases now : s.startedNow with
  | none => rfl
  | some sc =>
    obtain ⟨found, same⟩ := s.startedNow_eq_some_iff.mp now
    exact absurd same (h sc found)

theorem State.cadenceInScan_of_started {sc : Scan} (h : s.startedNow = some sc) (frame : Word) :
    s.cadenceInScan frame = s.drawn.lfsBeforeStart sc frame
      ∨ s.cadenceInScan frame = s.drawn.cadenceLfs frame s.pacingTime := by
  unfold State.cadenceInScan
  rw [h]
  dsimp only
  split
  · exact .inl rfl
  · exact .inr rfl

theorem State.cadenceInScan_of_not_started (h : s.startedNow = none) (frame : Word) :
    s.cadenceInScan frame = s.cadenceLfs frame s.pacingTime := by
  unfold State.cadenceInScan
  rw [h]

/-- CRP with the report of the frame in, but for the plan: with a format change only the newest frame is taken (R54). -/
def Scan.crpWithLfs (sc : Scan) (c : Crp) (entry : ProfileEntry) (frame time : Word) : Crp :=
  if sc.reports.changed then { c with newest := some frame } else c.takeLfs entry frame time

theorem Scan.crpWithLfs_plan (sc : Scan) (c : Crp) (entry : ProfileEntry) (frame time : Word) :
    (sc.crpWithLfs c entry frame time).plan = c.plan := by
  unfold Scan.crpWithLfs
  split
  · rfl
  · exact (c.takeLfs_kept _ _ _).2.2.1

/-- The events an LFS before the start raises (R52). -/
def State.stallBefore (sc : Scan) : Evu :=
  if sc.reports.before.stallsAt s.activeEntry s.pacingTime then s.evu.raise .stall else s.evu

theorem State.lfsBeforeStart_deferred {sc : Scan} (frame : Word) (deferred : sc.kind = .deferred) :
    s.lfsBeforeStart sc frame =
      let c := sc.crpWithLfs s.crp s.activeEntry frame s.pacingTime
      let plan := makePlan c.estimate s.activeEntry.profile s.pacingTime s.microseconds
      { s with
        evu := s.stallBefore sc, crp := { c with plan := plan }
        ssch := { s.ssch with planEmpty := planIndication s.crp.plan plan s.ssch.planEmpty }
        seng := { s.seng with scan := some { sc with estimate := c.estimate, multiplier := plan.multiplier } } } := by
  unfold State.lfsBeforeStart State.crpBeforeStart Scan.recordAfterLfs State.stallBefore
  simp only [if_pos deferred]
  split <;> rfl

theorem State.lfsBeforeStart_other {sc : Scan} (frame : Word) (other : sc.kind ≠ .deferred) :
    s.lfsBeforeStart sc frame = { s with
      evu := s.stallBefore sc, crp := sc.crpWithLfs s.crp s.activeEntry frame s.pacingTime
      seng := { s.seng with scan := some { sc with
        estimate := (sc.reports.before.takeLfs s.activeEntry frame s.pacingTime).estimate } } } := by
  have crp : s.crpBeforeStart sc frame = sc.crpWithLfs s.crp s.activeEntry frame s.pacingTime := if_neg other
  unfold State.lfsBeforeStart Scan.recordAfterLfs State.stallBefore
  simp only [crp, s.withCrp_of_same_plan (sc.crpWithLfs_plan s.crp s.activeEntry frame s.pacingTime), if_neg other]
  split <;> rfl

/-! ### What CRP and EVU are told at a LIVE start (R50, R54, R62) -/

theorem Evu.source_raise_other (v : Evu) {d e : EventSource} (other : d.number ≠ e.number) :
    (v.raise e).source d = v.source d := by
  unfold Evu.source Evu.raise
  simp only [Fin.getElem_fin]
  exact Vector.getElem_set_ne _ _ fun same => other (Fin.ext same.symm)

theorem State.freshReport_crp (lfsTime : Word) : (s.freshReport lfsTime).crp = { s.crp with
    plan := makePlan s.crp.estimate s.activeEntry.profile s.pacingTime s.microseconds, raised := none } := by
  unfold State.freshReport
  dsimp only
  split <;> rfl

/-- A fresh report raises nothing but LAG_HIGH (R62). -/
theorem State.freshReport_source (lfsTime : Word) {d : EventSource} (other : d.number ≠ EventSource.lagHigh.number) :
    (s.freshReport lfsTime).evu.source d = s.evu.source d := by
  unfold State.freshReport
  dsimp only
  split
  · exact Evu.source_raise_other _ other
  · rfl

theorem State.startScan_crp (r : StartReason) : (s.startScan r).crp =
    (s.commitAtStart.cadenceAtStart r s.startChangesFormat s.tbc.commitPending.isSome).crp := by
  simp [State.startScan]

theorem State.startScan_activeEntry (r : StartReason) :
    (s.startScan r).activeEntry = s.commitAtStart.activeEntry := by
  simp [State.activeEntry, State.startScan]

theorem State.commitAtStart_source {d : EventSource} (other : d.number ≠ EventSource.commitTaken.number) :
    s.commitAtStart.evu.source d = s.evu.source d := by
  unfold State.commitAtStart
  split
  · exact Evu.source_raise_other _ other
  · rfl

/-- The commit taken at a start changes the format when it changes the width, the lines or the line time (R133). -/
theorem State.startChangesFormat_iff : s.startChangesFormat = true ↔
    s.tbc.commitPending.isSome = true
      ∧ (s.activeEntry.profile.width ≠ s.commitAtStart.activeEntry.profile.width
        ∨ s.activeEntry.profile.lines ≠ s.commitAtStart.activeEntry.profile.lines
        ∨ s.activeEntry.profile.lineTime ≠ s.commitAtStart.activeEntry.profile.lineTime) := by
  unfold State.startChangesFormat State.commitAtStart
  cases s.tbc.commitPending with
  | none => simp
  | some m =>
    simp [State.formatChanges, State.takeCommit, State.activeEntry, or_assoc]

/-- The two orders of the LFS report and of TBC's report of a format change leave no E (R54). -/
theorem State.liveReports_changed_crp (frame : Word) :
    (s.liveReports frame true).crp.newest = some frame ∧ (s.liveReports frame true).crp.lastLfs = some s.pacingTime
      ∧ (s.crp.newest ≠ some frame →
          (s.liveReports frame true).crp.estimate = none ∧ (s.liveReports frame true).crp.stalled = false) := by
  unfold State.liveReports
  rw [if_pos rfl]
  split
  · rw [State.cadenceLfs_eq]
    dsimp only
    refine ⟨(Crp.takeLfs_kept _ _ _ _).1, (Crp.takeLfs_kept _ _ _ _).2.1, fun older => ?_⟩
    have invalidated : (s.drawn.reportFormatChange (some frame)).crp = s.crp.invalidate false :=
      congrArg s.crp.invalidate (by simpa using Ne.symm older)
    rw [invalidated, Crp.takeLfs_of_no_last _ _ _ _ rfl]
    exact ⟨rfl, rfl⟩
  · rw [State.cadenceLfs_eq]
    have newest := s.drawn.crp.takeLfs_kept s.drawn.activeEntry frame s.pacingTime
    refine ⟨newest.1, ?_, fun _ => ⟨rfl, rfl⟩⟩
    exact Eq.trans (if_pos (decide_eq_true newest.1.symm)) newest.2.1

end

end Sys2Proof.Machine

namespace Sys2Proof.Machine

open State

/-! ### An LFS in its steps (R4) -/

section
variable (s : State)

theorem State.cutArriving_of_not_arriving (h : ∀ f, s.lrx.check ≠ .arriving f) : s.cutArriving = s := by
  unfold State.cutArriving
  split
  · next f arriving => exact absurd arriving (h f)
  · rfl
  · rfl

theorem State.cutArriving_of_arriving {f : FrameCheck} (h : s.lrx.check = .arriving f) :
    s.cutArriving = s.malformed f.frame f.linesSeen := by
  unfold State.cutArriving
  rw [h]

theorem State.takeLfs_of_closed (h : ∀ f, s.lrx.check ≠ .arriving f) : s.takeLfs =
    State.openFrame (s.lrx.frameCounter + 1)
      (State.reportLfs (s.lrx.frameCounter + 1) s.numbered).resolveCapture := by
  rw [State.takeLfs_eq, State.cutArriving_of_not_arriving _ h]
  rfl

/-- A frame still ARRIVING is malformed and the LFS taken after it (R4 step 1). -/
theorem State.takeLfs_of_arriving {f : FrameCheck} (h : s.lrx.check = .arriving f) :
    s.takeLfs = (s.malformed f.frame f.linesSeen).takeLfs := by
  have closed : ∀ g, (s.malformed f.frame f.linesSeen).lrx.check ≠ .arriving g := by simp [State.malformed_lrx]
  rw [State.takeLfs_eq, State.takeLfs_eq, State.cutArriving_of_not_arriving _ closed, State.cutArriving_of_arriving _ h]

theorem State.reportLfs_opened (h : s.ssch.state = .opened) (frame : Word) :
    s.reportLfs frame = s.startScan (.arrival frame) := by
  unfold State.reportLfs
  rw [h]

theorem State.reportLfs_hold (h : s.ssch.state = .hold) (frame : Word) :
    s.reportLfs frame = (s.cadenceLfs frame s.pacingTime).pend frame := by
  unfold State.reportLfs
  rw [h]

theorem State.reportLfs_scan (h : s.ssch.state = .scan) (frame : Word) :
    s.reportLfs frame = (s.cadenceInScan frame).pend frame := by
  unfold State.reportLfs
  rw [h]

theorem State.reportLfs_off (h : s.ssch.state = .off) (frame : Word) :
    s.reportLfs frame = s.cadenceLfs frame s.pacingTime := by
  unfold State.reportLfs
  rw [h]

theorem State.resolveCapture_of_none (h : s.capu.fill = none) : s.resolveCapture = s := by
  unfold State.resolveCapture
  rw [h]

theorem State.resolveCapture_of_some {i : SlotId} (h : s.capu.fill = some i) :
    s.resolveCapture = s.abandonCapture i := by
  unfold State.resolveCapture
  rw [h]

theorem State.resolveCapture_fill : s.resolveCapture.capu.fill = none := by
  unfold State.resolveCapture
  split
  · rw [State.abandonCapture_capu]
  · next fill => exact fill

/-- Of three slots the latest and the scan source leave one free (R11, R12). -/
theorem Capu.lowestFree_of_no_fill {c : Capu} (h : c.fill = none) (source : Option SlotId) :
    ∃ i, c.lowestFree source = some i ∧ c.latest ≠ some i ∧ source ≠ some i
      ∧ ∀ j < i, c.latest = some j ∨ source = some j := by
  have lowest : ∀ latest source : Option (Fin 3), ∃ i : Fin 3, latest ≠ some i ∧ source ≠ some i
      ∧ ∀ j < i, latest = some j ∨ source = some j := by decide
  obtain ⟨i, latest, other, lower⟩ := lowest c.latest source
  exact ⟨i, Capu.lowestFree_eq_some.mpr ⟨⟨by simp [h], latest, other⟩, fun j below => .inr (lower j below)⟩,
    latest, other, lower⟩

theorem State.openFrame_of_invalid (frame : Word) (h : s.activeEntry.state ≠ .valid) : s.openFrame frame = s :=
  if_neg h

theorem State.openFrame_of_valid (frame : Word) (h : s.activeEntry.state = .valid) {i : SlotId}
    (free : s.capu.lowestFree s.scanSource = some i) : s.openFrame frame = { s with
      lrx := { s.lrx with
        check := .arriving
          { frame := frame, profile := s.tbc.active.profile, width := s.activeEntry.profile.width
            lines := s.activeEntry.profile.lines, lineTime := s.activeEntry.profile.lineTime, linesSeen := 0
            lineOpen := true, lineStart := s.clock } }
      capu := { s.capu with
        fill := some i
        slots := s.capu.slots.set i.val
          { state := .filling, frame := some frame, linesWritten := 0, width := s.activeEntry.profile.width
            lines := s.activeEntry.profile.lines } i.isLt } } := by
  unfold State.openFrame State.allocate
  rw [free]
  exact if_pos h

end

/-- A LIVE start's CRP and EVU in the terms of the state before (R50, R52, R54). -/
theorem liveStart_reports (n : Word) (s : State) :
    let v := s.startScan (.arrival n)
    let entry := v.activeEntry
    v.crp.newest = some n ∧ v.crp.lastLfs = some s.pacingTime
      ∧ (s.startChangesFormat = false →
          v.crp.estimate = (s.crp.takeLfs entry n s.pacingTime).estimate
          ∧ v.crp.stalled = (s.crp.takeLfs entry n s.pacingTime).stalled
          ∧ (s.crp.stallsAt entry s.pacingTime = true → (v.evu.source .stall).pending = true)
          ∧ (s.crp.stallsAt entry s.pacingTime = false → v.evu.source .stall = s.evu.source .stall))
      ∧ (s.startChangesFormat = true → s.crp.newest ≠ some n → v.crp.estimate = none ∧ v.crp.stalled = false) := by
  dsimp only
  rw [s.startScan_activeEntry, startScan_evu, s.startScan_crp]
  have committed : s.commitAtStart.crp = s.crp := by simp
  have at_start : s.commitAtStart.pacingTime = s.pacingTime := by simp [State.pacingTime, State.microseconds]
  have stalled := s.commitAtStart_source (d := .stall) (by decide)
  rw [← at_start, ← committed, ← stalled]
  generalize s.commitAtStart = a
  cases changed : s.startChangesFormat with
  | true =>
    obtain ⟨newest, last, unknown⟩ := a.liveReports_changed_crp n
    simp only [State.cadenceAtStart, State.freshReport_crp]
    exact ⟨newest, last, (by rintro ⟨⟩), fun _ older => unknown older⟩
  | false =>
    have reported : a.liveReports n false = a.cadenceLfs n a.pacingTime := rfl
    have kept := a.crp.takeLfs_kept a.activeEntry n a.pacingTime
    simp only [State.cadenceAtStart, State.freshReport_crp, reported]
    rw [State.freshReport_source _ _ (by decide), State.cadenceLfs_eq]
    refine ⟨kept.1, kept.2.1, fun _ => ⟨rfl, rfl, fun stalls => ?_, fun normal => ?_⟩, (by rintro ⟨⟩)⟩
    · dsimp only
      rw [if_pos stalls]
      exact Evu.source_raise_pending _ _
    · dsimp only
      rw [if_neg (by simp [normal])]

/-- Settles O34: the reports of CRP and SSCH by scheduler state, the resolved capture, and the frame opened. -/
theorem lfsTaken : Obligations.LfsTaken := by
  have taken (dt : Nat) (s : State) (hears : s.hearsLive) : exec (.lfs dt) s = .next (s.after dt).takeLfs.serve :=
    congrArg Host.Outcome.next (liveArrival_of hears dt fun t => t.takeLfs.serve)
  refine ⟨fun dt s hears closed => ?_, fun dt s f hears arriving => ?_, fun n s => ?_, fun c entry time =>
    c.stallsAt_iff entry time⟩
  · intro n now e u reported pend
    have report : u.cadenceLfs n now = reported := u.cadenceLfs_eq n now
    have inScan (none : u.startedNow = none) : (u.cadenceInScan n).pend n = pend reported := by
      rw [u.cadenceInScan_of_not_started none, show u.pacingTime = now from rfl, report]
      rfl
    have clock : (u.reportLfs n).resolveCapture.clock = s.clock + dt := by simp [u]
    refine ⟨u.reportLfs n, (u.reportLfs n).resolveCapture, _, taken dt s hears, fun off => ?_, fun hold => ?_,
      fun opened => ?_, fun scanning absent => ?_, fun scanning sc found => ?_, State.resolveCapture_of_none _,
      fun i => State.resolveCapture_of_some _, ?_⟩
    · rw [u.reportLfs_off off]
      exact report
    · rw [u.reportLfs_hold hold, show u.pacingTime = now from rfl, report]
      rfl
    · exact u.reportLfs_opened opened n
    · rw [u.reportLfs_scan scanning]
      exact inScan (u.startedNow_eq_none fun sc found => absurd (absent.symm.trans found) (by simp))
    · intro sameInstant before c d m plan first
      rw [u.reportLfs_scan scanning]
      constructor
      · intro apart
        refine inScan (u.startedNow_eq_none fun sc' found' => ?_)
        cases Option.some.inj (found.symm.trans found')
        exact apart
      · intro same
        rcases u.cadenceInScan_of_started (u.startedNow_eq_some_iff.mpr ⟨found, same⟩) n with order | order
        · by_cases deferred : sc.kind = .deferred
          · refine .inr (.inl ⟨deferred, ?_⟩)
            rw [order, State.lfsBeforeStart_deferred u.drawn n deferred]
            dsimp only
            rw [planIndication_eq]
            rfl
          · refine .inr (.inr ⟨deferred, ?_⟩)
            rw [order, State.lfsBeforeStart_other u.drawn n deferred]
            rfl
        · refine .inl ?_
          rw [order, State.cadenceLfs_eq]
          rfl
    · have steps : (s.after dt).takeLfs = (u.reportLfs n).resolveCapture.openFrame n :=
        (s.after dt).takeLfs_of_closed closed
      have fill := (u.reportLfs n).resolveCapture_fill
      rw [steps, ← clock]
      generalize (u.reportLfs n).resolveCapture = w at *
      refine ⟨fun invalid => ?_, fun valid => ?_⟩
      · rw [w.openFrame_of_invalid n invalid]
      · obtain ⟨i, free, latest, source, lower⟩ := Capu.lowestFree_of_no_fill fill w.scanSource
        refine ⟨i, latest, source, lower, ?_⟩
        rw [w.openFrame_of_valid n valid free]
        rfl
  · have hears' : ((s.after dt).malformed f.frame f.linesSeen).hearsLive := by
      obtain ⟨⟨released, outside⟩, locked⟩ := hears
      refine ⟨⟨?_, ?_⟩, ?_⟩
      · simpa using released
      · simpa using outside
      · rw [State.malformed_lrx]
        exact locked
    refine ⟨_, taken dt s hears, ?_, hears', by rw [State.malformed_lrx]⟩
    rw [taken 0 _ hears', State.takeLfs_of_arriving (s.after dt) arriving]
    rfl
  · have same := s.startChangesFormat_iff
    rw [← s.startScan_activeEntry (.arrival n)] at same
    obtain ⟨newest, last, unchanged, changed⟩ := liveStart_reports n s
    refine ⟨newest, last, fun kept => unchanged ?_, fun changes => changed (same.mpr changes)⟩
    rw [← Bool.not_eq_true]
    exact fun changes => kept (same.mp changes)

end Sys2Proof.Machine

namespace Sys2Proof.Machine

open State

/-! ### What each requester asks for (R14, R24, R32, R94, R123) -/

theorem Marb.busy_iff (m : Marb) (r : Requester) : m.busy r = true ↔ m.transfer.map Transfer.requester = some r := by
  unfold Marb.busy
  cases m.transfer with
  | none => simp
  | some t => simp

/-- The first of an ascending list that passes a test is the lowest one that does. -/
theorem find?_eq_some_iff_lowest {l : List Nat} (ascending : l.Pairwise (· < ·)) (test : Nat → Bool) (n : Nat) :
    l.find? test = some n ↔ (n ∈ l ∧ test n = true) ∧ ∀ m < n, ¬ (m ∈ l ∧ test m = true) := by
  induction l with
  | nil => simp
  | cons x rest ih =>
    obtain ⟨above, ascending⟩ := List.pairwise_cons.mp ascending
    cases first : test x with
    | true =>
      rw [List.find?_cons_of_pos first, Option.some.injEq]
      constructor
      · rintro rfl
        refine ⟨⟨List.mem_cons_self, first⟩, fun m below => ?_⟩
        rintro ⟨member, -⟩
        rcases List.mem_cons.mp member with rfl | later
        · exact absurd below (lt_irrefl m)
        · exact absurd (above m later) (Nat.lt_asymm below)
      · rintro ⟨⟨member, -⟩, lowest⟩
        rcases List.mem_cons.mp member with rfl | later
        · rfl
        · exact absurd ⟨List.mem_cons_self, first⟩ (lowest x (above n later))
    | false =>
      rw [List.find?_cons_of_neg (by simp [first]), ih ascending]
      have passes (m : Nat) : m ∈ x :: rest ∧ test m = true ↔ m ∈ rest ∧ test m = true := by
        refine ⟨fun ⟨member, passed⟩ => ⟨(List.mem_cons.mp member).resolve_left ?_, passed⟩,
          fun ⟨member, passed⟩ => ⟨List.mem_cons_of_mem x member, passed⟩⟩
        rintro rfl
        exact absurd (first.symm.trans passed) (by simp)
      simp only [passes]

theorem Scan.window_ascending (sc : Scan) : sc.window.Pairwise (· < ·) := by
  refine List.Pairwise.filter _ ?_
  simp

theorem Scan.readable_iff (sc : Scan) (c : Capu) (n : Nat) : sc.readable c n = true ↔
    ∃ i, sc.slotFor n = some i
      ∧ (sc.patchFrom.isSome = true ∨ n < c.received i ∧ n < c.delivered i) := by
  unfold Scan.readable
  cases sc.slotFor n with
  | none => simp
  | some i => simp [Capu.hasLine]

section
variable (s : State)

theorem State.captureDesire_eq : s.captureDesire =
    if s.marb.captureWrite.isSome = true ∨ s.marb.transfer.map Transfer.requester = some .captureWrite then none
    else s.capu.buffer.head?.map fun e => (e.slot, e.line) := by
  unfold State.captureDesire
  simp only [Bool.or_eq_true, Marb.busy_iff]

theorem State.overlayWriteDesire_eq : s.overlayWriteDesire =
    if s.marb.overlayWrite.isSome = true ∨ s.marb.transfer.map Transfer.requester = some .overlayWrite then none
    else s.ocap.buffer.head?.map fun e => (e.plane, e.line) := by
  unfold State.overlayWriteDesire
  simp only [Bool.or_eq_true, Marb.busy_iff]

theorem State.scanDesire_eq_none (h : s.marb.scanRead.isSome = true
    ∨ s.marb.transfer.map Transfer.requester = some .scanRead ∨ s.seng.scan = none ∨ 4 ≤ s.seng.readAhead.length) :
    s.scanDesire = none := by
  unfold State.scanDesire
  rw [← Marb.busy_iff] at h
  split
  · rfl
  · next idle =>
    simp only [Bool.or_eq_true, not_or] at idle
    rcases (h.resolve_left idle.1).resolve_left idle.2 with none | full
    · rw [none]
    · split
      · rfl
      · rw [if_pos full]

/-- SENG wants a line of the read window that it has not and that can be read (R94). -/
def State.wantsLine (sc : Scan) (i : SlotId) (n : Nat) : Prop :=
  sc.nextOut ≤ n ∧ n ≤ sc.nextOut + 3 ∧ n < sc.lines ∧ (∀ e ∈ s.seng.readAhead, e.line ≠ n)
    ∧ sc.slotFor n = some i ∧ (sc.patchFrom.isSome = true ∨ n < s.capu.received i ∧ n < s.capu.delivered i)

theorem State.scanDesire_eq_some_iff {sc : Scan} (found : s.seng.scan = some sc) (quiet : s.marb.scanRead = none)
    (idle : s.marb.transfer.map Transfer.requester ≠ some .scanRead) (room : s.seng.readAhead.length < 4)
    (i : SlotId) (n : Nat) :
    s.scanDesire = some (i, n) ↔ s.wantsLine sc i n ∧ ∀ m < n, ∀ j, ¬ s.wantsLine sc j m := by
  have wanted (m : Nat) :
      m ∈ sc.window ∧ (!(s.seng.readAhead.any (·.line == m)) && sc.readable s.capu m) = true ↔
        ∃ j, s.wantsLine sc j m := by
    simp only [Scan.mem_window, Bool.and_eq_true, Scan.readable_iff, Bool.not_eq_true', List.any_eq_false, beq_iff_eq,
      State.wantsLine]
    constructor
    · rintro ⟨⟨low, high, last⟩, fresh, j, slot, come⟩
      exact ⟨j, low, high, last, fresh, slot, come⟩
    · rintro ⟨j, low, high, last, fresh, slot, come⟩
      exact ⟨⟨low, high, last⟩, fresh, j, slot, come⟩
  have desired : s.scanDesire =
      (sc.window.find? fun n => !(s.seng.readAhead.any (·.line == n)) && sc.readable s.capu n).bind fun n =>
        (sc.slotFor n).map fun i => (i, n) := by
    unfold State.scanDesire
    rw [if_neg (by simp only [Bool.or_eq_true, Marb.busy_iff, quiet]; simpa using idle), found]
    exact if_neg (Nat.not_le.mpr room)
  rw [desired, Option.bind_eq_some_iff]
  simp only [find?_eq_some_iff_lowest sc.window_ascending, wanted, Option.map_eq_some_iff, Prod.mk.injEq, not_exists]
  constructor
  · rintro ⟨m, ⟨⟨j, want⟩, lowest⟩, j', slot, rfl, rfl⟩
    obtain ⟨low, high, last, fresh, slot', come⟩ := want
    rw [slot] at slot'
    cases slot'
    exact ⟨⟨low, high, last, fresh, slot, come⟩, lowest⟩
  · rintro ⟨want, lowest⟩
    obtain ⟨-, -, -, -, slot, -⟩ := id want
    exact ⟨n, ⟨⟨i, want⟩, lowest⟩, i, slot, rfl, rfl⟩

theorem State.overlayReadDesire_eq_none (h : s.marb.overlayRead.isSome = true
    ∨ s.marb.transfer.map Transfer.requester = some .overlayRead ∨ s.seng.scan = none ∨ s.ocmp.target = none) :
    s.overlayReadDesire = none := by
  unfold State.overlayReadDesire
  rw [← Marb.busy_iff] at h
  split
  · rfl
  · next idle =>
    simp only [Bool.or_eq_true, not_or] at idle
    rcases (h.resolve_left idle.1).resolve_left idle.2 with none | none
    · rw [none]
    · rw [none]
      split
      · next impossible => cases impossible
      · rfl

theorem State.overlayReadDesire_eq_some_iff {sc : Scan} {y : Nat} (found : s.seng.scan = some sc)
    (target : s.ocmp.target = some y) (quiet : s.marb.overlayRead = none)
    (idle : s.marb.transfer.map Transfer.requester ≠ some .overlayRead) (p : Plane) (n : Nat) :
    s.overlayReadDesire = some (p, n) ↔ p = s.ocap.front ∧ s.ocmp.cache.lookup n = none
      ∧ ∃ before rest, s.lineSet sc y = before ++ n :: rest
        ∧ ∀ m ∈ before, (s.ocmp.cache.lookup m).isSome = true := by
  have desired : s.overlayReadDesire =
      ((s.lineSet sc y).find? fun n => (s.ocmp.cache.lookup n).isNone).map fun n => (s.ocap.front, n) := by
    unfold State.overlayReadDesire
    rw [if_neg (by simp only [Bool.or_eq_true, Marb.busy_iff, quiet]; simpa using idle), found, target]
  simp only [desired, Option.map_eq_some_iff, List.find?_eq_some_iff_append, Option.isNone_iff_eq_none, Prod.mk.injEq,
    Option.not_isNone]
  constructor
  · rintro ⟨m, ⟨absent, before, rest, split, cached⟩, rfl, rfl⟩
    exact ⟨rfl, absent, before, rest, split, cached⟩
  · rintro ⟨rfl, absent, before, rest, split, cached⟩
    exact ⟨n, ⟨absent, before, rest, split, cached⟩, rfl, rfl⟩

/-! ### The port at the end of a step and at the end of a transfer (R24, R26, R27, R34) -/

/-- The port with every requester's wish made a request (R24). -/
def State.asked : Marb :=
  { s.marb with
    captureWrite := s.marb.captureWrite.or s.captureDesire, scanRead := s.marb.scanRead.or s.scanDesire
    overlayRead := s.marb.overlayRead.or s.overlayReadDesire
    overlayWrite := s.marb.overlayWrite.or s.overlayWriteDesire }

theorem State.makeRequests_canGrant : s.makeRequests.canGrant = true ↔
    s.marb.transfer = none ∧ s.marb.maintenance = .none ∧ s.dctl.isLoading = false :=
  State.canGrant_iff (s := s.makeRequests)

theorem State.serve_of_not_idle
    (h : s.marb.transfer.isSome = true ∨ s.marb.maintenance ≠ .none ∨ s.dctl.isLoading = true) :
    s.serve = { s with marb := s.asked } := by
  have held : ¬ s.makeRequests.canGrant = true := by
    rw [State.makeRequests_canGrant]
    rintro ⟨transfer, maintenance, loading⟩
    rcases h with x | x | x
    · rw [transfer] at x; cases x
    · exact x maintenance
    · rw [loading] at x; cases x
  unfold State.serve
  exact if_neg held

theorem State.serve_of_idle (idle : s.makeRequests.canGrant = true)
    (one : s.scanDesire = none ∨ s.overlayReadDesire = none) :
    s.serve = ({ s with marb := s.asked } : State).grant := by
  have not_both : ¬ (s.scanDesire.isSome && s.overlayReadDesire.isSome) = true := by
    rcases one with none | none <;> simp [none]
  unfold State.serve
  dsimp only
  rw [if_pos idle, if_neg not_both]
  rfl

/-- An overlay read that is first at the port is granted unless a capture write waits or no overlay read does. -/
theorem State.grantOverlayReadFirst_cases : s.grantOverlayReadFirst = s.grant
    ∨ s.marb.captureWrite = none ∧ ∃ r, s.marb.overlayRead = some r
      ∧ s.grantOverlayReadFirst = s.grantOverlayRead r := by
  unfold State.grantOverlayReadFirst
  split
  · next r quiet waiting => exact .inr ⟨quiet, r, waiting, rfl⟩
  · exact .inl rfl

theorem State.serve_of_both (idle : s.makeRequests.canGrant = true) (scan : s.scanDesire.isSome = true)
    (overlay : s.overlayReadDesire.isSome = true) :
    s.serve = s.makeRequests.drawn.grant ∨ s.serve = s.makeRequests.drawn.grantOverlayReadFirst := by
  unfold State.serve
  dsimp only
  rw [if_pos idle, if_pos (by simp [scan, overlay])]
  split
  · exact .inr rfl
  · exact .inl rfl

/-- The port without the transfer that has ended. -/
def State.transferOver : State := { s with marb := { s.marb with transfer := none } }

/-- A freed port by its maintenance state (R26). -/
theorem State.portFreed_by_maintenance : s.portFreed = match s.marb.maintenance with
    | .due => { s with marb := { s.transferOver.asked with maintenance := .active } }
    | .none => if s.transferOver.makeRequests.canGrant = true then s.transferOver.makeRequests.grant
        else s.transferOver.makeRequests
    | .active => s.transferOver.makeRequests := rfl

theorem State.portFreed_of_due (h : s.marb.maintenance = .due) :
    s.portFreed = { s with marb := { s.transferOver.asked with maintenance := .active } } := by
  rw [State.portFreed_by_maintenance, h]

theorem State.portFreed_of_held
    (h : s.marb.maintenance = .active ∨ s.marb.maintenance = .none ∧ s.dctl.isLoading = true) :
    s.portFreed = { s with marb := s.transferOver.asked } := by
  rw [State.portFreed_by_maintenance]
  rcases h with active | ⟨none, loading⟩
  · rw [active]
    rfl
  · rw [none]
    refine (if_neg ?_).trans rfl
    rw [State.makeRequests_canGrant]
    rintro ⟨-, -, outside⟩
    exact absurd (loading.symm.trans outside) (by simp)

theorem State.portFreed_of_none (h : s.marb.maintenance = .none) (outside : s.dctl.isLoading = false) :
    s.portFreed = ({ s with marb := s.transferOver.asked } : State).grant := by
  rw [State.portFreed_by_maintenance, h]
  exact if_pos ((State.makeRequests_canGrant s.transferOver).mpr ⟨rfl, h, outside⟩)

theorem State.portFreed_eq : s.portFreed = { s with marb := s.portFreed.marb } := by
  have h := s.portFreed_frame
  revert h
  generalize s.portFreed = t
  obtain ⟨⟩ := t
  obtain ⟨⟩ := s
  simp only [State.mk.injEq]
  tauto

end

/-- The lines received and delivered of a slot, by its state (R10, R28, log 23). -/
theorem Capu.received_delivered (c : Capu) (i : SlotId) :
    (c.slots[i].state = .free → c.received i = 0) ∧ (c.slots[i].state = .complete → c.received i = c.slots[i].lines)
      ∧ (c.slots[i].state = .filling →
          c.received i = c.slots[i].linesWritten + (c.buffer.filter fun e => decide (e.slot = i)).length
          ∧ c.delivered i = c.slots[i].linesWritten
              + (c.buffer.filter fun e => decide (e.slot = i ∧ c.slots[i].frame = some e.frame)).length)
      ∧ (c.slots[i].state ≠ .filling → c.delivered i = c.received i) := by
  unfold Capu.received Capu.delivered
  cases state : c.slots[i].state
  · simp
  · simp [List.countP_eq_length_filter, beq_eq_decide]
  · simp

/-- The slot a line is read from (R92, R98). -/
theorem Scan.slotFor_of_unpatched (sc : Scan) (n : Nat) (h : sc.patchFrom = none) :
    (∀ i, sc.source = .slot i → sc.slotFor n = some i) ∧ ((∀ i, sc.source ≠ .slot i) → sc.slotFor n = none) := by
  unfold Scan.slotFor
  rw [h]
  cases source : sc.source <;> simp

/-- Settles O41: the port at a step's end, each requester's wish, and the port a transfer leaves. -/
theorem portServed : Obligations.PortServed := by
  refine ⟨fun s => ⟨State.serve_eq (s := s), s.serve_of_not_idle, fun transfer maintenance outside => ?_⟩,
    fun s => ⟨s.captureDesire_eq, s.overlayWriteDesire_eq, s.scanDesire_eq_none, fun sc found quiet idle room =>
      s.scanDesire_eq_some_iff found quiet idle room, s.overlayReadDesire_eq_none, fun sc y found target quiet idle =>
      s.overlayReadDesire_eq_some_iff found target quiet idle⟩,
    Capu.received_delivered, Scan.slotFor_of_unpatched, fun sc k n => ⟨rfl, fun patched => ?_⟩, Marb.busy_iff,
    fun s => ⟨s.portFreed_eq, s.portFreed_of_due, s.portFreed_of_held, s.portFreed_of_none⟩⟩
  · have idle := s.makeRequests_canGrant.mpr ⟨transfer, maintenance, outside⟩
    refine ⟨s.serve_of_idle idle, fun scan overlay => ?_⟩
    rcases s.serve_of_both idle scan overlay with order | order
    · exact .inl order
    · rcases s.makeRequests.drawn.grantOverlayReadFirst_cases with usual | ⟨quiet, ⟨p, n⟩, waiting, first⟩
      · exact .inl (order.trans usual)
      · exact .inr ⟨quiet, p, n, waiting, order.trans first⟩
  · unfold Scan.slotFor
    rw [patched]

end Sys2Proof.Machine

namespace Sys2Proof.Machine

open State

/-! ### The end of a transfer (R25) -/

theorem slotLineInLayout_iff (line width : Nat) : slotLineInLayout line width = true ↔ line < 2160 ∧ width ≤ 3840 := by
  simp [slotLineInLayout]

theorem planeLineInLayout_iff (line width : Nat) : planeLineInLayout line width = true ↔ line < 540 ∧ width ≤ 960 := by
  rw [planeLineInLayout, Bool.and_eq_true, decide_eq_true_eq, decide_eq_true_eq]
  rfl

section
variable (s : State)

/-- The end of a transfer is taken with the reset line released. -/
theorem transferEnd_exec (released : s.pins.reset = false) (dt : Nat) :
    exec (.transferEnd dt) s = (s.after dt).transferEnds := by
  have elapsed : s.elapse dt = s.after dt := State.elapse_of released dt
  rw [← elapsed]
  exact if_neg (by simp [released])

theorem State.transferEnds_of_none (h : s.marb.transfer = none) : s.transferEnds = .next s := by
  unfold State.transferEnds
  rw [h]

theorem State.transferEnds_of_placed {x : Transfer} (h : s.marb.transfer = some x)
    (placed : s.transferInLayout x = true) : s.transferEnds = .next (s.transferActs x).portFreed := by
  unfold State.transferEnds
  rw [h]
  exact if_pos placed

/-- A line outside the layout faults (log 25). -/
theorem State.transferEnds_of_unplaced {x : Transfer} (h : s.marb.transfer = some x)
    (outside : ¬ s.transferInLayout x = true) : s.transferEnds = .fault .noSuchLine := by
  unfold State.transferEnds
  rw [h]
  exact if_neg outside

/-! Whether the line has a place (R22). -/

theorem State.captureWrite_placed (i : SlotId) (line : Nat) {e : CaptureEntry} {rest : List CaptureEntry}
    (head : s.capu.buffer = e :: rest) :
    s.transferInLayout (.captureWrite i line) = true ↔ line < 2160 ∧ e.pixels.length ≤ 3840 := by
  unfold State.transferInLayout
  rw [head]
  exact slotLineInLayout_iff _ _

theorem State.captureWrite_placed_of_empty (i : SlotId) (line : Nat) (empty : s.capu.buffer = []) :
    s.transferInLayout (.captureWrite i line) = true := by
  unfold State.transferInLayout
  rw [empty]

theorem State.scanRead_placed (i : SlotId) (line : Nat) {sc : Scan} (found : s.seng.scan = some sc) :
    s.transferInLayout (.scanRead i line true) = true ↔ line < 2160 ∧ sc.width ≤ 3840 := by
  unfold State.transferInLayout
  rw [found]
  simp [slotLineInLayout_iff]

theorem State.scanRead_placed_of_no_scan (i : SlotId) (line : Nat) {wanted : Bool} (none : s.seng.scan = none) :
    s.transferInLayout (.scanRead i line wanted) = true := by
  unfold State.transferInLayout
  rw [none]

theorem State.scanRead_placed_of_unwanted (i : SlotId) (line : Nat) :
    s.transferInLayout (.scanRead i line false) = true := by
  unfold State.transferInLayout
  cases s.seng.scan <;> rfl

theorem State.overlayRead_placed (p : Plane) (line : Nat) :
    s.transferInLayout (.overlayRead p line true) = true ↔ line < 540 := by
  simp [State.transferInLayout, planeLineInLayout_iff]

theorem State.overlayWrite_placed (e : OverlayEntry) (buffered : Bool) :
    s.transferInLayout (.overlayWrite e buffered) = true ↔ e.line < 540 ∧ e.pixels.length ≤ 960 :=
  planeLineInLayout_iff _ _

/-! What the requester does with its line (R14, R94, R115, R123). -/

theorem Capu.writeEnded_eq {c : Capu} {e : CaptureEntry} {rest : List CaptureEntry} (head : c.buffer = e :: rest) :
    c.writeEnded = { c with
      buffer := rest
      slots := if c.slots[e.slot].state ≠ .free ∧ c.slots[e.slot].frame = some e.frame then
          c.slots.set e.slot.val { c.slots[e.slot] with linesWritten := c.slots[e.slot].linesWritten + 1 } e.slot.isLt
        else c.slots } := by
  unfold Capu.writeEnded
  rw [head]
  dsimp only
  split <;> rfl

theorem State.captureWriteEnds_eq (i : SlotId) (line : Nat) {e : CaptureEntry} {rest : List CaptureEntry}
    (head : s.capu.buffer = e :: rest) : s.captureWriteEnds i line =
      { s with mem := s.mem.store (i.val * 33554432 + line * 15360) (e.pixels.flatMap GamePixel.bytes)
               capu := s.capu.writeEnded } := by
  unfold State.captureWriteEnds
  rw [head]
  rfl

theorem State.captureWriteEnds_of_empty (i : SlotId) (line : Nat) (empty : s.capu.buffer = []) :
    s.captureWriteEnds i line = s := by
  unfold State.captureWriteEnds
  rw [empty]

theorem State.keepSlotLine_eq {sc : Scan} (found : s.seng.scan = some sc) (i : SlotId) (line : Nat) :
    s.keepSlotLine i line =
      if (sc.nextOut ≤ line ∧ line ≤ sc.nextOut + 3 ∧ line < sc.lines) ∧ sc.slotFor line = some i
          ∧ s.seng.readAhead.length < 4 then
        { s with seng := { s.seng with readAhead := s.seng.readAhead ++
          [{ slot := i, line := line, pixels := s.mem.readSlotLine i line sc.width }] } }
      else s := by
  unfold State.keepSlotLine
  rw [found]
  simp only [Scan.mem_window]
  rfl

theorem State.keepSlotLine_of_no_scan (none : s.seng.scan = none) (i : SlotId) (line : Nat) :
    s.keepSlotLine i line = s := by
  unfold State.keepSlotLine
  rw [none]

theorem State.cachePlaneLine_eq {sc : Scan} {y : Nat} (found : s.seng.scan = some sc) (target : s.ocmp.target = some y)
    (line : Nat) (pixels : List OverlayPixel) : s.cachePlaneLine line pixels =
      if line ∈ s.lineSet sc y then { s with ocmp := { s.ocmp with cache := s.ocmp.cache ++ [(line, pixels)] } }
      else s := by
  unfold State.cachePlaneLine
  rw [found, target]
  rfl

theorem State.cachePlaneLine_of_no_target (h : s.seng.scan = none ∨ s.ocmp.target = none) (line : Nat)
    (pixels : List OverlayPixel) : s.cachePlaneLine line pixels = s := by
  unfold State.cachePlaneLine
  split
  · next found target =>
    rcases h with none | none
    · rw [none] at found; cases found
    · rw [none] at target; cases target
  · rfl

theorem Ocap.writeEnded_of_empty {o : Ocap} (empty : o.buffer = []) : o.writeEnded = o := by
  unfold Ocap.writeEnded
  rw [empty]

/-- The 540th line of the frame now filling makes the back plane READY (R115). -/
theorem Ocap.writeEnded_eq {o : Ocap} {head : OverlayEntry} {rest : List OverlayEntry} (h : o.buffer = head :: rest) :
    o.writeEnded = if head.current = true ∧ o.back = BackState.filling then
        { o with
          buffer := rest, backWritten := o.backWritten + 1
          back := if o.backWritten + 1 = 540 then BackState.ready else BackState.filling }
      else { o with buffer := rest } := by
  unfold Ocap.writeEnded
  rw [h]
  rfl

/-- An overlay line in memory (R22, R25). -/
def State.planeLineStored (s : State) (e : OverlayEntry) : State :=
  { s with mem := s.mem.store (planeBase e.plane + e.line * 3840) (e.pixels.flatMap OverlayPixel.bytes) }

theorem State.overlayWriteEnds_kept {e : OverlayEntry} {buffered : Bool} (h : buffered = false ∨ s.ocap.buffer = []) :
    s.overlayWriteEnds e buffered = s.planeLineStored e := by
  unfold State.overlayWriteEnds
  dsimp only
  split
  · next inBuffer =>
    have empty : s.ocap.buffer = [] := h.resolve_left (by simp [inBuffer])
    rw [State.setMem_ocap, Ocap.writeEnded_of_empty empty]
    rfl
  · rfl

theorem State.overlayWriteEnds_buffered (e : OverlayEntry) :
    s.overlayWriteEnds e true = { s.planeLineStored e with ocap := s.ocap.writeEnded } := rfl

/-- A transfer that ends, its line in place. -/
theorem transferEnd_placed (released : s.pins.reset = false) (dt : Nat) {x : Transfer}
    (inProgress : s.marb.transfer = some x) (placed : (s.after dt).transferInLayout x = true) :
    exec (.transferEnd dt) s = .next ((s.after dt).transferActs x).portFreed := by
  rw [transferEnd_exec s released, State.transferEnds_of_placed (s.after dt) inProgress placed]

theorem transferEnd_unplaced (released : s.pins.reset = false) (dt : Nat) {x : Transfer}
    (inProgress : s.marb.transfer = some x) (outside : ¬ (s.after dt).transferInLayout x = true) :
    exec (.transferEnd dt) s = .fault .noSuchLine := by
  rw [transferEnd_exec s released, State.transferEnds_of_unplaced (s.after dt) inProgress outside]

end

/-- Settles O42: by the transfer in progress, whether its line has a place, and what its requester does with it. -/
theorem transferEnd : Obligations.TransferEnd := by
  intro dt s released
  have act {x : Transfer} {t : State} (inProgress : s.marb.transfer = some x)
      (placed : (s.after dt).transferInLayout x = true) (acts : (s.after dt).transferActs x = t) :
      exec (.transferEnd dt) s = .next t.portFreed := by
    rw [transferEnd_placed s released dt inProgress placed, acts]
  have fault {x : Transfer} (inProgress : s.marb.transfer = some x)
      (outside : ¬ (s.after dt).transferInLayout x = true) : exec (.transferEnd dt) s = .fault .noSuchLine :=
    transferEnd_unplaced s released dt inProgress outside
  refine ⟨fun none => ?_, fun i line e rest moving head low short => ?_, fun i line sc moving found low short => ?_,
    fun i line moving => ?_, fun p line sc y moving found target low => ?_, fun p line moving => ?_,
    fun i line moving empty => ?_, fun i line moving none => ?_, fun p line moving low none => ?_,
    fun e buffered moving low short => ⟨fun kept => ?_, fun head rest inBuffer buffer => ?_⟩,
    fun i line sc moving found out => ?_, fun p line moving out => ?_, fun i line e rest moving head out => ?_,
    fun e buffered moving out => ?_⟩
  · rw [transferEnd_exec s released, (s.after dt).transferEnds_of_none none]
  · refine act moving (((s.after dt).captureWrite_placed i line head).mpr ⟨low, short⟩) ?_
    refine ((s.after dt).captureWriteEnds_eq i line head).trans ?_
    rw [Capu.writeEnded_eq (c := (s.after dt).capu) head]
    rfl
  · have placed := ((s.after dt).scanRead_placed i line found).mpr ⟨low, short⟩
    rw [act moving placed ((s.after dt).keepSlotLine_eq found i line), apply_ite State.portFreed]
    rfl
  · exact act moving ((s.after dt).scanRead_placed_of_unwanted i line) rfl
  · have placed := ((s.after dt).overlayRead_placed p line).mpr low
    rw [act moving placed ((s.after dt).cachePlaneLine_eq found target line _), apply_ite State.portFreed]
    rfl
  · exact act moving rfl rfl
  · exact act moving ((s.after dt).captureWrite_placed_of_empty i line empty)
      ((s.after dt).captureWriteEnds_of_empty i line empty)
  · exact act moving ((s.after dt).scanRead_placed_of_no_scan i line none)
      ((s.after dt).keepSlotLine_of_no_scan none i line)
  · exact act moving (((s.after dt).overlayRead_placed p line).mpr low)
      ((s.after dt).cachePlaneLine_of_no_target none line _)
  · exact act moving (((s.after dt).overlayWrite_placed e buffered).mpr ⟨low, short⟩)
      ((s.after dt).overlayWriteEnds_kept kept)
  · subst inBuffer
    refine act moving (((s.after dt).overlayWrite_placed e true).mpr ⟨low, short⟩) ?_
    refine ((s.after dt).overlayWriteEnds_buffered e).trans ?_
    rw [Ocap.writeEnded_eq (o := (s.after dt).ocap) buffer]
    rfl
  · refine fault moving ?_
    rw [(s.after dt).scanRead_placed i line found]
    omega
  · refine fault moving ?_
    rw [(s.after dt).overlayRead_placed p line]
    omega
  · refine fault moving ?_
    rw [(s.after dt).captureWrite_placed i line head]
    omega
  · refine fault moving ?_
    rw [(s.after dt).overlayWrite_placed e buffered]
    omega

end Sys2Proof.Machine

namespace Sys2Proof.Machine

open State

/-! ### Lines that have a place in the layout, block by block (R22, R40, R118) -/

/-- Every stored format fits a slot, and a VALID one has a line (R22, R40). -/
def Pru.placed (p : Pru) : Prop :=
  ∀ i : Fin 4, p.table[i].profile.width ≤ 3840 ∧ p.table[i].profile.lines ≤ 2160
    ∧ (p.table[i].state = .valid → 1 ≤ p.table[i].profile.lines)

/-- The frame arriving has a line still to come, in a format that fits a slot (R5, R22). -/
def Check.placed : Check → Prop
  | .arriving f => f.width ≤ 3840 ∧ f.lines ≤ 2160 ∧ f.linesSeen < f.lines
  | .counted _ => True
  | .closed => True

/-- Every line in the capture write buffer fits a slot (R14, R22). -/
def Capu.placed (c : Capu) : Prop := ∀ e ∈ c.buffer, e.line < 2160 ∧ e.pixels.length ≤ 3840

/-- The scan in flight has a format that fits a slot (R22, R90). -/
def Seng.placed (g : Seng) : Prop := ∀ sc ∈ g.scan, sc.width ≤ 3840 ∧ sc.lines ≤ 2160

/-- Every region of a bank lies inside the plane (R118). -/
def Bank.placed (b : Bank) : Prop := ∀ i : Fin 8, b.regions[i].inPlane

/-- Both banks' regions lie inside the plane (R118). -/
def Tbc.placed (t : Tbc) : Prop := t.active.placed ∧ t.shadow.placed

/-- Every line in the overlay write buffer fits a plane, and so will the next one of the frame arriving (R22, R114). -/
def Ocap.placed (o : Ocap) : Prop :=
  (∀ e ∈ o.buffer, e.line < 540 ∧ e.pixels.length ≤ 960) ∧ (o.phase = .arriving → o.linesSeen < 540)

/-- The line of a transfer has a place in its slot or plane (R22). -/
def Transfer.placed : Transfer → Prop
  | .captureWrite _ line => line < 2160
  | .scanRead _ line _ => line < 2160
  | .overlayRead _ line _ => line < 540
  | .overlayWrite e _ => e.line < 540 ∧ e.pixels.length ≤ 960

/-- Every line asked for and the line of the transfer in progress have a place (R22, R24). -/
structure Marb.Placed (m : Marb) : Prop where
  captureWrite : ∀ r ∈ m.captureWrite, r.2 < 2160
  scanRead : ∀ r ∈ m.scanRead, r.2 < 2160
  overlayRead : ∀ r ∈ m.overlayRead, r.2 < 540
  transfer : ∀ x ∈ m.transfer, x.placed

/-- Every line the port could be asked for has a place, block by block. -/
structure State.Placed (s : State) : Prop where
  pru : s.pru.placed
  check : s.lrx.check.placed
  capu : s.capu.placed
  seng : s.seng.placed
  tbc : s.tbc.placed
  ocap : s.ocap.placed
  marb : s.marb.Placed

theorem layoutInv_iff (s : State) : LayoutInv s ↔ s.Placed := by
  have check : (match s.lrx.check with
      | .arriving f => f.width ≤ 3840 ∧ f.lines ≤ 2160 ∧ f.linesSeen < f.lines
      | .counted _ => True
      | .closed => True) ↔ s.lrx.check.placed := by cases s.lrx.check <;> rfl
  have moving : (match s.marb.transfer with
      | some (.captureWrite _ line) => line < 2160
      | some (.scanRead _ line _) => line < 2160
      | some (.overlayRead _ line _) => line < 540
      | some (.overlayWrite e _) => e.line < 540 ∧ e.pixels.length ≤ 960
      | none => True) ↔ ∀ x ∈ s.marb.transfer, x.placed := by
    cases s.marb.transfer with
    | none => simp
    | some x => cases x <;> simp [Transfer.placed]
  constructor
  · rintro ⟨pru, arriving, capu, seng, regions, buffer, phase, capture, scan, overlay, transfer⟩
    exact ⟨pru, check.mp arriving, capu, seng, ⟨fun i => (regions i).1, fun i => (regions i).2⟩, ⟨buffer, phase⟩,
      ⟨capture, scan, overlay, moving.mp transfer⟩⟩
  · rintro ⟨pru, arriving, capu, seng, ⟨active, shadow⟩, ⟨buffer, phase⟩, ⟨capture, scan, overlay, transfer⟩⟩
    exact ⟨pru, check.mpr arriving, capu, seng, fun i => ⟨active i, shadow i⟩, buffer, phase, capture, scan, overlay,
      moving.mpr transfer⟩

section
variable {s t : State}

/-- The scan's format is all that SENG's part speaks of. -/
theorem State.SameRun.seng_placed (same : SameRun s t) (h : s.seng.placed) : t.seng.placed := by
  intro sc found
  obtain ⟨sc', found', width, lines⟩ := State.exists_scan_of_scanKey same.scan found
  rw [width, lines]
  exact h sc' found'

/-- The scan in flight keeps its format, and the other blocks are as they were. -/
theorem State.Placed.of_same (h : s.Placed) (same : SameRun s t) (rest : t.pru = s.pru ∧ t.lrx = s.lrx
    ∧ t.capu = s.capu ∧ t.tbc = s.tbc ∧ t.ocap = s.ocap ∧ t.marb = s.marb) : t.Placed := by
  obtain ⟨pru, lrx, capu, tbc, ocap, marb⟩ := rest
  exact ⟨by rw [pru]; exact h.pru, by rw [lrx]; exact h.check, by rw [capu]; exact h.capu, same.seng_placed h.seng,
    by rw [tbc]; exact h.tbc, by rw [ocap]; exact h.ocap, by rw [marb]; exact h.marb⟩

/-- Every block is as it was. -/
theorem State.Placed.of_frame (h : s.Placed) (same : t.pru = s.pru ∧ t.lrx = s.lrx ∧ t.capu = s.capu ∧ t.seng = s.seng
    ∧ t.tbc = s.tbc ∧ t.ocap = s.ocap ∧ t.marb = s.marb) : t.Placed := by
  obtain ⟨pru, lrx, capu, seng, tbc, ocap, marb⟩ := same
  exact ⟨by rw [pru]; exact h.pru, by rw [lrx]; exact h.check, by rw [capu]; exact h.capu, by rw [seng]; exact h.seng,
    by rw [tbc]; exact h.tbc, by rw [ocap]; exact h.ocap, by rw [marb]; exact h.marb⟩

theorem Capu.placed.of_buffer {c d : Capu} (h : c.placed) (buffer : ∀ e ∈ d.buffer, e ∈ c.buffer) : d.placed :=
  fun e member => h e (buffer e member)

/-- A request withdrawn, or kept, leaves the others; a transfer marked keeps its line. -/
theorem Marb.Placed.of_subset {m n : Marb} (h : m.Placed) (capture : ∀ r ∈ n.captureWrite, r ∈ m.captureWrite)
    (scan : ∀ r ∈ n.scanRead, r ∈ m.scanRead) (overlay : ∀ r ∈ n.overlayRead, r ∈ m.overlayRead)
    (transfer : ∀ x ∈ n.transfer, x.placed) : n.Placed :=
  ⟨fun r asked => h.captureWrite r (capture r asked), fun r asked => h.scanRead r (scan r asked),
    fun r asked => h.overlayRead r (overlay r asked), transfer⟩

/-! ### Requests and grants -/

theorem Region.planeLine_lt {r : Region} (inside : r.inPlane) {width lines y : Nat}
    (covers : r.coversLine width lines y = true) : r.planeLine y < 540 := by
  obtain ⟨fits, zoom⟩ := inside
  simp only [Region.coversLine, Bool.and_eq_true, decide_eq_true_eq] at covers
  obtain ⟨⟨⟨-, above⟩, below⟩, -⟩ := covers
  have row : (y - r.destY) / r.zoom < r.height := Nat.div_lt_of_lt_mul (by rw [Nat.mul_comm]; omega)
  unfold Region.planeLine
  omega

theorem Bank.placed.mem_precedence {b : Bank} (h : b.placed) {r : Region} (member : r ∈ b.precedence) : r.inPlane := by
  have stored : r ∈ b.regions.toList := by simpa [Bank.precedence] using member
  obtain ⟨k, small, rfl⟩ := List.mem_iff_getElem.mp stored
  exact h ⟨k, by simpa using small⟩

/-- A line of a line set was there or is the plane line of one of the regions (R122). -/
theorem mem_admitRegions {y n : Nat} {regions : List Region} {set : List Nat}
    (h : n ∈ (admitRegions y regions set).1) : n ∈ set ∨ ∃ r ∈ regions, n = r.planeLine y := by
  induction regions generalizing set with
  | nil => exact .inl h
  | cons r rest ih =>
    have later {set : List Nat} (h : n ∈ (admitRegions y rest set).1) :
        n ∈ set ∨ ∃ r' ∈ r :: rest, n = r'.planeLine y :=
      (ih h).imp_right fun ⟨r', member, line⟩ => ⟨r', List.mem_cons_of_mem r member, line⟩
    unfold admitRegions at h
    split at h
    · exact later h
    · split at h
      · rcases later h with joined | region
        · rcases List.mem_append.mp joined with was | new
          · exact .inl was
          · exact .inr ⟨r, List.mem_cons_self, List.mem_singleton.mp new⟩
        · exact .inr region
      · exact later h

/-- A line set's lines lie inside the plane (R118, R122). -/
theorem State.lineSet_lt (h : s.tbc.active.placed) (sc : Scan) {y n : Nat} (member : n ∈ s.lineSet sc y) : n < 540 := by
  unfold State.lineSet overlayBudget at member
  split at member
  · obtain ⟨r, covering, rfl⟩ := (mem_admitRegions member).resolve_left (by simp)
    obtain ⟨inBank, covers⟩ := List.mem_filter.mp covering
    exact Region.planeLine_lt (h.mem_precedence inBank) covers
  · cases member

theorem State.captureDesire_lt (h : s.capu.placed) {r : SlotId × Nat} (desired : s.captureDesire = some r) :
    r.2 < 2160 := by
  unfold State.captureDesire at desired
  split at desired
  · cases desired
  · obtain ⟨e, head, rfl⟩ := Option.map_eq_some_iff.mp desired
    exact (h e (List.mem_of_mem_head? head)).1

theorem State.scanDesire_lt (h : s.seng.placed) {r : SlotId × Nat} (desired : s.scanDesire = some r) : r.2 < 2160 := by
  unfold State.scanDesire at desired
  split at desired
  · cases desired
  · split at desired
    · cases desired
    · next sc found =>
      split at desired
      · cases desired
      · obtain ⟨n, wanted, slot⟩ := Option.bind_eq_some_iff.mp desired
        obtain ⟨i, -, rfl⟩ := Option.map_eq_some_iff.mp slot
        have last := ((Scan.mem_window sc n).mp (List.mem_of_find?_eq_some wanted)).2.2
        exact last.trans_le (h sc found).2

theorem State.overlayReadDesire_lt (h : s.tbc.active.placed) {r : Plane × Nat}
    (desired : s.overlayReadDesire = some r) : r.2 < 540 := by
  unfold State.overlayReadDesire at desired
  split at desired
  · cases desired
  · split at desired
    · next sc y _ _ =>
      obtain ⟨n, first, rfl⟩ := Option.map_eq_some_iff.mp desired
      exact State.lineSet_lt h sc (List.mem_of_find?_eq_some first)
    · cases desired

/-- Every requester asks for a line that has a place (R24). -/
theorem State.Placed.makeRequests (h : s.Placed) : s.makeRequests.Placed := by
  have was_or_desired {α : Type} {P : α → Prop} {was desire : Option α} (held : ∀ r ∈ was, P r)
      (desired : ∀ r, desire = some r → P r) : ∀ r ∈ was.or desire, P r := by
    intro r asked
    rcases Option.or_eq_some_iff.mp asked with old | ⟨-, new⟩
    · exact held r old
    · exact desired r new
  have asked : s.makeRequests.marb.Placed :=
    { captureWrite := was_or_desired h.marb.captureWrite fun _ => State.captureDesire_lt h.capu
      scanRead := was_or_desired h.marb.scanRead fun _ => State.scanDesire_lt h.seng
      overlayRead := was_or_desired h.marb.overlayRead fun _ => State.overlayReadDesire_lt h.tbc.1
      transfer := h.marb.transfer }
  exact { h with marb := asked }

/-- A request that is granted becomes the transfer in progress, and the other requests stay. -/
theorem Marb.Placed.granted {m n : Marb} (h : m.Placed) {x : Transfer} (placed : x.placed)
    (transfer : n.transfer = some x) (capture : ∀ r ∈ n.captureWrite, r ∈ m.captureWrite)
    (scan : ∀ r ∈ n.scanRead, r ∈ m.scanRead) (overlay : ∀ r ∈ n.overlayRead, r ∈ m.overlayRead) : n.Placed :=
  h.of_subset capture scan overlay fun y moving => by
    rw [transfer] at moving
    cases moving
    exact placed

theorem State.Placed.grantOverlayRead (h : s.Placed) {r : Plane × Nat} (waiting : s.marb.overlayRead = some r) :
    (s.grantOverlayRead r).Placed :=
  { h with
    marb := h.marb.granted (x := .overlayRead r.1 r.2 true) (h.marb.overlayRead r waiting) rfl
      (fun _ asked => asked) (fun _ asked => asked) (by simp [State.grantOverlayRead]) }

theorem State.Placed.grantOverlayWrite (h : s.Placed) : s.grantOverlayWrite.Placed := by
  unfold State.grantOverlayWrite
  split
  · next e rest buffer =>
    have placed : (Transfer.overlayWrite e true).placed := h.ocap.1 e (by simp [buffer])
    exact { h with
      marb := h.marb.granted placed rfl (fun _ asked => asked) (fun _ asked => asked) (fun _ asked => asked) }
  · exact { h with marb := { h.marb with } }

theorem State.Placed.grantOverlay (h : s.Placed) : s.grantOverlay.Placed := by
  unfold State.grantOverlay
  split
  · next r waiting => exact h.grantOverlayRead waiting
  · split
    · exact h.grantOverlayWrite
    · exact h

theorem State.Placed.grant (h : s.Placed) : s.grant.Placed := by
  unfold State.grant
  split
  · next r waiting =>
    exact { h with
      marb := h.marb.granted (x := .captureWrite r.1 r.2) (h.marb.captureWrite r waiting) rfl
        (by simp [State.grantCaptureWrite]) (fun _ asked => asked) (fun _ asked => asked) }
  · split
    · next r eligible =>
      have waiting : s.marb.scanRead = some r := (Option.filter_eq_some_iff.mp eligible).1
      exact { h with
        marb := h.marb.granted (x := .scanRead r.1 r.2 true) (h.marb.scanRead r waiting) rfl
          (fun _ asked => asked) (by simp [State.grantScanRead]) (fun _ asked => asked) }
    · exact h.grantOverlay

theorem State.Placed.drawn (h : s.Placed) : s.drawn.Placed := h.of_frame (by simp)

theorem State.Placed.serve (h : s.Placed) : s.serve.Placed := by
  have made := h.makeRequests
  unfold State.serve
  dsimp only
  split
  · split
    · split
      · rcases s.makeRequests.drawn.grantOverlayReadFirst_cases with usual | ⟨-, r, waiting, first⟩
        · rw [usual]
          exact made.drawn.grant
        · rw [first]
          exact made.drawn.grantOverlayRead waiting
      · exact made.drawn.grant
    · exact made.grant
  · exact made

theorem State.Placed.setMaintenance (h : s.Placed) (x : Maintenance) :
    (s.setMarb { s.marb with maintenance := x }).Placed := { h with marb := { h.marb with } }

theorem State.Placed.portFreed (h : s.Placed) : s.portFreed.Placed := by
  have ended : (s.setMarb { s.marb with transfer := none }).Placed :=
    { h with marb := { h.marb with transfer := by simp } }
  have made := ended.makeRequests
  unfold State.portFreed
  dsimp only
  split
  · exact made.setMaintenance _
  · split
    · exact made.grant
    · exact made
  · exact made

theorem State.Placed.maintenanceDue (h : s.Placed) : s.maintenanceDue.Placed := by
  unfold State.maintenanceDue
  split
  · exact h.setMaintenance _
  · exact h
  · exact h

theorem State.Placed.maintenanceEnds (h : s.Placed) : s.maintenanceEnds.Placed := by
  unfold State.maintenanceEnds
  split
  · dsimp only
    split
    · exact (h.setMaintenance .none).grant
    · exact h.setMaintenance .none
  · exact h
  · exact h

end

end Sys2Proof.Machine

namespace Sys2Proof.Machine

open State

section
variable {s t : State}

/-! ### Captures and lines (R6, R9, R14, R17) -/

theorem State.Placed.raise (h : s.Placed) (e : EventSource) : (s.raise e).Placed := h.of_frame (by simp)

theorem State.Placed.addReply (h : s.Placed) (tag code : Byte) (status : Status) (payload : List Byte) :
    (s.addReply tag code status payload).Placed := h.of_frame (by simp)

theorem State.Placed.withCrp (h : s.Placed) (c : Crp) : (s.withCrp c).Placed := h.of_frame (by simp)

theorem State.Placed.setSsch (h : s.Placed) (x : Ssch) : (s.setSsch x).Placed := h.of_frame (by simp)

theorem State.Placed.cadenceLfs (h : s.Placed) (frame time : Word) : (s.cadenceLfs frame time).Placed := h.of_frame (by simp)

theorem State.Placed.switchToPatching (h : s.Placed) : s.switchToPatching.Placed :=
  h.of_same (sameRun_switchToPatching s) (by simp)

theorem State.Placed.clearPending (h : s.Placed) (frame : Word) : (s.clearPending frame).Placed := h.of_frame (by simp)

theorem State.Placed.engineMalformed (h : s.Placed) (frame : Word) (k : Nat) : (s.engineMalformed frame k).Placed :=
  h.of_same (sameRun_engineMalformed s frame k) (by simp)

theorem State.Placed.engineAbandoned (h : s.Placed) (i : SlotId) : (s.engineAbandoned i).Placed :=
  h.of_same (sameRun_engineAbandoned s i) (by simp)

/-- An abandonment only takes entries out of the buffer (R17). -/
theorem Capu.mem_of_mem_withoutSlot {c : Capu} {i : SlotId} {inProgress : Bool} {e : CaptureEntry}
    (h : e ∈ c.withoutSlot i inProgress) : e ∈ c.buffer := by
  unfold Capu.withoutSlot at h
  split at h
  · rcases List.mem_append.mp h with head | rest
    · exact List.mem_of_mem_take head
    · exact List.mem_of_mem_drop (List.mem_of_mem_filter rest)
  · exact List.mem_of_mem_filter h

theorem State.Placed.abandonCapture (h : s.Placed) (i : SlotId) : (s.abandonCapture i).Placed := by
  have undone : (s.undoCapture i).Placed :=
    { h with
      capu := h.capu.of_buffer fun _ => Capu.mem_of_mem_withoutSlot
      marb := h.marb.of_subset (fun _ asked => (Option.mem_filter_iff.mp asked).1) (fun _ asked => asked)
        (fun _ asked => asked) h.marb.transfer }
  unfold State.abandonCapture
  dsimp only
  split
  · exact (undone.clearPending _).engineAbandoned i
  · exact undone.engineAbandoned i

theorem State.Placed.abandonFrame (h : s.Placed) (frame : Word) : (s.abandonFrame frame).Placed := by
  unfold State.abandonFrame
  split
  · exact h.abandonCapture _
  · exact h

theorem State.Placed.closeCheck (h : s.Placed) : s.closeCheck.Placed := { h with check := trivial }

theorem State.Placed.malformed (h : s.Placed) (frame : Word) (k : Nat) : (s.malformed frame k).Placed :=
  (((h.closeCheck.raise .malformedFrame).abandonFrame frame).clearPending frame).engineMalformed frame k

theorem State.Placed.cutArriving (h : s.Placed) : s.cutArriving.Placed := by
  unfold State.cutArriving
  split
  · exact h.malformed _ _
  · exact h
  · exact h

/-- A line handed on is in the buffer, or its capture is abandoned (R14, R15). -/
theorem State.Placed.captureLine (h : s.Placed) (frame : Word) {line : Nat} (low : line < 2160)
    {pixels : List GamePixel} (short : pixels.length ≤ 3840) : (s.captureLine frame line pixels).Placed := by
  unfold State.captureLine
  split
  · exact h
  · split
    · refine { h with capu := fun e member => ?_ }
      rcases List.mem_append.mp member with was | new
      · exact h.capu e was
      · rw [List.mem_singleton.mp new]
        exact ⟨low, short⟩
    · exact (h.abandonCapture _).raise _

theorem State.Placed.engineLine (h : s.Placed) (frame : Word) (line start : Nat) (pixels : List GamePixel) :
    (s.engineLine frame line start pixels).Placed :=
  h.of_same (sameRun_engineLine s frame line start pixels) (by simp)

/-- After a line the frame has one still to come, or is COUNTED (R6). -/
theorem State.Placed.countLine (h : s.Placed) {f : FrameCheck} (latched : (Check.arriving f).placed) :
    (s.countLine f).Placed := by
  obtain ⟨width, lines, more⟩ := latched
  unfold State.countLine State.captureFrameEnd
  dsimp only
  split
  · split
    · exact { h with check := trivial, capu := h.capu.of_buffer (by simp [Capu.complete_buffer]) }
    · exact { h with check := trivial }
  · exact { h with check := ⟨width, lines, by dsimp only; omega⟩ }

theorem State.Placed.takeLineEnd (h : s.Placed) (pixels : List GamePixel) : (s.takeLineEnd pixels).Placed := by
  unfold State.takeLineEnd
  split
  · exact h
  · exact h
  · next f found =>
    have latched : (Check.arriving f).placed := found ▸ h.check
    obtain ⟨width, lines, more⟩ := id latched
    split
    · split
      · next counted =>
        exact ((h.captureLine _ (by omega) (by omega)).engineLine _ _ _ _).countLine latched
      · exact h.malformed _ _
    · exact h

theorem State.Placed.takeLineStart (h : s.Placed) : s.takeLineStart.Placed := by
  unfold State.takeLineStart State.arrivingLineStart
  split
  · exact h
  · next f found =>
    have latched : (Check.arriving f).placed := found ▸ h.check
    split
    · exact h.malformed _ _
    · split
      · exact { h with check := latched }
      · exact h.malformed _ _
  · exact h.malformed _ _

theorem State.Placed.takeBlanking (h : s.Placed) : s.takeBlanking.Placed := by
  unfold State.takeBlanking
  split
  · exact h
  · exact h.malformed _ _
  · exact h.closeCheck

theorem State.Placed.lineOverdue (h : s.Placed) : s.lineOverdue.Placed := by
  unfold State.lineOverdue
  split
  · exact h
  · exact h
  · split
    · exact h.malformed _ _
    · exact h

/-! ### Scan starts and scan ends (R90, R102, R130) -/

/-- A commit makes the shadow bank the active one (R129). -/
theorem State.Placed.takeCommit (h : s.Placed) (marker : Half) : (s.takeCommit marker).Placed :=
  { h with tbc := ⟨h.tbc.2, h.tbc.2⟩ }

theorem State.Placed.commitAtStart (h : s.Placed) : s.commitAtStart.Placed := by
  unfold State.commitAtStart
  split
  · exact h.takeCommit _
  · exact h

theorem State.Placed.commitWithoutScan (h : s.Placed) (marker : Half) : (s.commitWithoutScan marker).Placed := by
  unfold State.commitWithoutScan
  split
  · exact (h.takeCommit marker).withCrp _
  · exact h.takeCommit marker

theorem State.Placed.commitAtOff (h : s.Placed) : s.commitAtOff.Placed := by
  unfold State.commitAtOff
  split
  · exact h.commitWithoutScan _
  · exact h

theorem Scan.formatPatched_format (sc : Scan) (c : Capu) :
    (sc.formatPatched c).width = sc.width ∧ (sc.formatPatched c).lines = sc.lines := by
  unfold Scan.formatPatched
  split
  · exact (Scan.withChoices_key { sc with patchFrom := some 0 } c).2
  · exact ⟨rfl, rfl⟩

/-- A scan starts in the format of the profile the active bank names (R90). -/
theorem State.Placed.newScan (h : s.Placed) (r : StartReason) (sh : Shown) (before : State) (crp : Crp) :
    (s.newScan r sh before crp).width ≤ 3840 ∧ (s.newScan r sh before crp).lines ≤ 2160 :=
  ⟨(h.pru s.tbc.active.profile).1, (h.pru s.tbc.active.profile).2.1⟩

theorem State.Placed.engineAtStart (h : s.Placed) {sc : Scan} (format : sc.width ≤ 3840 ∧ sc.lines ≤ 2160) :
    (s.engineAtStart sc).Placed := by
  refine { h with seng := fun sc' found => ?_ }
  cases found
  rw [(sc.formatPatched_format _).1, (sc.formatPatched_format _).2]
  exact format

/-- The planes may swap at a scan start, and the entries and the lines seen stay (R117). -/
theorem Ocap.placed.atScanStart {o : Ocap} (h : o.placed) : o.atScanStart.placed := by
  unfold Ocap.atScanStart
  split <;> exact h

theorem State.Placed.startScan (h : s.Placed) (r : StartReason) : (s.startScan r).Placed := by
  have ready (a b c : Bool) : ((s.commitAtStart.cadenceAtStart r a b).schedulerAtStart r c).Placed :=
    h.commitAtStart.of_frame (by simp)
  have shown (a b c : Bool) (k : Kind) :
      (((s.commitAtStart.cadenceAtStart r a b).schedulerAtStart r c).imageAtStart k).Placed :=
    { ready a b c with ocap := (ready a b c).ocap.atScanStart }
  exact (shown _ _ _ _).engineAtStart ((ready _ _ _).newScan _ _ _ _)

theorem State.Placed.takeOpen (h : s.Placed) : s.takeOpen.Placed := by
  unfold State.takeOpen
  split <;> split
  · exact h.startScan _
  · exact h
  · exact h.startScan _
  · exact h

theorem State.Placed.takeActive (h : s.Placed) : s.takeActive.Placed := by
  unfold State.takeActive State.takeMin
  split
  · split
    · split
      · exact h.startScan _
      · exact (h.setSsch _).takeOpen
    · exact h
  · exact h.takeOpen
  · exact h
  · exact h

theorem Transfer.placed_unwanted {x : Transfer} : x.unwanted.placed ↔ x.placed := by cases x <;> rfl

theorem Transfer.placed_unbuffered {x : Transfer} : x.unbuffered.placed ↔ x.placed := by cases x <;> rfl

/-- The waiting reads are withdrawn and the one in progress keeps its line (R33, R102). -/
theorem State.Placed.clearEngine (h : s.Placed) : s.clearEngine.Placed := by
  have moving : ∀ x ∈ s.marb.transfer.map Transfer.unwanted, x.placed := by
    intro x moving
    obtain ⟨y, was, rfl⟩ := Option.map_eq_some_iff.mp moving
    exact Transfer.placed_unwanted.mpr (h.marb.transfer y was)
  exact { h with
    seng := fun sc found => by cases found
    marb := h.marb.of_subset (fun _ asked => asked) (by simp [State.clearEngine]) (by simp [State.clearEngine]) moving }

theorem State.Placed.engineScanEnd (h : s.Placed) (cut : Bool) (sc : Scan) : (s.engineScanEnd cut sc).Placed := by
  have recorded : ((s.setFrl (s.frl.add sc.record)).setCapu (s.capu.releaseSource sc.scanSource)).Placed :=
    { h with capu := h.capu.of_buffer (by simp [Capu.releaseSource_buffer]) }
  have counted : (((s.setFrl (s.frl.add sc.record)).setCapu (s.capu.releaseSource sc.scanSource)).statsScanEnd cut
      sc.sequence).Placed := recorded.of_frame (by simp)
  exact counted.clearEngine

theorem State.Placed.reachOff (h : s.Placed) : s.reachOff.Placed := by
  have off := ((h.setSsch { s.ssch with state := .off, stopRequested := false, pending := none, overtaken := 0 }).withCrp
    s.crp.clearPlan).commitAtOff
  exact { off with }

theorem State.Placed.afterScanEnd (h : s.Placed) : s.afterScanEnd.Placed := by
  unfold State.afterScanEnd
  split
  · exact h.reachOff
  · exact (h.setSsch _).takeActive

/-- A line that leaves keeps the scan's format, and may withdraw requests (R92, R123). -/
theorem State.Placed.emitLine (h : s.Placed) {sc : Scan} (found : s.seng.scan = some sc) (made : Produced)
    (coupled : Bool) : (s.emitLine sc made coupled).Placed := by
  have same := sameRun_emitLine s sc made coupled (State.scanKey_of_scan found)
  rw [State.emitLine_eq sc made.pixels made.patched coupled s] at same ⊢
  have overlay : ∀ r ∈ (s.lineLeft sc made.pixels made.patched coupled).marb.overlayRead, r ∈ s.marb.overlayRead := by
    intro r asked
    simp only [State.lineLeft] at asked
    split at asked
    · exact (Option.mem_filter_iff.mp asked).1
    · cases asked
  exact { h with
    seng := same.seng_placed h.seng
    marb := h.marb.of_subset (fun _ asked => asked) (fun _ asked => (Option.mem_filter_iff.mp asked).1) overlay
      h.marb.transfer }

theorem State.Placed.outputLine (h : s.Placed) {sc : Scan} (found : s.seng.scan = some sc) :
    (s.outputLine sc).Placed := by
  unfold State.outputLine
  split
  · exact h.emitLine found _ _
  · split
    · dsimp only
      split
      · next found' => exact h.switchToPatching.serve.emitLine found' _ _
      · exact h.switchToPatching.serve
    · exact h.emitLine found _ _

theorem State.Placed.outputTime (h : s.Placed) : s.outputTime.Placed := by
  unfold State.outputTime
  split
  · exact h
  · next found =>
    split
    · exact h
    · split
      · split
        · exact h.outputLine found
        · exact (h.engineScanEnd _ _).afterScanEnd
      · exact h

theorem State.Placed.forceStop (h : s.Placed) : s.forceStop.Placed := by
  unfold State.forceStop
  split
  · split
    · split
      · exact (h.drawn.engineScanEnd _ _).afterScanEnd
      · exact (h.drawn.engineScanEnd _ _).afterScanEnd
    · exact (h.engineScanEnd _ _).afterScanEnd
  · exact h

/-! ### The live link, frame starts, timers and plan points (R1, R2, R4, R59, R67) -/

theorem State.Placed.followLiveLock (h : s.Placed) : s.followLiveLock.Placed := by
  have locked : (s.setLrx { s.lrx with link := .locked }).Placed := { h with }
  have lost {u : State} (hu : u.Placed) : (u.setLrx { u.lrx with link := .down, check := .closed }).Placed :=
    { hu with check := trivial }
  unfold State.followLiveLock
  split
  · exact ((locked.raise .liveLock).withCrp _).takeActive
  · exact (((lost h.cutArriving).raise .liveLoss).withCrp _).takeActive
  · exact h
  · exact h

theorem State.Placed.cadenceInScan (h : s.Placed) (frame : Word) : (s.cadenceInScan frame).Placed :=
  h.of_same (sameRun_cadenceInScan s frame) (by simp)

theorem State.Placed.reportLfs (h : s.Placed) (frame : Word) : (s.reportLfs frame).Placed := by
  unfold State.reportLfs
  split
  · exact h.startScan _
  · exact (h.cadenceLfs _ _).setSsch _
  · exact (h.cadenceInScan _).setSsch _
  · exact h.cadenceLfs _ _

theorem State.Placed.resolveCapture (h : s.Placed) : s.resolveCapture.Placed := by
  unfold State.resolveCapture
  split
  · exact h.abandonCapture _
  · exact h

theorem State.Placed.allocate (h : s.Placed) (frame : Word) (w l : Nat) : (s.allocate frame w l).Placed := by
  unfold State.allocate
  split
  · exact h
  · exact { h with }

/-- The format latched is that of a VALID profile, which has a line (R5, R40). -/
theorem State.Placed.openFrame (h : s.Placed) (frame : Word) : (s.openFrame frame).Placed := by
  unfold State.openFrame
  dsimp only
  split
  · next valid =>
    obtain ⟨width, lines, some⟩ := h.pru s.tbc.active.profile
    exact { h.allocate _ _ _ with check := ⟨width, lines, some valid⟩ }
  · exact h

theorem State.Placed.takeLfs (h : s.Placed) : s.takeLfs.Placed := by
  have numbered : s.cutArriving.numbered.Placed := { h.cutArriving with check := trivial }
  rw [State.takeLfs_eq]
  exact (numbered.reportLfs _).resolveCapture.openFrame _

theorem State.Placed.minExpires (h : s.Placed) : s.minExpires.Placed := by
  unfold State.minExpires
  split
  · exact (h.setSsch _).takeActive
  · exact h

theorem State.Placed.deadlineExpires (h : s.Placed) : s.deadlineExpires.Placed := by
  unfold State.deadlineExpires
  split
  · exact (h.setSsch _).takeActive
  · exact h

theorem State.Placed.freeRunExpires (h : s.Placed) : s.freeRunExpires.Placed := by
  unfold State.freeRunExpires
  split
  · exact (h.setSsch _).takeActive
  · exact h

theorem State.Placed.repeatDue (h : s.Placed) (point : Word) (remaining : Nat) :
    (s.repeatDue point remaining).Placed := by
  have told := h.setSsch { s.ssch with planEmpty := s.ssch.planEmpty || remaining == 0 }
  unfold State.repeatDue
  split
  · exact told.startScan _
  · split
    · exact told.withCrp _
    · exact told
  · exact told
  · exact told

theorem State.Placed.planTimerExpires (h : s.Placed) : s.planTimerExpires.Placed := by
  unfold State.planTimerExpires
  split
  · next point _ =>
    split
    · have advanced : (s.setCrp { s.crp with plan := s.crp.plan.advance, raised := some point }).Placed := { h with }
      exact advanced.repeatDue point _
    · exact h
  · exact h

end

end Sys2Proof.Machine

namespace Sys2Proof.Machine

open State

section
variable {s t : State}

/-! ### The memory port and the overlay (R25, R32, R113 to R116) -/

/-- A transfer in progress has its line in place, so that its end does not stop the part (R22, R25). -/
theorem State.Placed.transferInLayout (h : s.Placed) {x : Transfer} (moving : s.marb.transfer = some x) :
    s.transferInLayout x = true := by
  have placed := h.marb.transfer x moving
  cases x with
  | captureWrite i line =>
    cases buffer : s.capu.buffer with
    | nil => exact s.captureWrite_placed_of_empty i line buffer
    | cons e rest => exact (s.captureWrite_placed i line buffer).mpr ⟨placed, (h.capu e (by simp [buffer])).2⟩
  | scanRead i line wanted =>
    cases wanted with
    | false => exact s.scanRead_placed_of_unwanted i line
    | true =>
      cases found : s.seng.scan with
      | none => exact s.scanRead_placed_of_no_scan i line found
      | some sc => exact (s.scanRead_placed i line found).mpr ⟨placed, (h.seng sc found).1⟩
  | overlayRead p line wanted =>
    cases wanted with
    | false => rfl
    | true => exact (s.overlayRead_placed p line).mpr placed
  | overlayWrite e buffered => exact (s.overlayWrite_placed e buffered).mpr placed

theorem Ocap.placed.writeEnded {o : Ocap} (h : o.placed) : o.writeEnded.placed := by
  obtain ⟨buffer, arriving⟩ := h
  have same : o.writeEnded.phase = o.phase ∧ o.writeEnded.linesSeen = o.linesSeen := by
    unfold Ocap.writeEnded
    split
    · exact ⟨rfl, rfl⟩
    · split <;> exact ⟨rfl, rfl⟩
  refine ⟨fun e member => buffer e (List.mem_of_mem_tail ?_), by rw [same.1, same.2]; exact arriving⟩
  rwa [Ocap.writeEnded_buffer] at member

theorem State.Placed.transferActs (h : s.Placed) (x : Transfer) : (s.transferActs x).Placed := by
  cases x with
  | captureWrite i line =>
    unfold State.transferActs State.captureWriteEnds
    dsimp only
    split
    · refine { h with capu := h.capu.of_buffer fun e member => List.mem_of_mem_tail ?_ }
      rwa [State.setCapu_capu, Capu.writeEnded_buffer] at member
    · exact h
  | scanRead i line wanted =>
    cases wanted
    · exact h
    · exact h.of_same (sameRun_keepSlotLine s i line) (by simp [State.transferActs])
  | overlayRead p line wanted =>
    cases wanted
    · exact h
    · exact h.of_frame (by simp [State.transferActs])
  | overlayWrite e buffered =>
    cases buffered
    · exact { h with }
    · exact { h with ocap := h.ocap.writeEnded }

/-- With no frame arriving only the buffer counts. -/
theorem Ocap.placed.of_not_arriving {o p : Ocap} (h : o.placed) (buffer : ∀ e ∈ p.buffer, e ∈ o.buffer)
    (phase : p.phase ≠ .arriving) : p.placed :=
  ⟨fun e member => h.1 e (buffer e member), fun arriving => absurd arriving phase⟩

/-- A discard takes entries out of the buffer, and leaves no frame arriving (R116). -/
theorem State.Placed.discardOverlay (h : s.Placed) (begun : Bool) {phase : OverlayPhase} (off : phase ≠ .arriving) :
    (s.discardOverlay begun phase).Placed := by
  have closed {u : State} (hu : u.Placed) : (u.setOcap { u.ocap with phase := phase, lineOpen := false }).Placed :=
    { hu with ocap := hu.ocap.of_not_arriving (fun _ member => member) off }
  have dropped : (s.dropBackFrame.setOcap { s.dropBackFrame.ocap with phase := phase, lineOpen := false }).Placed := by
    refine { h with
      ocap := h.ocap.of_not_arriving (fun _ member => List.mem_of_mem_filter member) off
      marb := h.marb.of_subset (fun _ asked => asked) (fun _ asked => asked) (fun _ asked => asked)
        fun x moving => ?_ }
    simp only [State.dropBackFrame, State.setOcap_marb, State.setMarb_marb] at moving
    split at moving
    · obtain ⟨y, was, rfl⟩ := Option.map_eq_some_iff.mp moving
      exact Transfer.placed_unbuffered.mpr (h.marb.transfer y was)
    · exact h.marb.transfer x moving
  unfold State.discardOverlay
  cases begun
  · exact (closed h).raise _
  · exact dropped.raise _

theorem State.Placed.setPhase (h : s.Placed) {phase : OverlayPhase} (off : phase ≠ .arriving) :
    (s.setOcap { s.ocap with phase := phase }).Placed :=
  { h with ocap := h.ocap.of_not_arriving (fun _ member => member) off }

theorem State.Placed.overlayFrameStart (h : s.Placed) : s.overlayFrameStart.Placed := by
  unfold State.overlayFrameStart
  split
  · exact h
  · split
    · exact h.setPhase (by decide)
    · exact h.discardOverlay _ (by decide)
    · exact h.discardOverlay _ (by decide)
    · exact h.setPhase (by decide)

/-- Line 0 starts the count of a frame's lines (R114). -/
theorem State.Placed.beginBackFrame (h : s.Placed) : s.beginBackFrame.Placed := by
  refine { h with ocap := ⟨fun e member => ?_, fun _ => by simp [State.beginBackFrame]⟩ }
  obtain ⟨was, held, rfl⟩ := List.mem_map.mp member
  exact h.ocap.1 was held

theorem State.Placed.overlayLineStart (h : s.Placed) : s.overlayLineStart.Placed := by
  unfold State.overlayLineStart
  split
  · exact h
  · split
    · exact h
    · exact h.beginBackFrame.of_frame (by simp)
    · split
      · exact h.discardOverlay _ (by decide)
      · exact { h with }
    · exact h.discardOverlay _ (by decide)

/-- A line that passes its count is in the buffer, and the frame has one still to come, or is COUNTED (R32, R114). -/
theorem State.Placed.overlayLinePasses (h : s.Placed) (arriving : s.ocap.phase = .arriving)
    {pixels : List OverlayPixel} (counted : pixels.length = 960) : (s.overlayLinePasses pixels).Placed := by
  have low := h.ocap.2 arriving
  unfold State.overlayLinePasses
  split
  · -- The discard closes the phase, so it may as well be closed when the line is counted (log 40).
    have seen : State.discardOverlay true .closed
        (s.setOcap { s.ocap with linesSeen := s.ocap.linesSeen + 1, phase := .closed }) =
          State.discardOverlay true .closed (s.setOcap { s.ocap with linesSeen := s.ocap.linesSeen + 1 }) := rfl
    rw [← seen]
    refine State.Placed.discardOverlay ?_ _ (by decide)
    exact { h with ocap := h.ocap.of_not_arriving (fun _ member => member) (by simp) }
  · refine { h with ocap := ⟨fun e member => ?_, fun again => ?_⟩ }
    · rcases List.mem_append.mp member with was | new
      · exact h.ocap.1 e was
      · rw [List.mem_singleton.mp new]
        exact ⟨low, counted.le⟩
    · have more : s.ocap.linesSeen + 1 ≠ 540 := fun last => by simp [Config.planeLines, last] at again
      simp only [State.setOcap_ocap]
      omega

theorem State.Placed.overlayLineEnd (h : s.Placed) (pixels : List OverlayPixel) :
    (s.overlayLineEnd pixels).Placed := by
  unfold State.overlayLineEnd
  split
  · exact h
  · split
    · exact h
    · exact h
    · exact h
    · next arriving =>
      split
      · split
        · next counted => exact h.overlayLinePasses arriving counted
        · exact h.discardOverlay _ (by decide)
      · exact h

theorem State.Placed.down (h : s.Placed) :
    (s.setOcap { s.ocap with link := .down, phase := .closed, lineOpen := false }).Placed :=
  { h with ocap := h.ocap.of_not_arriving (fun _ member => member) (by simp) }

theorem State.Placed.followOverlayLock (h : s.Placed) : s.followOverlayLock.Placed := by
  have lost {u : State} (hu : u.Placed) (b : Bool) :
      ((u.setOcap { u.ocap with link := .down, phase := .closed, lineOpen := false }).returnLost b).Placed :=
    hu.down.of_frame (by simp)
  unfold State.followOverlayLock
  split
  · exact { h with ocap := h.ocap.of_not_arriving (fun _ member => member) (by simp [State.overlayLockTaken]) }
  · unfold State.overlayLossTaken
    refine lost ?_ _
    split
    · exact h
    · exact h.discardOverlay _ (by decide)
    · exact h.discardOverlay _ (by decide)
    · split
      · exact h.discardOverlay _ (by decide)
      · exact h
  · exact h
  · exact h

/-! ### LOADING, fuses and resets (R35, R47, R176, R177) -/

theorem State.Placed.payOwed (h : s.Placed) (owed : Option Byte) : (s.payOwed owed).Placed := h.of_frame (by simp)

theorem State.Placed.loadingEnds (h : s.Placed) : s.loadingEnds.Placed := by
  unfold State.loadingEnds
  split
  · next due owed _ =>
    split
    · have standby : ((s.setPru { s.pru with limits := limitsAtLoading s.lfb.words }).setDctl .standby).Placed :=
        { h with }
      refine (State.Placed.followLiveLock ?_).serve
      unfold State.overlayAtLoadingEnd
      split
      · split
        · exact standby.drawn.followOverlayLock.payOwed owed
        · exact (standby.drawn.payOwed owed).followOverlayLock
      · exact (standby.payOwed owed).followOverlayLock
    · exact h
  · exact h
  · exact h

/-- A revalidation keeps the format, and makes no entry VALID (R47). -/
theorem ProfileEntry.revalidate_format (l : Limits) (e : ProfileEntry) :
    (e.revalidate l).profile.width = e.profile.width ∧ (e.revalidate l).profile.lines = e.profile.lines
      ∧ ((e.revalidate l).state = .valid → e.state = .valid) := by
  unfold ProfileEntry.revalidate
  split
  · next valid =>
    split
    · next p passed =>
      unfold Profile.revalidated at passed
      dsimp only at passed
      split at passed
      · split at passed
        · cases passed
        · cases passed
          exact ⟨rfl, rfl, fun _ => valid⟩
      · cases passed
    · exact ⟨rfl, rfl, fun _ => valid⟩
  · exact ⟨rfl, rfl, id⟩
  · exact ⟨rfl, rfl, id⟩

theorem Pru.placed.revalidated {p : Pru} (h : p.placed) (l : Limits) :
    ({ limits := l, table := p.table.map (ProfileEntry.revalidate l) } : Pru).placed := by
  intro i
  obtain ⟨width, lines, some⟩ := h i
  obtain ⟨sameWidth, sameLines, valid⟩ := p.table[i].revalidate_format l
  have entry : (p.table.map (ProfileEntry.revalidate l))[i] = p.table[i].revalidate l := by simp
  rw [entry, sameWidth, sameLines]
  exact ⟨width, lines, some ∘ valid⟩

theorem State.Placed.takeLockedLimits (h : s.Placed) : s.takeLockedLimits.Placed := by
  have taken (l : Limits) :
      (s.setPru { limits := l, table := s.pru.table.map (ProfileEntry.revalidate l) }).Placed :=
    { h with pru := h.pru.revalidated l }
  unfold State.takeLockedLimits
  dsimp only
  split
  · exact taken _
  · exact (taken _).raise _

theorem State.Placed.setLfb (h : s.Placed) (x : Lfb) : (s.setLfb x).Placed := { h with }

theorem State.Placed.fuseLockEnd (h : s.Placed) : s.fuseLockEnd.Placed := by
  unfold State.fuseLockEnd
  split
  · split
    · exact (((h.setLfb _).takeLockedLimits.setLfb _).raise _).addReply _ _ _ _
    · exact h
  · exact h
  · exact h

/-- The blocks in their reset state ask for nothing. -/
theorem State.Placed.resetBlocks (s : State) (live overlay : Link) : (s.resetBlocks live overlay).Placed :=
  { (layoutInv_iff _).mp reset_layoutInv with }

/-! ### Commands -/

theorem State.Placed.startEffect (h : s.Placed) (tag : Byte) : (startEffect tag s).Placed := by
  have off : s.leaveOff.Placed := h.of_frame (by simp)
  have left : ((s.leaveOff.setDctl .running).setSeng { s.leaveOff.seng with output := .blanking }).Placed :=
    { off with }
  have opened (k : Option Kept) {u : State} (hu : u.Placed) : (u.markOpening k).Placed :=
    hu.of_same (sameRun_markOpening u k) (by simp)
  unfold Machine.startEffect
  split
  · exact h.addReply _ _ _ _
  · split
    · exact h.addReply _ _ _ _
    · split
      · exact h.addReply _ _ _ _
      · exact ((opened _ left.takeActive).addReply _ _ _ _).serve

theorem State.Placed.stopEffect (h : s.Placed) (tag : Byte) : (stopEffect tag s).Placed := by
  unfold Machine.stopEffect
  split
  · exact h.addReply _ _ _ _
  · exact (h.reachOff.addReply _ _ _ _).serve
  · exact (h.reachOff.addReply _ _ _ _).serve
  · split
    · exact (h.forceStop.addReply _ _ _ _).serve
    · exact (h.setSsch _).addReply _ _ _ _

/-- START's own scan taken again with a commit pending (R131). -/
theorem State.Placed.commitAtOpening (h : s.Placed) (marker : Half) (sc : Scan) (k : Kept) :
    (s.commitAtOpening marker sc k).Placed := by
  have released : (s.setCapu (s.capu.releaseSource sc.scanSource)).Placed :=
    { h with capu := h.capu.of_buffer (by simp [Capu.releaseSource_buffer]) }
  have before : (s.beforeOpening sc k).Placed := { released.clearEngine with }
  have pending : ((s.beforeOpening sc k).setTbc { (s.beforeOpening sc k).tbc with commitPending := some marker }).Placed :=
    { before with }
  exact pending.startScan _

theorem State.Placed.commitEffect (h : s.Placed) (tag : Byte) (marker : Half) : (commitEffect tag marker s).Placed := by
  unfold Machine.commitEffect
  split
  · exact h.addReply _ _ _ _
  · split
    · exact h.addReply _ _ _ _
    · split
      · unfold commitInRun
        split
        · exact ((h.commitAtOpening _ _ _).addReply _ _ _ _).serve
        · exact { h with }
      · exact (h.commitWithoutScan _).addReply _ _ _ _

theorem State.Placed.softResetEffect (h : s.Placed) (tag : Byte) : (softResetEffect tag s).Placed := by
  unfold Machine.softResetEffect
  split
  · exact h.addReply _ _ _ _
  · split
    · exact h.addReply _ _ _ _
    · exact { State.Placed.resetBlocks s.cutTransfer s.lrx.link s.ocap.link with }

/-- A profile that passes the five stages has the format asked for, which is in its range (R40, R44). -/
theorem State.decideProfile_format {r : ProfileRequest} {p : Profile} (h : s.decideProfile r = .ok p) :
    p.width ≤ 3840 ∧ p.lines ≤ 2160 ∧ 1 ≤ p.lines := by
  unfold State.decideProfile at h
  split at h
  · cases h
  · next ranges =>
    simp only [profileInRange, Bool.not_eq_true, Bool.not_eq_false', Bool.and_eq_true, decide_eq_true_eq] at ranges
    split at h
    · cases h
    · split at h
      · cases h
      · split at h
        · cases h
        · dsimp only at h
          split at h
          · cases h
          · cases h
            simp only [Profile.clampStall, Profile.clampPeriods, requestedProfile]
            omega

theorem Pru.placed.store {p : Pru} (h : p.placed) (i : Fin 4) {x : Profile}
    (format : x.width ≤ 3840 ∧ x.lines ≤ 2160 ∧ 1 ≤ x.lines) :
    ({ p with table := p.table.set i.val { state := .valid, profile := x } i.isLt } : Pru).placed := by
  intro j
  by_cases same : i = j
  · subst same
    simpa using format
  · simpa [Vector.getElem_set, Fin.val_inj, same] using h j

theorem State.Placed.writeProfileEffect (h : s.Placed) (tag : Byte) (r : ProfileRequest) :
    (writeProfileEffect tag r s).Placed := by
  unfold Machine.writeProfileEffect State.answerProfile
  split
  · exact h.addReply _ _ _ _
  · next p passed =>
    have stored : (s.storeProfile (entryIndex r.index) p).Placed :=
      { h with pru := h.pru.store _ (State.decideProfile_format passed) }
    split
    · exact (stored.raise _).addReply _ _ _ _
    · exact stored.addReply _ _ _ _

theorem State.Placed.setShadow (h : s.Placed) {b : Bank} (inside : b.placed) : (s.setShadow b).Placed :=
  { h with tbc := ⟨h.tbc.1, inside⟩ }

theorem Bank.setCurve_regions (b : Bank) (channel : Nat) (curve : Curve) :
    (b.setCurve channel curve).regions = b.regions := by
  unfold Bank.setCurve
  split
  · rfl
  · split <;> rfl

theorem Bank.placed.of_regions {b c : Bank} (h : b.placed) (regions : c.regions = b.regions) : c.placed := by
  unfold Bank.placed
  rwa [regions]

theorem State.Placed.writeTonePointsEffect (h : s.Placed) (tag channel first : Byte) (points : List Half) :
    (writeTonePointsEffect tag channel first points s).Placed := by
  unfold Machine.writeTonePointsEffect
  split
  · exact h.addReply _ _ _ _
  · split
    · exact h.addReply _ _ _ _
    · exact (h.setShadow (h.tbc.2.of_regions (Bank.setCurve_regions _ _ _))).addReply _ _ _ _

/-- A region that passes its checks lies inside the plane (R118). -/
theorem regionOf_inPlane {r : RegionRequest} (h : regionInRange r = true) : (regionOf r).inPlane := by
  simp only [regionInRange, Bool.and_eq_true, Bool.or_eq_true, decide_eq_true_eq, beq_iff_eq] at h
  simp only [Region.inPlane, regionOf]
  omega

theorem Bank.placed.setRegion {b : Bank} (h : b.placed) (k : Fin 8) {r : Region} (inside : r.inPlane) :
    ({ b with regions := b.regions.set k.val r k.isLt } : Bank).placed := by
  intro j
  by_cases same : k = j
  · subst same
    simpa using inside
  · simpa [Vector.getElem_set, Fin.val_inj, same] using h j

theorem State.Placed.writeRegionEffect (h : s.Placed) (tag : Byte) (r : RegionRequest) :
    (writeRegionEffect tag r s).Placed := by
  unfold Machine.writeRegionEffect
  split
  · exact h.addReply _ _ _ _
  · next ranges =>
    split
    · exact h.addReply _ _ _ _
    · exact (h.setShadow (h.tbc.2.setRegion _ (regionOf_inPlane (by simpa using ranges)))).addReply _ _ _ _

theorem State.Placed.setFillEffect (h : s.Placed) (tag : Byte) (red green blue : Half) :
    (setFillEffect tag red green blue s).Placed := by
  unfold Machine.setFillEffect
  split
  · exact h.addReply _ _ _ _
  · split
    · exact h.addReply _ _ _ _
    · refine (h.setShadow ?_).addReply _ _ _ _
      exact h.tbc.2.of_regions rfl

theorem State.Placed.selectProfileEffect (h : s.Placed) (tag index : Byte) :
    (selectProfileEffect tag index s).Placed := by
  unfold Machine.selectProfileEffect
  split
  · exact h.addReply _ _ _ _
  · split
    · exact h.addReply _ _ _ _
    · refine (h.setShadow ?_).addReply _ _ _ _
      exact h.tbc.2.of_regions rfl

theorem State.Placed.discardShadowEffect (h : s.Placed) (tag : Byte) : (discardShadowEffect tag s).Placed := by
  unfold Machine.discardShadowEffect
  split
  · exact h.addReply _ _ _ _
  · exact (h.setShadow h.tbc.1).addReply _ _ _ _

/-- A plain command that leaves the profiles and the banks leaves every part. -/
theorem State.Placed.of_plain (h : s.Placed) {tag : Byte} {c : Command} (plain : plainCommand c = true)
    (pru : (commandEffect tag c s).pru = s.pru) (tbc : (commandEffect tag c s).tbc = s.tbc) :
    (commandEffect tag c s).Placed := by
  obtain ⟨-, -, lrx, capu, marb, -, -, seng, ocap, -, -⟩ := plainCommand_frame s tag c plain
  exact h.of_frame ⟨pru, lrx, capu, seng, tbc, ocap, marb⟩

theorem State.Placed.command (h : s.Placed) (tag : Byte) (c : Command) : (commandEffect tag c s).Placed := by
  cases c with
  | start => exact h.startEffect tag
  | stop => exact h.stopEffect tag
  | softReset => exact h.softResetEffect tag
  | resetCadence => exact ((h.withCrp (s.crp.invalidate false)).takeActive.addReply tag 0x20 .ok []).serve
  | commit marker => exact h.commitEffect tag marker
  | writeProfile r => exact h.writeProfileEffect tag r
  | writeTonePoints channel first points => exact h.writeTonePointsEffect tag channel first points
  | writeRegion r => exact h.writeRegionEffect tag r
  | setFill red green blue => exact h.setFillEffect tag red green blue
  | selectProfile index => exact h.selectProfileEffect tag index
  | discardShadow => exact h.discardShadowEffect tag
  | _ => exact h.of_plain rfl (by simp [commandEffect]) (by simp [commandEffect])

end

/-- Every row keeps every line the port could be asked for in its place. -/
theorem rowsLead_placed : RowsLead State.Placed State.Placed where
  dequeue _ _ h := { h with }
  clock _ _ h := { h with }
  liveLock _ _ h := { h with }
  overlayLock _ _ h := { h with }
  fprog _ _ h := { h with }
  fprogFalls _ h := h.of_frame (by simp)
  idle _ h := h
  serve _ h := h.serve
  assertReset s _ := { State.Placed.resetBlocks s.cutTransfer.cutFuses .down .down with }
  releaseReset _ h := { h with }
  loadingEnds _ h := h.loadingEnds
  followLiveLock _ _ h := h.followLiveLock
  takeLfs _ _ h := h.takeLfs
  takeLineStart _ _ h := h.takeLineStart
  takeLineEnd _ pixels _ h := h.takeLineEnd pixels
  takeBlanking _ _ h := h.takeBlanking
  lineOverdue _ _ h := h.lineOverdue
  maintenanceDue _ h := h.maintenanceDue
  maintenanceEnds _ h := h.maintenanceEnds
  transferEnds _ x _ h := (h.transferActs x).portFreed
  minExpires _ h := h.minExpires
  deadlineExpires _ h := h.deadlineExpires
  freeRunExpires _ h := h.freeRunExpires
  planTimerExpires _ h := h.planTimerExpires
  outputTime _ h := h.outputTime
  followOverlayLock _ _ h := h.followOverlayLock
  overlayFrameStart _ _ h := h.overlayFrameStart
  overlayLineStart _ _ h := h.overlayLineStart
  overlayLineEnd _ pixels _ h := h.overlayLineEnd pixels
  packetBad _ h := h.raise _
  refused _ tag code status _ h := h.addReply tag code status []
  command _ tag c _ _ h := h.command tag c
  fuseProgramEnd _ h := h.of_frame (by simp)
  fuseLockEnd _ h := h.fuseLockEnd

/-- No row but TRANSFER_END can stop, and TRANSFER_END finds its line in place (R25, log 25). -/
theorem State.Placed.exec_next {s : State} (h : s.Placed) (i : Instr) : ∃ t, exec i s = .next t := by
  cases i with
  | transferEnd dt =>
    show ∃ t, execTransferEnd dt s = .next t
    unfold execTransferEnd
    split
    · exact ⟨s, rfl⟩
    · cases moving : (s.elapse dt).marb.transfer with
      | none => exact ⟨_, State.transferEnds_of_none _ moving⟩
      | some x =>
        have placed : (s.elapse dt).Placed := rowsLead_placed.elapse dt h
        exact ⟨_, State.transferEnds_of_placed _ moving (placed.transferInLayout moving)⟩
  | resetRelease dt =>
    show ∃ t, execResetRelease dt s = .next t
    unfold execResetRelease
    split <;> exact ⟨_, rfl⟩
  | _ => exact ⟨_, rfl⟩

/-- Settles O44: every row keeps the lines in place, and only a line out of place could stop the part. -/
theorem noStop : Obligations.NoStop := by
  intro s inv
  have placed := (layoutInv_iff s).mp inv
  obtain ⟨t, taken⟩ : ∃ t, step s = .next t := by
    unfold step
    split
    · exact ⟨s, rfl⟩
    · next i rest _ => exact State.Placed.exec_next (s := s.setPending rest) { placed with } i
  exact ⟨t, taken, (layoutInv_iff t).mpr (rowsLead_placed.step taken placed)⟩

end Sys2Proof.Machine

namespace Sys2Proof.Machine

open State

/-! ### Frame memory along the rows (R22, R34)

Only the end of a transfer and the two resets write frame memory. RowsLead does not serve here: what a transfer writes is
inside the device only where TRANSFER_END finds its line in the layout. -/

section
variable {s t : State}

theorem MemoryInv.of_mem (h : MemoryInv s) (same : t.mem = s.mem) : MemoryInv t := by
  unfold MemoryInv
  rwa [same]

/-- What a reset that cuts a write short leaves is inside the device (R34). -/
theorem MemoryInv.cutTransfer (h : MemoryInv s) : MemoryInv s.cutTransfer := by
  unfold State.cutTransfer
  split
  · next i line _ =>
    split
    · split
      · next fits =>
        obtain ⟨low, short⟩ := (slotLineInLayout_iff _ _).mp fits
        refine s.mem.storePart_wf _ _ _ h ?_
        have := i.isLt
        simp only [gamePixels_length, slotLineAddress, slotBase, Config.memorySize]
        omega
      · exact h
    · exact h
  · next e _ _ =>
    split
    · next fits =>
      obtain ⟨low, short⟩ := (planeLineInLayout_iff _ _).mp fits
      refine s.mem.storePart_wf _ _ _ h ?_
      cases e.plane <;>
        simp only [overlayPixels_length, planeLineAddress, planeBase, Config.memorySize] <;> omega
    · exact h
  · exact h
  · exact h
  · exact h

/-- A transfer that ends with its line in the layout writes inside the device (R22, R25). -/
theorem MemoryInv.transferActs (h : MemoryInv s) {x : Transfer} (fits : s.transferInLayout x = true) :
    MemoryInv (s.transferActs x) := by
  cases x with
  | captureWrite i line =>
    cases buffer : s.capu.buffer with
    | nil => simpa [State.transferActs, s.captureWriteEnds_of_empty i line buffer] using h
    | cons e rest =>
      have placed := (s.captureWrite_placed i line buffer).mp fits
      have written := s.mem.writeSlotLine_wf i line e.pixels h ((slotLineInLayout_iff _ _).mpr placed)
      have ends := s.captureWriteEnds_eq i line buffer
      unfold State.transferActs
      dsimp only
      rw [ends]
      exact written
  | scanRead i line wanted => exact h.of_mem (by cases wanted <;> simp [State.transferActs])
  | overlayRead p line wanted => exact h.of_mem (by cases wanted <;> simp [State.transferActs])
  | overlayWrite e buffered => cases buffered <;> exact s.mem.writePlaneLine_wf e.plane e.line e.pixels h fits

end

/-- An act that leaves the memory in its canonical form. -/
def KeepsMemory (act : State → State) : Prop := ∀ s, MemoryInv s → MemoryInv (act s)

namespace KeepsMemory
variable {act : State → State}

theorem of_mem (same : ∀ s, (act s).mem = s.mem) : KeepsMemory act := fun s h => h.of_mem (same s)

theorem arrival (keeps : KeepsMemory act) (dt : Nat) : KeepsMemory (arrival dt act) := by
  intro s h
  unfold Machine.arrival
  split
  · exact h
  · exact keeps _ (h.of_mem (by simp))

theorem arrivalOutsideLoading (keeps : KeepsMemory act) (dt : Nat) : KeepsMemory (arrivalOutsideLoading dt act) := by
  refine KeepsMemory.arrival (fun s h => ?_) dt
  split
  · exact h
  · exact keeps s h

theorem whenLocked (keeps : KeepsMemory act) : KeepsMemory (State.whenLocked act) := by
  intro s h
  unfold State.whenLocked
  split
  · exact h
  · exact keeps s h

theorem withPlace (keeps : KeepsMemory act) : KeepsMemory (State.withPlace act) := by
  intro s h
  unfold State.withPlace
  split
  · exact keeps s h
  · exact h.of_mem (by simp)

theorem inSlot (keeps : KeepsMemory act) : KeepsMemory fun s => if s.slotTaken then act s else s := by
  intro s h
  dsimp only
  split
  · exact keeps s h
  · exact h

theorem softResetEffect (tag : Byte) : KeepsMemory (softResetEffect tag) := by
  intro s h
  unfold Machine.softResetEffect
  split
  · exact h.of_mem (by simp)
  · split
    · exact h.of_mem (by simp)
    · exact h.cutTransfer.of_mem rfl

theorem commandEffect (tag : Byte) (c : Command) : KeepsMemory (commandEffect tag c) := by
  cases c with
  | softReset => exact softResetEffect tag
  | _ => exact of_mem fun s => by simp [Machine.commandEffect]

theorem decidePacket (reading : PacketReading) : KeepsMemory (State.decidePacket reading) := by
  cases reading with
  | notWhole => exact of_mem fun _ => rfl
  | ignored => exact of_mem fun _ => rfl
  | badCheck => exact of_mem fun _ => by simp [State.decidePacket]
  | badCommand tag code => exact (of_mem fun _ => by simp).withPlace
  | badLength tag code => exact (of_mem fun _ => by simp).withPlace
  | dispatched tag c => exact (commandEffect tag c).withPlace

end KeepsMemory

theorem State.loadingEnds_mem (s : State) : s.loadingEnds.mem = s.mem := by
  unfold State.loadingEnds
  split
  · split
    · simp [State.endLoading]
    · rfl
  · rfl
  · rfl

/-- A row that writes nothing itself leaves the memory in its canonical form; so do the resets, and so does TRANSFER_END,
which stops at a line outside the layout. -/
theorem MemoryInv.exec {s t : State} {i : Instr} (h : MemoryInv s) (taken : exec i s = .next t) : MemoryInv t := by
  cases i with
  | resetAssert dt =>
    cases taken
    have cut : MemoryInv (s.elapse dt).cutTransfer := MemoryInv.cutTransfer (h.of_mem (by simp))
    have same : (s.elapse dt).cutTransfer.cutFuses.mem = (s.elapse dt).cutTransfer.mem := by simp
    exact cut.of_mem same
  | resetRelease dt =>
    change execResetRelease dt s = .next t at taken
    unfold execResetRelease at taken
    split at taken <;> cases taken
    · exact h.of_mem rfl
    · exact h.of_mem (by simp)
  | transferEnd dt =>
    change execTransferEnd dt s = .next t at taken
    unfold execTransferEnd at taken
    have later : MemoryInv (s.elapse dt) := h.of_mem (by simp)
    split at taken
    · cases taken
      exact h
    · unfold State.transferEnds at taken
      split at taken
      · cases taken
        exact later
      · split at taken
        · next fits =>
          cases taken
          exact (later.transferActs fits).of_mem (by simp)
        · cases taken
  | controlPacket dt bytes =>
    cases taken
    exact (KeepsMemory.decidePacket (readPacket bytes)).inSlot.arrivalOutsideLoading dt s h
  | softReset dt tag =>
    cases taken
    exact (KeepsMemory.softResetEffect tag).withPlace.inSlot.arrivalOutsideLoading dt s h
  | loadingEnd dt =>
    cases taken
    exact (KeepsMemory.of_mem State.loadingEnds_mem).arrival dt s h
  | maintenanceDue dt | maintenanceEnd dt | minExpiry dt | deadlineExpiry dt | freeRunExpiry dt | planTimerExpiry dt
  | outputTime dt | fuseProgramEnd dt | fuseLockEnd dt =>
    cases taken
    exact (KeepsMemory.of_mem fun u => by simp).arrival dt s h
  | fprogFall dt =>
    cases taken
    exact (KeepsMemory.of_mem fun u => by simp).arrival dt _ (h.of_mem (by simp))
  | lockArrival dt | lossArrival dt | overlayLock dt | overlayLoss dt =>
    cases taken
    exact (KeepsMemory.of_mem fun u => by simp).arrivalOutsideLoading dt _ (h.of_mem (by simp))
  | overlayFrameStart dt | overlayLineStart dt | overlayLineEnd dt pixels =>
    cases taken
    exact (KeepsMemory.of_mem fun u => by simp).arrivalOutsideLoading dt s h
  | lfs dt | lineStart dt | lineEnd dt pixels | blankingStart dt | lineOverdueExpiry dt =>
    cases taken
    exact (KeepsMemory.of_mem fun u => by simp).whenLocked.arrivalOutsideLoading dt s h
  | fuseProgram dt tag word value fprog | fuseLock dt tag fprog =>
    cases taken
    exact (KeepsMemory.of_mem fun u => by simp).withPlace.inSlot.arrivalOutsideLoading dt _ (h.of_mem (by simp))
  | _ =>
    cases taken
    exact (KeepsMemory.of_mem fun u => by simp).withPlace.inSlot.arrivalOutsideLoading _ s h

/-- Settles O45: each row keeps the canonical form of the memory it finds. -/
theorem memoryKept : Obligations.MemoryKept := by
  intro s t h taken
  unfold step at taken
  split at taken
  · cases taken
    exact h
  · next i rest _ => exact MemoryInv.exec (s := s.setPending rest) h taken

end Sys2Proof.Machine

namespace Sys2Proof.Machine

open State

/-! ### Lines written and read back (R22, R23; the byte form is log 9) -/

section
variable (m : Memory)

/-- A run of bytes is what loading finds when each of its bytes is at its address. -/
theorem Memory.load_eq (bytes : List Byte) (a : Nat) (holds : ∀ k b, bytes[k]? = some b → m.read (a + k) = b) :
    m.load a bytes.length = bytes := by
  induction bytes generalizing a with
  | nil => rfl
  | cons b rest ih =>
    have first : m.read a = b := holds 0 b rfl
    have others : m.load (a + 1) rest.length = rest := ih (a + 1) fun k c at_k => by
      rw [Nat.add_right_comm]
      exact holds (k + 1) c at_k
    rw [List.length_cons, Memory.load, first, others]

theorem Memory.load_store (a : Nat) (bytes : List Byte) : (m.store a bytes).load a bytes.length = bytes :=
  Memory.load_eq _ bytes a fun k b at_k => m.read_store_inside a bytes k b at_k

/-- The four bytes of a stored game pixel hold the pixel (log 9): each byte carries eight of its 30 bits. -/
theorem gamePixelsOf_bytes_append (p : GamePixel) (rest : List Byte) :
    gamePixelsOf (GamePixel.bytes p ++ rest) = p :: gamePixelsOf rest := by
  obtain ⟨r, g, b⟩ := p
  have hr := r.isLt
  have hg := g.isLt
  have hb := b.isLt
  simp only [GamePixel.bytes, List.cons_append, List.nil_append, gamePixelsOf, GamePixel.ofBytes, BitVec.toNat_ofNat,
    List.cons.injEq, GamePixel.mk.injEq, and_true]
  refine ⟨?_, ?_, ?_⟩ <;>
  · apply BitVec.eq_of_toNat_eq
    rw [BitVec.toNat_ofNat]
    omega

theorem gamePixelsOf_flatMap (pixels : List GamePixel) : gamePixelsOf (pixels.flatMap GamePixel.bytes) = pixels := by
  induction pixels with
  | nil => rfl
  | cons p rest ih => rw [List.flatMap_cons, gamePixelsOf_bytes_append, ih]

theorem overlayPixelsOf_flatMap (pixels : List OverlayPixel) :
    overlayPixelsOf (pixels.flatMap OverlayPixel.bytes) = pixels := by
  induction pixels with
  | nil => rfl
  | cons p rest ih =>
    simp only [List.flatMap_cons, OverlayPixel.bytes, List.cons_append, List.nil_append, overlayPixelsOf, ih]

theorem Memory.readSlotLine_writeSlotLine (i : SlotId) (line : Nat) (pixels : List GamePixel) :
    (m.writeSlotLine i line pixels).readSlotLine i line pixels.length = pixels := by
  have loaded := m.load_store (slotLineAddress i line) (pixels.flatMap GamePixel.bytes)
  rw [gamePixels_length] at loaded
  rw [Memory.readSlotLine, Memory.writeSlotLine, loaded, gamePixelsOf_flatMap]

theorem Memory.readPlaneLine_writePlaneLine (p : Plane) (line : Nat) (pixels : List OverlayPixel)
    (whole : pixels.length = Config.planeWidth) : (m.writePlaneLine p line pixels).readPlaneLine p line = pixels := by
  have loaded := m.load_store (planeLineAddress p line) (pixels.flatMap OverlayPixel.bytes)
  rw [overlayPixels_length, whole] at loaded
  rw [Memory.readPlaneLine, Memory.writePlaneLine, loaded, overlayPixelsOf_flatMap]

end

/-- Settles O43: the bytes of a line are loaded back as stored, and a store leaves the bytes outside its run. -/
theorem lineReadBack : Obligations.LineReadBack := by
  intro m _
  refine ⟨fun i line pixels _ _ => ⟨m.readSlotLine_writeSlotLine i line pixels, fun a outside => ?_⟩,
    fun p line pixels _ whole => ?_⟩
  · refine m.read_store_outside _ _ a ?_
    rw [gamePixels_length]
    exact outside
  · intro base
    have at_base : planeBase p = base := by cases p <;> rfl
    refine ⟨at_base, m.readPlaneLine_writePlaneLine p line pixels whole, fun a outside => ?_⟩
    refine m.read_store_outside _ _ a ?_
    rw [overlayPixels_length, planeLineAddress, at_base]
    omega

end Sys2Proof.Machine

namespace Sys2Proof.Machine

open State

/-! ### The grant decision and maintenance (R26, R27, R28) -/

section
variable {s : State}

/-- A grant changes the port and nothing else (R27). -/
theorem State.grant_eq (s : State) : s.grant = { s with marb := s.grant.marb } := by
  have h := State.grant_frame s
  revert h
  generalize s.grant = t
  obtain ⟨⟩ := t
  obtain ⟨⟩ := s
  simp only [State.mk.injEq]
  tauto

/-- A waiting capture write comes before the other three requests (R27). -/
theorem State.grant_of_captureWrite {r : SlotId × Nat} (waits : s.marb.captureWrite = some r) :
    s.grant = s.grantCaptureWrite r := by
  unfold State.grant
  rw [waits]

/-- An eligible scan read comes before the overlay's requests (R27, R28). -/
theorem State.grant_of_scanRead {r : SlotId × Nat} (noCapture : s.marb.captureWrite = none)
    (waits : s.eligibleScanRead = some r) : s.grant = s.grantScanRead r := by
  unfold State.grant
  rw [noCapture]
  dsimp only
  rw [waits]

/-- The overlay's requests are granted when neither a capture write nor an eligible scan read waits (R27). -/
theorem State.grant_of_overlay (noCapture : s.marb.captureWrite = none) (noScan : s.eligibleScanRead = none) :
    s.grant = s.grantOverlay := by
  unfold State.grant
  rw [noCapture]
  dsimp only
  rw [noScan]

/-- A scan read is eligible when no entry of the capture write buffer is for its line (R28). -/
theorem State.scanReadEligible_iff (r : SlotId × Nat) :
    s.scanReadEligible r = true ↔ ∀ e ∈ s.capu.buffer, ¬ (e.slot = r.1 ∧ e.line = r.2) := by
  simp [State.scanReadEligible]

theorem State.eligibleScanRead_of_no_entry {r : SlotId × Nat} (waits : s.marb.scanRead = some r)
    (free : ∀ e ∈ s.capu.buffer, ¬ (e.slot = r.1 ∧ e.line = r.2)) : s.eligibleScanRead = some r := by
  rw [State.eligibleScanRead, waits, Option.filter_some, if_pos (State.scanReadEligible_iff r |>.mpr free)]

theorem State.eligibleScanRead_of_entry
    (held : ∀ i n, s.marb.scanRead = some (i, n) → ∃ e ∈ s.capu.buffer, e.slot = i ∧ e.line = n) :
    s.eligibleScanRead = none := by
  rw [State.eligibleScanRead, Option.filter_eq_none_iff]
  rintro ⟨i, n⟩ waits eligible
  obtain ⟨e, mem, same⟩ := held i n waits
  exact (State.scanReadEligible_iff (i, n)).mp eligible e mem same

end

/-- Settles O40, by the first eligible request in the order of R27. -/
theorem grantOrder : Obligations.GrantOrder := by
  intro s
  refine ⟨s.grant_eq, fun i n waits => ?_, fun noCapture =>
    ⟨fun i n waits free => ?_, fun held => ⟨fun p n waits => ?_, fun noRead =>
      ⟨fun e rest waits buffer => ?_, fun noWrite => ?_⟩⟩⟩⟩
  · rw [State.grant_of_captureWrite waits]
    rfl
  · rw [State.grant_of_scanRead noCapture (State.eligibleScanRead_of_no_entry waits free)]
    rfl
  all_goals rw [State.grant_of_overlay noCapture (State.eligibleScanRead_of_entry held), State.grantOverlay]
  · rw [waits]
    rfl
  · simp [noRead, waits, State.grantOverlayWrite, buffer, State.setMarb]
  · simp [noRead, noWrite]

/-- MAINTENANCE_DUE by the maintenance state it finds (R26). -/
theorem State.maintenanceDue_eq (s : State) : s.maintenanceDue = { s with
    marb := { s.marb with maintenance :=
      match s.marb.maintenance with
      | .none => if s.marb.transfer = none then .active else .due
      | .due => .due
      | .active => .active } } := by
  obtain ⟨_, _, _, _, ⟨_, _, _, _, _, maintenance⟩⟩ := s
  cases maintenance with
  | none => simp [State.maintenanceDue, State.setMarb]
  | due | active => rfl

/-- MAINTENANCE_END outside ACTIVE is ignored (R26). -/
theorem State.maintenanceEnds_of_ne_active {s : State} (other : s.marb.maintenance ≠ .active) :
    s.maintenanceEnds = s := by
  unfold State.maintenanceEnds
  split
  · next active => exact absurd active other
  · rfl
  · rfl

/-- MAINTENANCE_END in ACTIVE makes the state NONE, and an idle port outside LOADING decides a grant (R26, R34). -/
theorem State.maintenanceEnds_of_active {s : State} (active : s.marb.maintenance = .active) :
    s.maintenanceEnds =
      let u : State := { s with marb := { s.marb with maintenance := .none } }
      if s.marb.transfer = none ∧ s.dctl.isLoading = false then u.grant else u := by
  unfold State.maintenanceEnds
  rw [active]
  refine if_congr ?_ rfl rfl
  simp [State.canGrant_iff]

/-- Settles O39, by the maintenance state the row finds (R26). -/
theorem maintenance : Obligations.Maintenance := by
  intro dt s awake
  have due : exec (.maintenanceDue dt) s = .next (s.after dt).maintenanceDue :=
    congrArg Host.Outcome.next (arrival_of awake dt _)
  have ends : exec (.maintenanceEnd dt) s = .next (s.after dt).maintenanceEnds :=
    congrArg Host.Outcome.next (arrival_of awake dt _)
  refine ⟨?_, fun other => ?_, fun active => ?_⟩
  · rw [due, State.maintenanceDue_eq]
    rfl
  · rw [ends, State.maintenanceEnds_of_ne_active (s := s.after dt) other]
  · intro u
    rw [ends, State.maintenanceEnds_of_active (s := s.after dt) active]
    rfl

end Sys2Proof.Machine

namespace Sys2Proof.Machine

open State

/-! ### Overlay frames begun and discarded (R112 to R116; a write in progress is log 24) -/

section
variable {s : State}

theorem Ocap.headCurrent_iff (o : Ocap) : o.headCurrent = true ↔ o.buffer.head?.map (·.current) = some true := by
  unfold Ocap.headCurrent
  split <;> simp [*]

/-- Settles O24: a frame that had begun gives up its back state, its entries and the request or write of the head, one
that had not gives up nothing. -/
theorem overlayDiscard : Obligations.OverlayDiscard := by
  intro begun phase s t
  cases begun with
  | false => exact ⟨rfl, rfl, by simp [t, State.discardOverlay]⟩
  | true =>
    refine ⟨rfl, rfl, ?_⟩
    have same : t.marb = s.dropBackFrame.marb := rfl
    rw [same]
    by_cases head : s.ocap.buffer.head?.map (·.current) = some true
    · rw [if_pos ⟨rfl, head⟩]
      have current : s.ocap.headCurrent = true := (Ocap.headCurrent_iff _).mpr head
      simp only [State.dropBackFrame, current]
      rfl
    · rw [if_neg fun h => head h.2]
      have other : s.ocap.headCurrent = false := Bool.eq_false_iff.mpr fun h => head ((Ocap.headCurrent_iff _).mp h)
      simp only [State.dropBackFrame, other]
      rfl

/-- OVERLAY_LINE_START, OVERLAY_FRAME_START and OVERLAY_LINE_END with the link DOWN change nothing (R112). -/
theorem State.overlay_arrivals_of_down (down : s.ocap.link = .down) (pixels : List OverlayPixel) :
    s.overlayFrameStart = s ∧ s.overlayLineStart = s ∧ s.overlayLineEnd pixels = s := by
  simp [State.overlayFrameStart, State.overlayLineStart, State.overlayLineEnd, down]

/-- In LOADING a guarded arrival changes nothing but the time (R3, R112, R176). -/
theorem arrivalOutsideLoading_in_loading (released : s.pins.reset = false) (loading : s.dctl.isLoading = true)
    (dt : Nat) (act : State → State) : arrivalOutsideLoading dt act s = s.after dt := by
  unfold arrivalOutsideLoading
  rw [arrival_of released, if_pos (by simpa using loading)]

/-- OVERLAY_FRAME_START taken with the link LOCKED, by phase (R114). -/
theorem State.overlayFrameStart_of_locked (locked : s.ocap.link = .locked) :
    s.overlayFrameStart =
      match s.ocap.phase with
      | .closed => { s with ocap := { s.ocap with phase := .blanking } }
      | .counted => { s with ocap := { s.ocap with phase := .blanking } }
      | .blanking => s.discardOverlay false .blanking
      | .arriving => s.discardOverlay true .blanking := by
  unfold State.overlayFrameStart
  rw [locked]
  cases s.ocap.phase <;> rfl

/-- OVERLAY_LINE_END is ignored outside a line of an ARRIVING frame (R114). -/
theorem State.overlayLineEnd_of_no_line (pixels : List OverlayPixel)
    (noLine : s.ocap.phase ≠ .arriving ∨ s.ocap.lineOpen = false) : s.overlayLineEnd pixels = s := by
  unfold State.overlayLineEnd
  split
  · rfl
  · split
    · rfl
    · rfl
    · rfl
    · next arriving =>
      have closed : s.ocap.lineOpen = false := noLine.resolve_left (not_not_intro arriving)
      simp [closed]

/-- OVERLAY_LINE_END of an open line: its count passes or the frame is discarded (R114, R116). -/
theorem State.overlayLineEnd_of_line (pixels : List OverlayPixel) (locked : s.ocap.link = .locked)
    (arriving : s.ocap.phase = .arriving) (line : s.ocap.lineOpen = true) :
    s.overlayLineEnd pixels =
      if pixels.length = Config.planeWidth then s.overlayLinePasses pixels else s.discardOverlay true .closed := by
  simp [State.overlayLineEnd, locked, arriving, line]

/-- An overlay line that passes its count enters the buffer, or the frame is discarded at a full one (R32, R114). -/
theorem State.overlayLinePasses_eq (pixels : List OverlayPixel) :
    s.overlayLinePasses pixels =
      if 2 ≤ s.ocap.buffer.length then
        State.discardOverlay true .closed { s with ocap := { s.ocap with linesSeen := s.ocap.linesSeen + 1 } }
      else
        { s with
          ocap := { s.ocap with
            buffer := s.ocap.buffer ++ [{ plane := if s.ocap.front = .a then .b else .a, line := s.ocap.linesSeen,
                                          pixels := pixels, current := true }]
            linesSeen := s.ocap.linesSeen + 1, lineOpen := false
            phase := if s.ocap.linesSeen + 1 = 540 then .counted else .arriving } } := by
  have back : s.ocap.backPlane = if s.ocap.front = .a then .b else .a := by
    unfold Ocap.backPlane
    cases s.ocap.front <;> rfl
  unfold State.overlayLinePasses
  rw [back]
  rfl

/-- An overlay arrival that is heard, row by row. -/
theorem overlay_arrivals_of_awake (awake : s.awake) (dt : Nat) (pixels : List OverlayPixel) :
    exec (.overlayFrameStart dt) s = .next (s.after dt).overlayFrameStart.serve
      ∧ exec (.overlayLineStart dt) s = .next (s.after dt).overlayLineStart.serve
      ∧ exec (.overlayLineEnd dt pixels) s = .next ((s.after dt).overlayLineEnd pixels).serve :=
  ⟨congrArg Host.Outcome.next (arrivalOutsideLoading_of awake dt _),
    congrArg Host.Outcome.next (arrivalOutsideLoading_of awake dt _),
    congrArg Host.Outcome.next (arrivalOutsideLoading_of awake dt _)⟩

/-- Where no arrival is taken, the three overlay rows answer the state that is left. -/
theorem overlay_arrivals_of_untaken {t : State} {dt : Nat} (untaken : ∀ act, arrivalOutsideLoading dt act s = t)
    (pixels : List OverlayPixel) :
    exec (.overlayFrameStart dt) s = .next t ∧ exec (.overlayLineStart dt) s = .next t
      ∧ exec (.overlayLineEnd dt pixels) s = .next t :=
  ⟨congrArg Host.Outcome.next (untaken _), congrArg Host.Outcome.next (untaken _),
    congrArg Host.Outcome.next (untaken _)⟩

end

/-- Settles O25, by the phase of an arrival that is heard and by what keeps one from being heard. -/
theorem overlayFrame : Obligations.OverlayFrame := by
  refine ⟨fun dt s h => ⟨?_, fun pixels => ?_⟩, fun dt pixels s => ?_⟩
  · rw [(overlay_arrivals_of_awake h.1 dt []).1, State.overlayFrameStart_of_locked (s := s.after dt) h.2]
    rw [State.after_ocap]
    cases s.ocap.phase <;> rfl
  · obtain ⟨_, _, lineEnd⟩ := overlay_arrivals_of_awake h.1 dt pixels
    rw [lineEnd]
    by_cases noLine : s.ocap.phase ≠ .arriving ∨ s.ocap.lineOpen = false
    · rw [if_pos noLine, State.overlayLineEnd_of_no_line (s := s.after dt) pixels noLine]
    · obtain ⟨arriving, line⟩ := not_or.mp noLine
      rw [if_neg noLine, State.overlayLineEnd_of_line (s := s.after dt) pixels h.2 (not_not.mp arriving)
        (by simpa using line)]
      by_cases count : pixels.length = 960
      · rw [if_neg (not_not_intro count), if_pos (show pixels.length = Config.planeWidth from count),
          State.overlayLinePasses_eq]
        by_cases full : 2 ≤ s.ocap.buffer.length
        · rw [if_pos full, if_pos (show 2 ≤ (s.after dt).ocap.buffer.length from full)]
          rfl
        · rw [if_neg full, if_neg (show ¬ 2 ≤ (s.after dt).ocap.buffer.length from full)]
          rfl
      · rw [if_pos count, if_neg (show ¬ pixels.length = Config.planeWidth from count)]
  · refine ⟨fun held => ?_, fun released loading => ?_, fun awake down => ?_⟩
    · exact overlay_arrivals_of_untaken (fun act => arrival_held held dt _) pixels
    · exact overlay_arrivals_of_untaken (fun act => arrivalOutsideLoading_in_loading released loading dt act) pixels
    · have rows := overlay_arrivals_of_awake awake dt pixels
      obtain ⟨frameStart, lineStart, lineEnd⟩ := State.overlay_arrivals_of_down (s := s.after dt) down pixels
      rwa [frameStart, lineStart, lineEnd] at rows

end Sys2Proof.Machine

namespace Sys2Proof.Machine

open State

/-! ### A write cut short by a reset (R34; which bytes have landed is free, log 10) -/

/-- The memory after a write of `bytes` at `base` that may have been cut short: each byte of the run is the new one or the
old one, and no other byte changes. -/
def Memory.PartlyWritten (m t : Memory) (base : Nat) (bytes : List Byte) : Prop :=
  (∀ a, a < base ∨ base + bytes.length ≤ a → t.read a = m.read a)
    ∧ ∀ k < bytes.length, t.read (base + k) = m.read (base + k) ∨ some (t.read (base + k)) = bytes[k]?

section
variable (m : Memory)

theorem Memory.PartlyWritten.refl (base : Nat) (bytes : List Byte) : m.PartlyWritten m base bytes :=
  ⟨fun _ _ => rfl, fun _ _ => .inl rfl⟩

theorem Memory.partBytes_getElem? (draw a : Nat) (bytes : List Byte) (i k : Nat) :
    (m.partBytes draw a i bytes)[k]? =
      bytes[k]?.map fun b => if Config.byteLanded draw (i + k) then b else m.read (a + (i + k)) := by
  induction bytes generalizing i k with
  | nil => rfl
  | cons b rest ih =>
    cases k with
    | zero => rfl
    | succ k => simpa [Memory.partBytes, Nat.add_right_comm, Nat.add_assoc] using ih (i + 1) k

theorem Memory.storePart_partlyWritten (draw a : Nat) (bytes : List Byte) :
    m.PartlyWritten (m.storePart draw a bytes) a bytes := by
  refine ⟨fun x outside => ?_, fun k inside => ?_⟩
  · refine m.read_store_outside a _ x ?_
    rwa [Memory.partBytes_length]
  · have byte := m.partBytes_getElem? draw a bytes 0 k
    rw [List.getElem?_eq_getElem inside, Option.map_some, Nat.zero_add] at byte
    have left := m.read_store_inside a _ k _ byte
    rw [Memory.storePart, left, List.getElem?_eq_getElem inside]
    split
    · exact .inr rfl
    · exact .inl rfl

end

section
variable {s : State}

/-- A reset cuts nothing short when neither a capture write nor an overlay write is in progress (R34). -/
theorem State.cutTransfer_of_no_write (noCapture : s.marb.transfer.map Transfer.requester ≠ some .captureWrite)
    (noOverlay : s.marb.transfer.map Transfer.requester ≠ some .overlayWrite) : s.cutTransfer = s := by
  unfold State.cutTransfer
  split
  · next transfer => exact absurd (by rw [transfer]; rfl) noCapture
  · next transfer => exact absurd (by rw [transfer]; rfl) noOverlay
  · rfl
  · rfl
  · rfl

/-- A capture write cut short leaves part of the head entry in its line of the slot (R34). -/
theorem State.cutTransfer_captureWrite {i : SlotId} {line : Nat} {e : CaptureEntry} {rest : List CaptureEntry}
    (transfer : s.marb.transfer = some (.captureWrite i line)) (buffer : s.capu.buffer = e :: rest) :
    s.mem.PartlyWritten s.cutTransfer.mem (slotLineAddress i line) (e.pixels.flatMap GamePixel.bytes) := by
  simp only [State.cutTransfer, transfer, buffer]
  split
  · exact s.mem.storePart_partlyWritten _ _ _
  · exact .refl _ _ _

/-- An overlay write cut short leaves part of the entry it carries in its line of the plane (R34, log 24). -/
theorem State.cutTransfer_overlayWrite {e : OverlayEntry} {buffered : Bool}
    (transfer : s.marb.transfer = some (.overlayWrite e buffered)) :
    s.mem.PartlyWritten s.cutTransfer.mem (planeLineAddress e.plane e.line) (e.pixels.flatMap OverlayPixel.bytes) := by
  simp only [State.cutTransfer, transfer]
  split
  · exact s.mem.storePart_partlyWritten _ _ _
  · exact .refl _ _ _

/-! ### Fuses and blocks at a reset (R173, R175, R176, R177) -/

/-- The reset line ends a fuse operation and leaves the lock as it was (R175). -/
theorem State.cutFuses_lfb (s : State) :
    s.cutFuses.lfb = { words := s.cutFuses.lfb.words, locked := s.lfb.locked, engine := .idle } := by
  unfold State.cutFuses
  split
  · rfl
  · rfl
  · next idle => rw [← idle]

/-- An interrupted program leaves a subset of its bits in its word (R175, log 11). -/
theorem State.cutFuses_programming {tag : Byte} {word : Fin 8} {value : Half} {due : Nat}
    (engine : s.lfb.engine = .programming tag word value due) :
    s.cutFuses.lfb.words =
      s.lfb.words.set word.val (s.lfb.words[word] ||| (value &&& Config.fuseBitsSet s.free)) word.isLt := by
  unfold State.cutFuses
  rw [engine]
  rfl

/-- With no program in flight the fuse words stay as they are (R175). -/
theorem State.cutFuses_words (engine : s.lfb.engine = .idle ∨ s.lfb.engine.isLocking = true) :
    s.cutFuses.lfb.words = s.lfb.words := by
  unfold State.cutFuses
  split
  · next programming => simp [programming, Engine.isLocking] at engine
  · rfl
  · rfl

/-- The reset line puts every block in its reset state (R176). -/
theorem State.assertReset_eq (s : State) :
    s.assertReset = { State.reset with
      pins := { s.pins with reset := true }
      pru := { limits := s.pru.limits, table := Vector.replicate 4 ProfileEntry.blank }
      lfb := { words := s.cutTransfer.cutFuses.lfb.words, locked := s.lfb.locked, engine := .idle }
      mem := s.cutTransfer.mem, free := s.cutTransfer.cutFuses.free, pending := s.pending } := by
  have lfb := s.cutTransfer.cutFuses_lfb
  simp only [State.cutTransfer_frame] at lfb
  rw [← lfb]
  simp [State.assertReset, State.resetBlocks, State.reset, Ocap.initial, Lrx.initial, State.setClock, State.setPins,
    State.setDctl]

/-- An accepted SOFT_RESET puts every block in its reset state but for what R177 keeps, and begins LOADING. -/
theorem softResetEffect_of_accepted (standby : s.dctl = .standby) (engine : s.lfb.engine = .idle) (tag : Byte) :
    softResetEffect tag s = { State.reset with
      clock := s.clock, pins := s.pins
      lrx := { link := s.lrx.link, frameCounter := 0, check := .closed }
      ocap := { Ocap.initial with link := s.ocap.link }
      pru := { limits := s.pru.limits, table := Vector.replicate 4 ProfileEntry.blank }
      lfb := { s.lfb with locked := s.lfb.words[7] != 0 }
      dctl := .loading (s.clock + 200000) (some tag)
      mem := s.cutTransfer.mem, free := s.cutTransfer.free, pending := s.pending } := by
  simp [Machine.softResetEffect, standby, engine, Engine.isIdle, State.readFuses, State.resetBlocks, State.reset,
    Lrx.initial, State.setDctl, State.setLfb, Config.loadingTime]

theorem softResetEffect_of_not_standby (other : s.dctl ≠ .standby) (tag : Byte) :
    softResetEffect tag s = s.addReply tag 0x04 .wrongState [] := by
  rw [Machine.softResetEffect, if_pos other]

theorem softResetEffect_of_fuse_busy (standby : s.dctl = .standby) (busy : s.lfb.engine ≠ .idle) (tag : Byte) :
    softResetEffect tag s = s.addReply tag 0x04 .fuseBusy [] := by
  have working : s.lfb.engine.isIdle = false := by
    unfold Engine.isIdle
    split
    · next idle => exact absurd idle busy
    · rfl
    · rfl
  simp [Machine.softResetEffect, standby, working]

end

/-- Settles O29: the assertion by what it cuts short, the release and four held arrivals by their guards. -/
theorem resetLine : Obligations.ResetLine := by
  intro dt s
  refine ⟨?_, fun held => ⟨?_, ?_, ?_, ?_, ?_⟩, fun released => ?_⟩
  · let t := s.elapse dt
    refine ⟨t.cutTransfer.cutFuses.lfb.words, t.cutTransfer.mem, t.cutTransfer.cutFuses.free, ?_,
      fun tag word value due engine => ?_, fun engine => ?_, fun noWrite => ?_,
      fun i line e rest transfer buffer a outside => ?_, fun e buffered transfer a outside => ?_⟩
    · change Host.Outcome.next t.assertReset = _
      rw [t.assertReset_eq]
      simp [t]
    · have cut := State.cutFuses_programming (s := t.cutTransfer) (by simpa [t] using engine)
      refine ⟨value &&& Config.fuseBitsSet t.cutTransfer.free, ?_, by simpa [t] using cut⟩
      rw [BitVec.and_comm value, BitVec.and_assoc, BitVec.and_self]
    · simpa [t] using State.cutFuses_words (s := t.cutTransfer) (by simpa [t] using engine)
    · have kept : t.cutTransfer = t :=
        State.cutTransfer_of_no_write (by simpa [t] using noWrite.1) (by simpa [t] using noWrite.2)
      rw [kept]
      simp [t]
    · obtain ⟨frame, _⟩ := State.cutTransfer_captureWrite (s := t) (by simpa [t] using transfer)
        (by simpa [t] using buffer)
      rw [gamePixels_length] at frame
      simpa [t] using frame a outside
    · obtain ⟨frame, _⟩ := State.cutTransfer_overlayWrite (s := t) (by simpa [t] using transfer)
      rw [overlayPixels_length] at frame
      simpa [t] using frame a outside
  · exact if_pos held
  · exact if_pos held
  · exact congrArg Host.Outcome.next (arrival_held held dt _)
  · exact congrArg Host.Outcome.next (liveArrival_held held dt _)
  · exact congrArg Host.Outcome.next (arrival_held held dt _)
  · have later : exec (.resetRelease dt) s = .next (s.elapse dt) := if_neg (by simp [released])
    rw [later, State.elapse_of released]

/-- Settles O31, by the checks of R177 in the model's order (log 46). -/
theorem softReset : Obligations.SoftReset := by
  intro dt tag s taken
  have row : exec (.softReset dt tag) s = .next (softResetEffect tag (s.after dt)) := commandSlot_of taken dt _
  refine ⟨fun other => ?_, fun standby busy => ?_, fun standby engine noCapture noOverlay => ?_,
    fun standby engine => ⟨(s.after dt).cutTransfer.mem, (s.after dt).cutTransfer.free, ?_,
      fun i line e rest transfer buffer => ?_, fun e buffered transfer => ?_⟩⟩
  · rw [row, softResetEffect_of_not_standby (s := s.after dt) other, State.answered_eq]
  · rw [row, softResetEffect_of_fuse_busy (s := s.after dt) standby busy, State.answered_eq]
  · have kept : (s.after dt).cutTransfer = s.after dt := State.cutTransfer_of_no_write noCapture noOverlay
    rw [row, softResetEffect_of_accepted (s := s.after dt) standby engine, kept]
    rfl
  · rw [row, softResetEffect_of_accepted (s := s.after dt) standby engine]
    rfl
  · rw [← gamePixels_length]
    exact State.cutTransfer_captureWrite (s := s.after dt) transfer buffer
  · rw [← overlayPixels_length]
    exact State.cutTransfer_overlayWrite (s := s.after dt) transfer

end Sys2Proof.Machine

namespace Sys2Proof.Machine

open State

/-! ### A pixel down the output path (R106, R121, R124) -/

theorem capCode_toNat (peak : Nat) (c : BitVec 10) : (capCode peak c).toNat = min c.toNat peak := by
  have small : min c.toNat peak < 2 ^ 10 := (Nat.min_le_left _ _).trans_lt c.isLt
  rw [capCode, code10, BitVec.toNat_ofNat, Nat.mod_eq_of_lt small]

/-- A peak at or above the highest code changes no pixel (R124). -/
theorem capPixel_of_full_peak {peak : Nat} (full : 1023 ≤ peak) (p : GamePixel) : capPixel peak p = p := by
  have code (c : BitVec 10) : capCode peak c = c :=
    BitVec.eq_of_toNat_eq (by have := c.isLt; rw [capCode_toNat]; omega)
  simp only [capPixel, code]

/-- A blended channel lies between the base and the overlay value (R121). -/
theorem blendChannel_between (ov base : Nat) {alpha : Nat} (h : alpha ≤ 255) :
    min ov base ≤ blendChannel ov alpha base ∧ blendChannel ov alpha base ≤ max ov base := by
  obtain ⟨rest, whole⟩ := Nat.exists_eq_add_of_le h
  have rest_eq : 255 - alpha = rest := by omega
  have split (n : Nat) : n * alpha + n * rest = n * 255 := by rw [whole, Nat.mul_add]
  have low := split (min ov base)
  have high := split (max ov base)
  have := Nat.mul_le_mul_right alpha (Nat.min_le_left ov base)
  have := Nat.mul_le_mul_right rest (Nat.min_le_right ov base)
  have := Nat.mul_le_mul_right alpha (Nat.le_max_left ov base)
  have := Nat.mul_le_mul_right rest (Nat.le_max_right ov base)
  unfold blendChannel
  rw [rest_eq]
  exact ⟨by omega, by omega⟩

theorem blendChannel_opaque (ov base : Nat) : blendChannel ov 255 base = ov := by
  unfold blendChannel
  omega

theorem blendChannel_transparent (ov base : Nat) : blendChannel ov 0 base = base := by
  unfold blendChannel
  omega

theorem Region.coversColumn_iff (r : Region) (width x : Nat) :
    r.coversColumn width x = true ↔ r.destX ≤ x ∧ x < r.destX + r.width * r.zoom ∧ x < width := by
  simp [Region.coversColumn, and_assoc]

theorem Region.coversLine_eq (r : Region) (width lines y : Nat) :
    r.coversLine width lines y =
      decide (1 ≤ r.level ∧ r.destX < width ∧ 0 < r.width * r.zoom ∧ r.destY ≤ y ∧ y < r.destY + r.height * r.zoom
        ∧ y < lines) := by
  simp only [Region.coversLine, Bool.decide_and, Bool.and_assoc]

/-! ### The regions that are drawn, and their order (R121) -/

/-- The regions drawn are the admitted ones whose plane line is in the cache, in their order (R31, R121). -/
theorem drawnRegions_map_fst (y : Nat) (admitted : List Region) (cache : List (Nat × List OverlayPixel)) :
    (drawnRegions y admitted cache).map (·.1) = admitted.filter fun r => (cache.lookup (r.planeLine y)).isSome := by
  induction admitted with
  | nil => rfl
  | cons r rest ih =>
    unfold drawnRegions at ih ⊢
    cases cached : cache.lookup (r.planeLine y) <;> simp [cached, ih]

theorem lookup_of_mem_drawnRegions {y : Nat} {admitted : List Region} {cache : List (Nat × List OverlayPixel)}
    {d : Region × List OverlayPixel} (drawn : d ∈ drawnRegions y admitted cache) :
    cache.lookup (d.1.planeLine y) = some d.2 := by
  obtain ⟨r, _, found⟩ := List.mem_filterMap.mp drawn
  obtain ⟨line, cached, rfl⟩ := Option.map_eq_some_iff.mp found
  exact cached

/-- Higher levels come first (R121). -/
theorem Bank.precedence_sorted (b : Bank) : b.precedence.Pairwise fun r r' => r'.level ≤ r.level := by
  have total : Std.Total fun r r' : Region => r'.level ≤ r.level := ⟨fun r r' => Nat.le_total r'.level r.level⟩
  have trans : IsTrans Region fun r r' => r'.level ≤ r.level := ⟨fun _ _ _ first second => second.trans first⟩
  exact List.pairwise_insertionSort _ _

/-- Within a level the regions keep the order of their indices: those of one level are sorted already, and sorting keeps a
sorted sublist in place (R121). -/
theorem Bank.precedence_filter_level (b : Bank) (level : Nat) :
    b.precedence.filter (fun r => r.level = level) = b.regions.toList.filter (fun r => r.level = level) := by
  have sorted : (b.regions.toList.filter (fun r => r.level = level)).Pairwise fun r r' => r'.level ≤ r.level := by
    refine List.pairwise_of_forall_mem_list fun r hr r' hr' => ?_
    simp only [List.mem_filter, decide_eq_true_eq] at hr hr'
    omega
  have kept := (List.sublist_insertionSort sorted List.filter_sublist).filter fun r => decide (r.level = level)
  rw [List.filter_filter] at kept
  simp only [Bool.and_self] at kept
  have perm : (b.precedence.filter (fun r => r.level = level)).Perm
      (b.regions.toList.filter (fun r => r.level = level)) :=
    (List.perm_insertionSort _ _).filter _
  exact (kept.eq_of_length perm.length_eq.symm).symm

/-! ### The line budget (R122) -/

section
variable {y : Nat} {r : Region} {rest regions : List Region} {set : List Nat}

theorem admitRegions_of_mem (member : r.planeLine y ∈ set) :
    admitRegions y (r :: rest) set = ((admitRegions y rest set).1, r :: (admitRegions y rest set).2) := by
  rw [admitRegions, if_pos member]

theorem admitRegions_of_room (new : r.planeLine y ∉ set) (room : set.length < 4) :
    admitRegions y (r :: rest) set =
      ((admitRegions y rest (set ++ [r.planeLine y])).1, r :: (admitRegions y rest (set ++ [r.planeLine y])).2) := by
  rw [admitRegions, if_neg new, if_pos room]

theorem admitRegions_of_full (new : r.planeLine y ∉ set) (full : ¬ set.length < 4) :
    admitRegions y (r :: rest) set = admitRegions y rest set := by
  rw [admitRegions, if_neg new, if_neg full]

/-- A line of the set stays in it. -/
theorem mem_admitRegions_of_mem {n : Nat} (member : n ∈ set) : n ∈ (admitRegions y regions set).1 := by
  induction regions generalizing set with
  | nil => exact member
  | cons r rest ih =>
    by_cases old : r.planeLine y ∈ set
    · rw [admitRegions_of_mem old]
      exact ih member
    · by_cases room : set.length < 4
      · rw [admitRegions_of_room old room]
        exact ih (List.mem_append_left _ member)
      · rw [admitRegions_of_full old room]
        exact ih member

/-- A full set takes no more lines. -/
theorem admitRegions_full (full : ¬ set.length < 4) : (admitRegions y regions set).1 = set := by
  induction regions with
  | nil => rfl
  | cons r rest ih =>
    by_cases old : r.planeLine y ∈ set
    · rw [admitRegions_of_mem old]
      exact ih
    · rw [admitRegions_of_full old full]
      exact ih

/-- The set is the first four distinct lines in the order of the regions. -/
theorem admitRegions_fst (distinct : set.eraseDups = set) (bound : set.length ≤ 4) :
    (admitRegions y regions set).1 = (set ++ regions.map (·.planeLine y)).eraseDups.take 4 := by
  induction regions generalizing set with
  | nil =>
    rw [List.map_nil, List.append_nil, distinct, List.take_of_length_le bound]
    rfl
  | cons r rest ih =>
    by_cases old : r.planeLine y ∈ set
    · rw [admitRegions_of_mem old, ih distinct bound, List.map_cons, List.eraseDups_append, List.eraseDups_append,
        List.cons_removeAll, if_neg (by simpa using old)]
    · by_cases room : set.length < 4
      · have longer : (set ++ [r.planeLine y]).eraseDups = set ++ [r.planeLine y] := by
          rw [List.eraseDups_append, distinct, List.cons_removeAll, if_pos (by simpa using old)]
          rfl
        rw [admitRegions_of_room old room, ih longer (by simpa using room), List.append_assoc]
        rfl
      · have four : 4 = set.length := by omega
        rw [admitRegions_full room, List.eraseDups_append, distinct, four, List.take_left]

/-- The regions admitted are those whose line is in the set at the end. -/
theorem admitRegions_snd (y : Nat) (regions : List Region) (set : List Nat) :
    (admitRegions y regions set).2 = regions.filter fun r => decide (r.planeLine y ∈ (admitRegions y regions set).1) := by
  induction regions generalizing set with
  | nil => rfl
  | cons r rest ih =>
    by_cases old : r.planeLine y ∈ set
    · have inside := mem_admitRegions_of_mem (y := y) (regions := rest) old
      rw [admitRegions_of_mem old, List.filter_cons_of_pos (by simpa using inside), ← ih set]
    · by_cases room : set.length < 4
      · have inside : r.planeLine y ∈ (admitRegions y rest (set ++ [r.planeLine y])).1 :=
          mem_admitRegions_of_mem (List.mem_append_right _ List.mem_cons_self)
        rw [admitRegions_of_room old room, List.filter_cons_of_pos (by simpa using inside), ← ih]
      · have outside : r.planeLine y ∉ (admitRegions y rest set).1 := by rwa [admitRegions_full room]
        rw [admitRegions_of_full old room, List.filter_cons_of_neg (by simpa using outside), ← ih set]

/-- The budget of an output line with a front image (R122). -/
theorem overlayBudget_of_image (b : Bank) (width lines y : Nat) :
    let covering := b.precedence.filter (·.coversLine width lines y)
    let set := (covering.map (·.planeLine y)).eraseDups.take 4
    overlayBudget true b width lines y = (set, covering.filter fun r => decide (r.planeLine y ∈ set)) := by
  intro covering set
  have lineSet : (admitRegions y covering []).1 = set := admitRegions_fst List.eraseDups_nil (Nat.zero_le _)
  have regions := admitRegions_snd y covering []
  rw [lineSet] at regions
  exact Prod.ext lineSet regions

end

/-- Settles O60: the pixel by its blends and its cap, the regions by their sort, the line set by the order in which lines
are admitted. -/
theorem outputPath : Obligations.OutputPath := by
  refine ⟨fun b drawn peak width x p => ⟨?_, ?_, ?_, fun full none => ?_⟩, fun b drawn peak width x p => ?_,
    fun ov alpha base h => blendChannel_between ov base h,
    fun ov base => ⟨blendChannel_opaque ov base, blendChannel_transparent ov base⟩,
    fun y admitted cache => ⟨drawnRegions_map_fst y admitted cache, fun d => lookup_of_mem_drawnRegions⟩,
    fun b => ⟨b.precedence_sorted, b.precedence_filter_level⟩, fun b width lines y => ⟨rfl, ?_⟩,
    fun s sc y source => ⟨rfl, rfl⟩, fun y regions set bound => ⟨admitRegions_length_le y regions set bound, ?_⟩⟩
  · exact (capCode_toNat peak _).trans_le (Nat.min_le_right _ _)
  · exact (capCode_toNat peak _).trans_le (Nat.min_le_right _ _)
  · exact (capCode_toNat peak _).trans_le (Nat.min_le_right _ _)
  · rw [outputPixel, capPixel_of_full_peak full, none, List.foldr_nil]
  · intro lay blended
    have same : (fun d base => lay base d) = blendOver width x := by
      funext d base
      simp only [lay, blendOver, Region.coversColumn_iff]
      rfl
    have order : blended = drawn.foldr (blendOver width x) (b.tone p) := by
      rw [← same]
      exact List.foldl_reverse
    rw [order]
    rfl
  · have budget := overlayBudget_of_image b width lines y
    simp only [Region.coversLine_eq] at budget
    exact budget
  · intro r admitted
    rw [admitRegions_snd] at admitted
    exact of_decide_eq_true (List.mem_filter.mp admitted).2

end Sys2Proof.Machine

namespace Sys2Proof.Machine

/-! ### What a step does to the Profile Unit (R35, R37, R39, R47, R176, R177)

Five rows and commands reach it; every other row leaves the limits and the table, and does not enter LOADING. -/

section
variable {s t u : State}

/-- The limits and the table stay as they are, and LOADING is not entered. -/
structure KeepsPru (s t : State) : Prop where
  pru : t.pru = s.pru
  loading : t.dctl.isLoading = true → s.dctl.isLoading = true

theorem KeepsPru.of_frame (pru : t.pru = s.pru) (dctl : t.dctl = s.dctl) : KeepsPru s t := ⟨pru, dctl ▸ id⟩

theorem KeepsPru.refl (s : State) : KeepsPru s s := .of_frame rfl rfl

theorem KeepsPru.trans (h : KeepsPru s t) (h' : KeepsPru t u) : KeepsPru s u :=
  ⟨h'.pru.trans h.pru, h.loading ∘ h'.loading⟩

/-- The Profile Unit with every entry EMPTY (R37). -/
def Pru.emptied (p : Pru) : Pru := { limits := p.limits, table := Vector.replicate 4 ProfileEntry.blank }

/-- The Profile Unit with new limits and every VALID entry revalidated against them (R35, R47). -/
def Pru.relimited (p : Pru) (l : Limits) : Pru := { limits := l, table := p.table.map (ProfileEntry.revalidate l) }

/-- What a step from `s` to `t` does to the Profile Unit. -/
inductive PruStep (s t : State) : Prop
  /-- Nothing. -/
  | kept (keeps : KeepsPru s t)
  /-- The reset line is released (R176). -/
  | released (held : s.pins.reset = true) (pru : t.pru = s.pru)
  /-- A WRITE_PROFILE stores a profile (R44). -/
  | stored (r : ProfileRequest) (p : Profile) (decided : s.decideProfile r = .ok p)
      (pru : t.pru = (s.storeProfile (entryIndex r.index) p).pru) (dctl : t.dctl = s.dctl)
      (outside : s.dctl.isLoading = false)
  /-- A reset empties the table (R37). -/
  | emptied (pru : t.pru = s.pru.emptied) (dctl : t.dctl.isLoading = true)
  /-- LOADING ends (R35). -/
  | loaded (loading : s.dctl.isLoading = true) (dctl : t.dctl = .standby)
      (pru : t.pru = { s.pru with limits := limitsAtLoading s.lfb.words })
  /-- A fuse lock completes (R35, R47). -/
  | locked (locking : s.lfb.engine.isLocking = true) (bank : t.lfb.locked = true) (dctl : t.dctl = s.dctl)
      (pru : t.pru = s.pru.relimited (limitsOfWords t.lfb.words))

/-- What a step does to the Profile Unit depends on these parts of the state it starts in. -/
theorem PruStep.of_source (h : PruStep u t) (pru : u.pru = s.pru) (lfb : u.lfb = s.lfb) (dctl : u.dctl = s.dctl)
    (tbc : u.tbc = s.tbc) (ssch : u.ssch = s.ssch) (pins : u.pins = s.pins) : PruStep s t := by
  cases h with
  | kept keeps => exact .kept ((KeepsPru.of_frame pru dctl).trans keeps)
  | released held same => exact .released (pins ▸ held) (same.trans pru)
  | stored r p decided store same outside =>
    refine .stored r p ?_ ?_ (same.trans dctl) (dctl ▸ outside)
    · rw [← decided]
      unfold State.decideProfile
      rw [pru, tbc, ssch]
    · rw [store]
      unfold State.storeProfile
      rw [pru]
      rfl
  | emptied empty loading => exact .emptied (pru ▸ empty) loading
  | loaded loading standby limits => exact .loaded (dctl ▸ loading) standby (by rw [limits, pru, lfb])
  | locked locking bank same limits => exact .locked (lfb ▸ locking) bank (same.trans dctl) (pru ▸ limits)

theorem PruStep.of_target (h : PruStep s u) (pru : t.pru = u.pru) (lfb : t.lfb = u.lfb) (dctl : t.dctl = u.dctl) :
    PruStep s t := by
  cases h with
  | kept keeps => exact .kept (keeps.trans (.of_frame pru dctl))
  | released held same => exact .released held (pru.trans same)
  | stored r p decided store same outside => exact .stored r p decided (pru.trans store) (dctl.trans same) outside
  | emptied empty loading => exact .emptied (pru.trans empty) (dctl ▸ loading)
  | loaded loading standby limits => exact .loaded loading (dctl.trans standby) (pru.trans limits)
  | locked locking bank same limits =>
    exact .locked locking (lfb ▸ bank) (dctl.trans same) (by rw [pru, lfb]; exact limits)

theorem PruStep.of_elapse {dt : Nat} (h : PruStep (s.elapse dt) t) : PruStep s t :=
  h.of_source (by simp) (by simp) (by simp) (by simp) (by simp) (by simp)

end

/-! ### The guards of an arrival -/

section
variable {s : State} {dt : Nat} {act : State → State} {Q : State → Prop}

/-- What an arrival leaves is the state before it, or what it does `dt` later. -/
theorem arrival_cases (held : Q s) (acted : Q (act (s.elapse dt))) : Q (arrival dt act s) := by
  unfold arrival
  split
  · exact held
  · exact acted

theorem arrivalOutsideLoading_cases (held : Q s) (later : Q (s.elapse dt))
    (acted : (s.elapse dt).dctl.isLoading = false → Q (act (s.elapse dt))) : Q (arrivalOutsideLoading dt act s) := by
  unfold arrivalOutsideLoading
  refine arrival_cases held ?_
  split
  · exact later
  · next outside => exact acted (by simpa using outside)

theorem whenLocked_cases (idle : Q s) (acted : Q (act s)) : Q (State.whenLocked act s) := by
  unfold State.whenLocked
  split
  · exact idle
  · exact acted

theorem withPlace_cases (bad : Q (s.raise .controlPacketBad)) (acted : Q (act s)) : Q (State.withPlace act s) := by
  unfold State.withPlace
  split
  · exact acted
  · exact bad

/-- What a command row leaves: its slot may not be taken, or find no reply place, and otherwise the command has its
effect, outside LOADING. -/
theorem commandSlot_cases {t : State} (h : commandSlot dt act s = .next t) (held : Q s) (later : Q (s.elapse dt))
    (bad : Q ((s.elapse dt).raise .controlPacketBad))
    (acted : (s.elapse dt).dctl.isLoading = false → Q (act (s.elapse dt))) : Q t := by
  cases h
  refine arrivalOutsideLoading_cases held later fun outside => ?_
  split
  · exact withPlace_cases bad (acted outside)
  · exact later

end

/-! ### Acts that leave the Profile Unit -/

section
variable {s t : State}

theorem KeepsPru.elapse (s : State) (dt : Nat) : KeepsPru s (s.elapse dt) := .of_frame (by simp) (by simp)

theorem KeepsPru.raise (s : State) (e : EventSource) : KeepsPru s (s.raise e) := .of_frame (by simp) (by simp)

theorem KeepsPru.arrival {act : State → State} (keeps : ∀ u, KeepsPru u (act u)) (dt : Nat) (s : State) :
    KeepsPru s (arrival dt act s) := arrival_cases (.refl s) ((KeepsPru.elapse s dt).trans (keeps _))

theorem KeepsPru.arrivalOutsideLoading {act : State → State} (keeps : ∀ u, KeepsPru u (act u)) (dt : Nat) (s : State) :
    KeepsPru s (arrivalOutsideLoading dt act s) :=
  arrivalOutsideLoading_cases (.refl s) (.elapse s dt) fun _ => (KeepsPru.elapse s dt).trans (keeps _)

theorem KeepsPru.whenLocked {act : State → State} (keeps : ∀ u, KeepsPru u (act u)) (s : State) :
    KeepsPru s (State.whenLocked act s) := whenLocked_cases (.refl s) (keeps s)

theorem KeepsPru.commandSlot {act : State → State} {dt : Nat} (keeps : ∀ u, KeepsPru u (act u))
    (h : commandSlot dt act s = .next t) : KeepsPru s t :=
  commandSlot_cases h (.refl s) (.elapse s dt) ((KeepsPru.elapse s dt).trans (.raise _ _)) fun _ =>
    (KeepsPru.elapse s dt).trans (keeps _)

/-- OFF is STANDBY (R86). -/
theorem KeepsPru.reachOff (s : State) : KeepsPru s s.reachOff := ⟨by simp, fun loading => by cases loading⟩

theorem KeepsPru.afterScanEnd (s : State) : KeepsPru s s.afterScanEnd := by
  unfold State.afterScanEnd
  split
  · exact .reachOff s
  · exact .of_frame (by simp) (by simp)

theorem KeepsPru.scanEnds (s : State) (cut : Bool) (sc : Scan) : KeepsPru s (s.engineScanEnd cut sc).afterScanEnd :=
  .trans (.of_frame (by simp) (by simp)) (.afterScanEnd _)

theorem KeepsPru.outputTime (s : State) : KeepsPru s s.outputTime := by
  unfold State.outputTime
  split
  · exact .refl s
  · split
    · exact .refl s
    · split
      · split
        · exact .of_frame (by simp) (by simp)
        · exact .scanEnds s false _
      · exact .refl s

theorem KeepsPru.forceStop (s : State) : KeepsPru s s.forceStop := by
  have drawn : KeepsPru s s.drawn := .of_frame (by simp) (by simp)
  unfold State.forceStop
  split
  · split
    · split
      · exact drawn.trans (.scanEnds _ false _)
      · exact drawn.trans (.scanEnds _ true _)
    · exact .scanEnds s true _
  · exact .refl s

theorem KeepsPru.served (h : KeepsPru s t) : KeepsPru s t.serve := h.trans (.of_frame (by simp) (by simp))

theorem KeepsPru.answered (h : KeepsPru s t) (tag code : Byte) (status : Status) (payload : List Byte) :
    KeepsPru s (t.addReply tag code status payload) := h.trans (.of_frame (by simp) (by simp))

/-- START leaves STANDBY for RUNNING (R82). -/
theorem KeepsPru.startEffect (s : State) (tag : Byte) : KeepsPru s (startEffect tag s) := by
  unfold Machine.startEffect
  split
  · exact (KeepsPru.refl s).answered _ _ _ _
  · split
    · exact (KeepsPru.refl s).answered _ _ _ _
    · split
      · exact (KeepsPru.refl s).answered _ _ _ _
      · have running : s.startRun.dctl = .running := by simp [State.startRun]
        exact (KeepsPru.answered ⟨by simp, by simp [running, Device.isLoading]⟩ _ _ _ _).served

theorem KeepsPru.stopEffect (s : State) (tag : Byte) : KeepsPru s (stopEffect tag s) := by
  unfold Machine.stopEffect
  split
  · exact (KeepsPru.refl s).answered _ _ _ _
  · exact ((KeepsPru.reachOff s).answered _ _ _ _).served
  · exact ((KeepsPru.reachOff s).answered _ _ _ _).served
  · split
    · exact ((KeepsPru.forceStop s).answered _ _ _ _).served
    · exact .of_frame (by simp) (by simp)

end

/-! ### The rows and commands that reach the Profile Unit -/

section
variable {s t : State}

/-- An accepted SOFT_RESET empties the table; a refused one leaves it (R37, R177). -/
theorem PruStep.softResetEffect (s : State) (tag : Byte) : PruStep s (softResetEffect tag s) := by
  unfold Machine.softResetEffect
  split
  · exact .kept ((KeepsPru.refl s).answered _ _ _ _)
  · split
    · exact .kept ((KeepsPru.refl s).answered _ _ _ _)
    · refine .emptied ?_ (by simp [Device.isLoading])
      simp [State.resetBlocks, Pru.emptied]

theorem PruStep.writeProfileEffect (outside : s.dctl.isLoading = false) (tag : Byte) (r : ProfileRequest) :
    PruStep s (writeProfileEffect tag r s) := by
  unfold Machine.writeProfileEffect State.answerProfile
  split
  · exact .kept ((KeepsPru.refl s).answered _ _ _ _)
  · next p decided =>
    split
    · exact .stored r p decided (by simp) (by simp) outside
    · exact .stored r p decided (by simp) (by simp) outside

theorem PruStep.commandEffect (outside : s.dctl.isLoading = false) (tag : Byte) (c : Command) :
    PruStep s (commandEffect tag c s) := by
  cases c with
  | softReset => exact .softResetEffect s tag
  | writeProfile r => exact .writeProfileEffect outside tag r
  | start => exact .kept (.startEffect s tag)
  | stop => exact .kept (.stopEffect s tag)
  | _ => exact .kept (.of_frame (by simp [Machine.commandEffect]) (by simp [Machine.commandEffect]))

theorem PruStep.decidePacket (outside : s.dctl.isLoading = false) (reading : PacketReading) :
    PruStep s (s.decidePacket reading) := by
  have bad : PruStep s (s.raise .controlPacketBad) := .kept (.raise s _)
  cases reading with
  | notWhole => exact .kept (.refl s)
  | ignored => exact .kept (.refl s)
  | badCheck => exact bad
  | badCommand tag code => exact withPlace_cases bad (.kept ((KeepsPru.refl s).answered _ _ _ _))
  | badLength tag code => exact withPlace_cases bad (.kept ((KeepsPru.refl s).answered _ _ _ _))
  | dispatched tag c => exact withPlace_cases bad (.commandEffect outside tag c)

theorem PruStep.loadingEnds (s : State) : PruStep s s.loadingEnds := by
  unfold State.loadingEnds
  split
  · next due owed loading =>
    split
    · exact .loaded (by rw [loading]; rfl) (by simp [State.endLoading]) (by simp [State.endLoading])
    · exact .kept (.refl s)
  · exact .kept (.refl s)
  · exact .kept (.refl s)

/-- The limits of the words, the table revalidated against them, and the event when an entry changed (R35, R47). -/
theorem State.takeLockedLimits_eq (s : State) : s.takeLockedLimits =
    let l := limitsOfWords s.lfb.words
    let table := s.pru.table.map (ProfileEntry.revalidate l)
    { s with
      pru := { limits := l, table := table }
      evu := if table = s.pru.table then s.evu else s.evu.raise .panelLimitClamped } := by
  unfold State.takeLockedLimits
  dsimp only
  split <;> rfl

theorem PruStep.fuseLockEnd (s : State) : PruStep s s.fuseLockEnd := by
  unfold State.fuseLockEnd
  split
  · next tag due engine =>
    split
    · refine .locked (by rw [engine]; rfl) (by simp [State.lockEnds]) (by simp) ?_
      simp [State.lockEnds, State.takeLockedLimits_eq, Pru.relimited]
    · exact .kept (.refl s)
  · exact .kept (.refl s)
  · exact .kept (.refl s)

theorem PruStep.commandSlot {dt : Nat} {tag : Byte} (c : Command)
    (h : Machine.commandSlot dt (Machine.commandEffect tag c) s = .next t) :
    PruStep s t :=
  commandSlot_cases h (.kept (.refl s)) (.kept (.elapse s dt)) (.kept ((KeepsPru.elapse s dt).trans (.raise _ _)))
    fun outside => .of_elapse (.commandEffect outside tag c)

theorem PruStep.controlPacket {dt : Nat} {bytes : List Byte} (h : execControlPacket dt bytes s = .next t) :
    PruStep s t := by
  cases h
  refine arrivalOutsideLoading_cases (.kept (.refl s)) (.kept (.elapse s dt)) fun outside => ?_
  split
  · exact .of_elapse (.decidePacket outside _)
  · exact .kept (.elapse s dt)

/-- The release of the line leaves LOADING begun; the line was asserted (R176). -/
theorem PruStep.resetRelease {dt : Nat} (h : execResetRelease dt s = .next t) : PruStep s t := by
  unfold execResetRelease at h
  split at h
  · next held => cases h; exact .released held (by simp [State.releaseReset])
  · cases h; exact .kept (.elapse s dt)

theorem KeepsPru.transferEnd {dt : Nat} (h : execTransferEnd dt s = .next t) : KeepsPru s t := by
  unfold execTransferEnd at h
  split at h
  · cases h; exact .refl s
  · unfold State.transferEnds at h
    split at h
    · cases h; exact .elapse s dt
    · split at h
      · cases h; exact .of_frame (by simp) (by simp)
      · cases h

/-- What each row does to the Profile Unit. -/
theorem PruStep.exec {i : Instr} (taken : exec i s = .next t) : PruStep s t := by
  cases i with
  | resetAssert dt =>
    cases taken
    exact .emptied (by simp [State.assertReset, State.resetBlocks, Pru.emptied])
      (by simp [State.assertReset, Device.isLoading])
  | resetRelease dt => exact .resetRelease taken
  | loadingEnd dt =>
    cases taken
    exact arrival_cases (.kept (.refl s)) (.of_elapse (.loadingEnds _))
  | fuseLockEnd dt =>
    cases taken
    exact arrival_cases (.kept (.refl s)) (.of_elapse (.fuseLockEnd _))
  | transferEnd dt => exact .kept (.transferEnd taken)
  | controlPacket dt bytes => exact .controlPacket taken
  | start dt tag => exact .commandSlot .start taken
  | stop dt tag => exact .commandSlot .stop taken
  | softReset dt tag => exact .commandSlot .softReset taken
  | writeProfile dt tag r => exact .commandSlot (.writeProfile r) taken
  | fuseProgram dt tag word value fprog | fuseLock dt tag fprog =>
    exact .kept (.trans (.of_frame (by simp) (by simp)) (.commandSlot (fun u => .of_frame (by simp) (by simp)) taken))
  | outputTime dt =>
    cases taken
    exact .kept (.arrival (fun u => (KeepsPru.outputTime u).served) dt s)
  | maintenanceDue dt | maintenanceEnd dt | minExpiry dt | deadlineExpiry dt | freeRunExpiry dt | planTimerExpiry dt
  | fuseProgramEnd dt =>
    cases taken
    exact .kept (.arrival (fun u => .of_frame (by simp) (by simp)) dt s)
  | fprogFall dt =>
    cases taken
    exact .kept (.trans (.of_frame (by simp) (by simp)) (.arrival (fun u => .of_frame (by simp) (by simp)) dt _))
  | lockArrival dt | lossArrival dt | overlayLock dt | overlayLoss dt =>
    cases taken
    exact .kept (.trans (.of_frame (by simp) (by simp))
      (.arrivalOutsideLoading (fun u => .of_frame (by simp) (by simp)) dt _))
  | overlayFrameStart dt | overlayLineStart dt | overlayLineEnd dt pixels =>
    cases taken
    exact .kept (.arrivalOutsideLoading (fun u => .of_frame (by simp) (by simp)) dt s)
  | lfs dt | lineStart dt | lineEnd dt pixels | blankingStart dt | lineOverdueExpiry dt =>
    cases taken
    exact .kept (.arrivalOutsideLoading (.whenLocked fun u => .of_frame (by simp) (by simp)) dt s)
  | _ => exact .kept (.commandSlot (fun u => .of_frame (by simp) (by simp)) taken)

/-- What each step does to the Profile Unit. -/
theorem PruStep.of_step (taken : step s = .next t) : PruStep s t := by
  unfold step at taken
  split at taken
  · cases taken
    exact .kept (.refl s)
  · next i rest _ =>
    have dequeued : PruStep (s.setPending rest) t := .exec taken
    exact dequeued.of_source rfl rfl rfl rfl rfl rfl

end

end Sys2Proof.Machine

namespace Sys2Proof.Machine

/-! ### The clamps of a profile (R40, R42 to R44, R47) -/

section
variable {p q : Profile} {l : Limits}

/-- A profile within the limits whose clamped window is not empty agrees with them once its stall limit and free-run
period are clamped too (R42 to R44). -/
theorem Profile.inWindow_clamped (within : p.withinLimits l = true)
    (window : ¬ (p.clampPeriods l).pmaxEff < (p.clampPeriods l).pminEff) :
    (p.clampPeriods l).clampStall.inWindow l := by
  simp only [Profile.withinLimits, Bool.and_eq_true, decide_eq_true_eq] at within
  simp only [Profile.inWindow, Profile.clampStall, Profile.clampPeriods, clampInto] at window ⊢
  omega

/-- The clamps lower the maximum period, and raise the stall limit to that period at most (R43, R44). -/
theorem Profile.inBounds_clamped (h : p.width ≤ 3840 ∧ p.lines ≤ 2160 ∧ p.weight ≤ 16 ∧ p.pmax ≤ 65535
    ∧ p.stallLimit ≤ 2000000 ∧ p.maxMultiplier ≤ 8) (l : Limits) : (p.clampPeriods l).clampStall.inBounds := by
  simp only [Profile.inBounds, Profile.clampStall, Profile.clampPeriods]
  omega

/-- What a revalidation leaves of a profile that passes (R47). -/
theorem Profile.revalidated_eq_some (h : p.revalidated l = some q) :
    p.withinLimits l = true ∧ ¬ (p.clampPeriods l).pmaxEff < (p.clampPeriods l).pminEff
      ∧ q = (p.clampPeriods l).clampStall := by
  unfold Profile.revalidated at h
  split at h
  · next within =>
    dsimp only at h
    split at h
    · cases h
    · next window => cases h; exact ⟨within, window, rfl⟩
  · cases h

/-- What a WRITE_PROFILE that passes its five stages found, and the profile it stores (R39 to R44). -/
theorem State.decideProfile_eq_ok {s : State} {r : ProfileRequest} (h : s.decideProfile r = .ok q) :
    profileInRange r = true
      ∧ ¬ (entryIndex r.index = s.tbc.active.profile ∧ s.ssch.state ≠ .off)
      ∧ (requestedProfile r).withinLimits s.pru.limits = true
      ∧ ¬ ((requestedProfile r).clampPeriods s.pru.limits).pmaxEff
          < ((requestedProfile r).clampPeriods s.pru.limits).pminEff
      ∧ q = ((requestedProfile r).clampPeriods s.pru.limits).clampStall := by
  unfold State.decideProfile at h
  split at h
  · cases h
  · next range =>
    split at h
    · cases h
    · next inactive =>
      split at h
      · cases h
      · split at h
        · cases h
        · next within =>
          dsimp only at h
          split at h
          · cases h
          · next window =>
            cases h
            exact ⟨by simpa using range, inactive, by simpa using within, window, rfl⟩

/-- The ranges of stage 1 keep the upper bounds (R40). -/
theorem requestedProfile_inBounds {r : ProfileRequest} (h : profileInRange r = true) (l : Limits) :
    ((requestedProfile r).clampPeriods l).clampStall.inBounds := by
  simp only [profileInRange, Bool.and_eq_true, decide_eq_true_eq] at h
  refine Profile.inBounds_clamped ?_ l
  have := r.pmax.isLt
  simp only [requestedProfile]
  omega

end

/-! ### The profile invariant, part by part -/

section
variable {s t : State}

/-- An entry keeps the bounds, and one that is VALID agrees with the limits (R40, R42 to R44). -/
def ProfileEntry.fits (l : Limits) (e : ProfileEntry) : Prop :=
  e.profile.inBounds ∧ (e.state = .valid → e.profile.inWindow l)

/-- Every entry fits the limits in force. -/
def Pru.fits (p : Pru) : Prop := ∀ i : Fin 4, p.table[i].fits p.limits

/-- Some entry is VALID. -/
def Pru.hasValid (p : Pru) : Prop := ∃ i : Fin 4, p.table[i].state = .valid

theorem profileInv_iff : ProfileInv s ↔ s.pru.fits ∧ (s.dctl.isLoading = true → ¬ s.pru.hasValid) := by
  simp only [ProfileInv, Pru.fits, Pru.hasValid, ProfileEntry.fits, forall_and, not_exists, and_assoc, ne_eq]

/-- An entry that is not VALID fits any limits. -/
theorem ProfileEntry.fits.of_not_valid {e : ProfileEntry} {l : Limits} (h : e.fits l) (state : e.state ≠ .valid)
    (l' : Limits) : e.fits l' := ⟨h.1, fun valid => absurd valid state⟩

theorem Pru.fits_emptied (p : Pru) : p.emptied.fits := by
  intro i
  have empty : p.emptied.table[i] = ProfileEntry.blank := by simp [Pru.emptied]
  rw [empty]
  exact ⟨by decide, fun valid => by cases valid⟩

theorem Pru.not_hasValid_emptied (p : Pru) : ¬ p.emptied.hasValid := by
  rintro ⟨i, valid⟩
  have empty : p.emptied.table[i] = ProfileEntry.blank := by simp [Pru.emptied]
  rw [empty] at valid
  cases valid

/-- The entry stored is the one written, and the others stay (R44). -/
theorem State.storeProfile_entry (s : State) (i j : Fin 4) (p : Profile) :
    (s.storeProfile i p).pru.table[j] = if i = j then { state := .valid, profile := p } else s.pru.table[j] := by
  simp [State.storeProfile, Vector.getElem_set, Fin.ext_iff]

/-- A profile that passed its five stages fits the limits it was decided by. -/
theorem Pru.fits.stored (h : s.pru.fits) {r : ProfileRequest} {p : Profile} (decided : s.decideProfile r = .ok p) :
    (s.storeProfile (entryIndex r.index) p).pru.fits := by
  obtain ⟨range, -, within, window, rfl⟩ := State.decideProfile_eq_ok decided
  intro j
  rw [State.storeProfile_entry]
  split
  · exact ⟨requestedProfile_inBounds range _, fun _ => Profile.inWindow_clamped within window⟩
  · exact h j

/-- A revalidated entry fits the new limits (R47). -/
theorem ProfileEntry.fits.revalidate {e : ProfileEntry} {old : Limits} (h : e.fits old) (l : Limits) :
    (e.revalidate l).fits l := by
  obtain ⟨bounds, -⟩ := h
  unfold ProfileEntry.revalidate
  split
  · split
    · next p passed =>
      obtain ⟨within, window, rfl⟩ := Profile.revalidated_eq_some passed
      exact ⟨Profile.inBounds_clamped (by omega) l, fun _ => Profile.inWindow_clamped within window⟩
    · exact ⟨bounds, fun valid => by cases valid⟩
  · next empty => exact ⟨bounds, fun valid => by rw [empty] at valid; cases valid⟩
  · next invalid => exact ⟨bounds, fun valid => by rw [invalid] at valid; cases valid⟩

theorem Pru.relimited_entry (p : Pru) (l : Limits) (i : Fin 4) :
    (p.relimited l).table[i] = p.table[i].revalidate l := by simp [Pru.relimited]

theorem Pru.fits.relimited {p : Pru} (h : p.fits) (l : Limits) : (p.relimited l).fits := by
  intro i
  rw [Pru.relimited_entry]
  exact (h i).revalidate l

/-- A revalidation makes no entry VALID (R47). -/
theorem Pru.hasValid.of_relimited {p : Pru} {l : Limits} (h : (p.relimited l).hasValid) : p.hasValid := by
  obtain ⟨i, valid⟩ := h
  rw [Pru.relimited_entry] at valid
  exact ⟨i, (p.table[i].revalidate_format l).2.2 valid⟩

/-- Where no entry is VALID the limits may change without a revalidation (R35, R37). -/
theorem Pru.fits.setLimits {p : Pru} (h : p.fits) (none : ¬ p.hasValid) (l : Limits) :
    ({ p with limits := l } : Pru).fits :=
  fun i => (h i).of_not_valid (fun valid => none ⟨i, valid⟩) l

end

/-- Settles O13: each thing a step can do to the Profile Unit keeps its parts. -/
theorem profilesKept : Obligations.ProfilesKept := by
  intro s t inv fuses taken
  obtain ⟨fits, quiet⟩ := profileInv_iff.mp inv
  obtain ⟨-, -, resetLoads⟩ := fuses
  refine profileInv_iff.mpr ?_
  cases PruStep.of_step taken with
  | kept keeps => exact keeps.pru ▸ ⟨fits, fun loading => quiet (keeps.loading loading)⟩
  | released held pru => exact pru ▸ ⟨fits, fun _ => quiet (resetLoads held)⟩
  | stored r p decided pru dctl outside =>
    refine ⟨pru ▸ fits.stored decided, fun loading => ?_⟩
    rw [dctl, outside] at loading
    cases loading
  | emptied pru dctl => exact pru ▸ ⟨s.pru.fits_emptied, fun _ => s.pru.not_hasValid_emptied⟩
  | loaded loading dctl pru =>
    refine ⟨pru ▸ fits.setLimits (quiet loading) _, fun still => ?_⟩
    rw [dctl] at still
    cases still
  | locked locking bank dctl pru =>
    rw [pru, dctl]
    exact ⟨fits.relimited _, fun loading valid => quiet loading valid.of_relimited⟩

/-- Settles O14: in RUNNING no step but a reset writes the entry in force, and only the end of LOADING and a completed
lock give new limits. -/
theorem inForceFixed : Obligations.InForceFixed := by
  refine ⟨fun s t scheduler fuses running taken after => ?_, fun s t taken changed => ?_⟩
  · obtain ⟨running_iff, -, -, -⟩ := scheduler
    obtain ⟨-, lockInStandby, -⟩ := fuses
    cases PruStep.of_step taken with
    | kept keeps => rw [keeps.pru]
    | released held pru => rw [pru]
    | stored r p decided pru dctl outside =>
      obtain ⟨-, inactive, -⟩ := State.decideProfile_eq_ok decided
      have other : entryIndex r.index ≠ s.tbc.active.profile :=
        fun same => inactive ⟨same, running_iff.mp running⟩
      rw [pru, State.storeProfile_entry, if_neg other]
    | emptied pru loading => rw [after] at loading; cases loading
    | loaded loading dctl pru => rw [running] at loading; cases loading
    | locked locking bank dctl pru =>
      have standby := lockInStandby locking
      rw [running] at standby
      cases standby
  · cases PruStep.of_step taken with
    | kept keeps => exact absurd (congrArg Pru.limits keeps.pru) changed
    | released held pru => exact absurd (congrArg Pru.limits pru) changed
    | stored r p decided pru dctl outside => exact absurd (congrArg Pru.limits pru) changed
    | emptied pru loading => exact absurd (congrArg Pru.limits pru) changed
    | loaded loading dctl pru =>
      exact .inl ⟨loading, by rw [dctl]; rfl, by rw [pru]; rfl⟩
    | locked locking bank dctl pru => exact .inr ⟨locking, bank, by rw [pru]; rfl⟩

end Sys2Proof.Machine

namespace Sys2Proof.Machine

/-! ### The reading commands (R46, R110, R119, R173) -/

section
variable (s : State) (tag : Byte)

theorem entryIndex_of_le {index : Byte} (h : index.toNat ≤ 3) : (entryIndex index).val = index.toNat :=
  Nat.mod_eq_of_lt (by omega)

theorem wordIndex_of_le {word : Byte} (h : word.toNat ≤ 7) : (wordIndex word).val = word.toNat :=
  Nat.mod_eq_of_lt (by omega)

theorem Engine.isIdle_iff (e : Engine) : e.isIdle = true ↔ e = .idle := by cases e <;> simp [Engine.isIdle]

theorem readProfileEffect_eq (index : Byte) : readProfileEffect tag index s =
    if h : index.toNat ≤ 3 then s.addReply tag 0x11 .ok (s.pru.table[index.toNat]'(by omega)).payload
    else s.addReply tag 0x11 .badValue [] := by
  unfold readProfileEffect
  by_cases named : index.toNat ≤ 3
  · simp [named, entryIndex_of_le named]
  · simp [named, Nat.lt_of_not_le named]

theorem readRegionEffect_eq (bank index : Byte) : readRegionEffect tag bank index s =
    if h : bank.toNat ≤ 1 ∧ index.toNat ≤ 7 then
      s.addReply tag 0x33 .ok ([bank, index] ++
        ((if bank.toNat = 0 then s.tbc.active else s.tbc.shadow).regions[index.toNat]'(by omega)).bytes)
    else s.addReply tag 0x33 .badValue [] := by
  unfold readRegionEffect
  by_cases named : bank.toNat ≤ 1 ∧ index.toNat ≤ 7
  · have place : index.toNat % 8 = index.toNat := Nat.mod_eq_of_lt (by omega)
    rw [dif_pos named, if_neg (by omega)]
    simp [Tbc.bank, place]
  · rw [dif_neg named, if_pos (by omega)]

theorem readTonePointsEffect_eq (bank channel first count : Byte) :
    readTonePointsEffect tag bank channel first count s =
      if bank.toNat ≤ 1 ∧ channel.toNat ≤ 2 ∧ 1 ≤ count.toNat ∧ count.toNat ≤ 12
          ∧ first.toNat + count.toNat ≤ 65 then
        s.addReply tag 0x31 .ok ([channel, first, count] ++
          (((((if bank.toNat = 0 then s.tbc.active else s.tbc.shadow).curve channel.toNat).toList.drop
            first.toNat).take count.toNat).flatMap fun p => toLe 2 p.toNat))
      else s.addReply tag 0x31 .badValue [] := by
  unfold readTonePointsEffect
  by_cases named : bank.toNat ≤ 1 ∧ channel.toNat ≤ 2 ∧ 1 ≤ count.toNat ∧ count.toNat ≤ 12
      ∧ first.toNat + count.toNat ≤ 65
  · rw [if_pos named, if_neg (by omega), Curve.points, List.flatMap_map]
    rfl
  · rw [if_neg named, if_pos (by omega)]

theorem fuseReadEffect_eq (word : Byte) : fuseReadEffect tag word s =
    if h : word.toNat ≤ 7 then
      if s.lfb.engine = .idle then
        s.addReply tag 0x70 .ok (word :: halfBytes (s.lfb.words[word.toNat]'(by omega)))
      else s.addReply tag 0x70 .fuseBusy []
    else s.addReply tag 0x70 .badValue [] := by
  unfold fuseReadEffect
  by_cases named : word.toNat ≤ 7
  · rw [dif_pos named, if_neg (by omega)]
    by_cases idle : s.lfb.engine = .idle
    · simp [idle, Engine.isIdle, fusePayload, byte, wordIndex_of_le named]
    · rw [if_neg idle, if_pos (by simpa using mt s.lfb.engine.isIdle_iff.mp idle)]
  · rw [dif_neg named, if_pos (by omega)]

end

/-- Settles O6: a reading command that is taken has its effect, which is one reply. -/
theorem readsAnswer : Obligations.ReadsAnswer := by
  intro dt tag s taken
  have row (effect : State → State) : commandSlot dt effect s = .next (effect (s.after dt)) := commandSlot_of taken dt _
  refine ⟨row _, row _, fun index => ?_, fun bank index => ?_, fun bank channel first count => ?_, fun seq => ?_,
    fun word => ?_⟩
  · exact (row _).trans (congrArg _ (readProfileEffect_eq _ tag index))
  · exact (row _).trans (congrArg _ (readRegionEffect_eq _ tag bank index))
  · exact (row _).trans (congrArg _ (readTonePointsEffect_eq _ tag bank channel first count))
  · refine (row _).trans (congrArg _ ?_)
    unfold fetchRecordEffect Frl.find
    simp only [State.after_frl]
    cases s.frl.ring.find? (fun r => r.sequence = seq) <;> rfl
  · exact (row _).trans (congrArg _ (fuseReadEffect_eq _ tag word))

end Sys2Proof.Machine

namespace Sys2Proof.Machine

/-! ### WRITE_PROFILE, stage by stage (R39 to R44) -/

theorem ceilDiv_64 (n : Nat) : ceilDiv n 64 = (n + 63) / 64 := by unfold ceilDiv; omega

theorem ceilDiv_1000 (n : Nat) : ceilDiv n 1000 = (n + 999) / 1000 := by unfold ceilDiv; omega

/-- Stages 4 and 5 on a profile's own fields (R43, R44). -/
theorem Profile.clamped_eq (p : Profile) (l : Limits) : (p.clampPeriods l).clampStall =
    let rows := (p.lines + 63) / 64
    let blank := max p.minBlank (max (l.minBlank + rows) (5 + rows))
    let pmin := max p.pmin l.floor
    let pmax := min p.pmax l.ceiling
    let low := max pmin (((p.lines + blank) * p.lineTime + 999) / 1000)
    { p with
      minBlank := blank, pmin := pmin, pmax := pmax, stallLimit := max p.stallLimit pmax
      freeRun := min (max p.freeRun low) pmax, pminEff := low, pmaxEff := pmax } := by
  simp only [Profile.clampStall, Profile.clampPeriods, clampedBlank, scanTerm, clampInto, ceilDiv_64, ceilDiv_1000]

/-- A profile fails against limits outside them, or with an empty window (R42, R43). -/
theorem Profile.fails_iff (p : Profile) (l : Limits) :
    (p.withinLimits l = false ∨ (p.clampPeriods l).pmaxEff < (p.clampPeriods l).pminEff) ↔
      l.maxWidth < p.width ∨ l.maxLines < p.lines ∨ p.lineTime < l.minLineTime
        ∨ min p.pmax l.ceiling < max (max p.pmin l.floor) (((p.lines + max p.minBlank
          (max (l.minBlank + (p.lines + 63) / 64) (5 + (p.lines + 63) / 64))) * p.lineTime + 999) / 1000) := by
  simp only [Profile.withinLimits, Bool.and_eq_false_iff, decide_eq_false_iff_not, Nat.not_le, or_assoc,
    Profile.clampPeriods, clampedBlank, scanTerm, ceilDiv_64, ceilDiv_1000]

section
variable {s : State} {r : ProfileRequest}

theorem profileInRange_iff : profileInRange r = true ↔
    r.index.toNat ≤ 3
      ∧ (640 ≤ r.width.toNat ∧ r.width.toNat ≤ 3840) ∧ (360 ≤ r.lines.toNat ∧ r.lines.toNat ≤ 2160)
      ∧ (2000 ≤ r.lineTime.toNat ∧ r.lineTime.toNat ≤ 40000) ∧ 1 ≤ r.minBlank.toNat
      ∧ 1 ≤ r.pmin.toNat ∧ 1 ≤ r.pmax.toNat ∧ (1 ≤ r.weight.toNat ∧ r.weight.toNat ≤ 16)
      ∧ (1 ≤ r.stallLimit.toNat ∧ r.stallLimit.toNat ≤ 2000000)
      ∧ (1 ≤ r.maxMultiplier.toNat ∧ r.maxMultiplier.toNat ≤ 8)
      ∧ 1 ≤ r.freeRun.toNat ∧ r.lossAction.toNat ≤ 1 := by
  simp only [profileInRange, Bool.and_eq_true, decide_eq_true_eq, and_assoc]

theorem entryIndex_eq_iff {index : Byte} (h : index.toNat ≤ 3) (i : Fin 4) :
    entryIndex index = i ↔ index.toNat = i.val := by
  rw [Fin.ext_iff, entryIndex_of_le h]

/-- The stages after the first, in their order (R41 to R44). -/
theorem State.decideProfile_of_inRange (range : profileInRange r = true) : s.decideProfile r =
    if r.index.toNat = s.tbc.active.profile.val ∧ s.ssch.state ≠ .off then .error .profileActive
    else if s.tbc.commitPending.isSome ∧ r.index.toNat = s.tbc.shadow.profile.val then .error .commitPending
    else if (requestedProfile r).withinLimits s.pru.limits = false
        ∨ ((requestedProfile r).clampPeriods s.pru.limits).pmaxEff
          < ((requestedProfile r).clampPeriods s.pru.limits).pminEff then .error .badProfile
    else .ok ((requestedProfile r).clampPeriods s.pru.limits).clampStall := by
  have index : r.index.toNat ≤ 3 := (profileInRange_iff.mp range).1
  unfold State.decideProfile
  simp only [range, entryIndex_eq_iff index]
  cases (requestedProfile r).withinLimits s.pru.limits <;> simp

theorem State.storeProfile_eq (h : r.index.toNat ≤ 3) (p : Profile) : s.storeProfile (entryIndex r.index) p =
    s.setPru { s.pru with
      table := s.pru.table.set r.index.toNat { state := .valid, profile := p } (by omega) } := by
  simp [State.storeProfile, entryIndex_of_le h]

/-- CLAMPED is replied unless all five clamped fields are stored as they came (R43, R44). -/
theorem profileClamped_eq_false {p q : Profile} : profileClamped p q = false ↔
    q.minBlank = p.minBlank ∧ q.pmin = p.pmin ∧ q.pmax = p.pmax ∧ q.stallLimit = p.stallLimit
      ∧ q.freeRun = p.freeRun := by
  simp only [profileClamped, Bool.or_eq_false_iff, bne_eq_false_iff_eq, and_assoc, @eq_comm Nat]

end

/-- Settles O12: the stages in their order, each with its answer. -/
theorem writeProfile : Obligations.WriteProfile := by
  intro dt tag r s taken l rows blank pmin pmax term low stall freeRun
  have row : exec (.writeProfile dt tag r) s = .next (writeProfileEffect tag r (s.after dt)) :=
    commandSlot_of taken dt _
  refine row.trans (congrArg _ ?_)
  unfold writeProfileEffect
  by_cases range : profileInRange r = true
  · have index : r.index.toNat ≤ 3 := (profileInRange_iff.mp range).1
    rw [dif_pos (profileInRange_iff.mp range), State.decideProfile_of_inRange range]
    have fourth : ((requestedProfile r).withinLimits s.pru.limits = false
          ∨ ((requestedProfile r).clampPeriods s.pru.limits).pmaxEff
            < ((requestedProfile r).clampPeriods s.pru.limits).pminEff) ↔
        l.maxWidth < r.width.toNat ∨ l.maxLines < r.lines.toNat ∨ r.lineTime.toNat < l.minLineTime ∨ pmax < low :=
      (requestedProfile r).fails_iff l
    simp only [State.after_tbc, State.after_ssch, State.after_pru, fourth]
    split
    · rfl
    · split
      · rfl
      · split
        · rfl
        · rw [Profile.clamped_eq]
          unfold State.answerProfile
          dsimp only
          rw [State.storeProfile_eq index]
          by_cases same : blank = r.minBlank.toNat ∧ pmin = r.pmin.toNat ∧ pmax = r.pmax.toNat
              ∧ stall = r.stallLimit.toNat ∧ freeRun = r.freeRun.toNat
          · rw [if_pos same, profileClamped_eq_false.mpr same]
            rfl
          · rw [if_neg same, if_pos (Bool.eq_true_of_not_eq_false (mt profileClamped_eq_false.mp same))]
            rfl
  · rw [dif_neg (mt profileInRange_iff.mpr range)]
    have refused : (s.after dt).decideProfile r = .error .badValue := by
      unfold State.decideProfile
      rw [if_pos (by simpa using range)]
    rw [refused]
    rfl

end Sys2Proof.Machine

namespace Sys2Proof.Machine

/-! ### Fuse ends and interruptions, state by state (R174, R175) -/

section
variable {s : State} {tag : Byte} {word : Fin 8} {value : Half} {due : Nat}

theorem State.fuseEnds_of_idle (engine : s.lfb.engine = .idle) : s.fuseProgramEnd = s ∧ s.fuseLockEnd = s := by
  simp [State.fuseProgramEnd, State.fuseLockEnd, engine]

theorem State.fuseLockEnd_of_programming (engine : s.lfb.engine = .programming tag word value due) :
    s.fuseLockEnd = s := by
  simp [State.fuseLockEnd, engine]

theorem State.fuseProgramEnd_of_locking (engine : s.lfb.engine = .locking tag due) : s.fuseProgramEnd = s := by
  simp [State.fuseProgramEnd, engine]

theorem State.fuseProgramEnd_of_programming (engine : s.lfb.engine = .programming tag word value due) :
    s.fuseProgramEnd = if due ≤ s.clock then s.programEnds tag word value else s := by
  simp [State.fuseProgramEnd, engine]

theorem State.fuseLockEnd_of_locking (engine : s.lfb.engine = .locking tag due) :
    s.fuseLockEnd = if due ≤ s.clock then s.lockEnds tag else s := by
  simp [State.fuseLockEnd, engine]

/-- A word with more bits set reads back as the two joined (R173). -/
theorem Lfb.setBits_word (f : Lfb) (word : Fin 8) (bits : Half) :
    (f.setBits word bits).words[word] = f.words[word] ||| bits := by
  simp [Lfb.setBits]

theorem State.programEnds_eq (s : State) (tag : Byte) (word : Fin 8) (value : Half) :
    s.programEnds tag word value =
      let w := s.lfb.words[word] ||| value
      State.addReply tag 0x71 .ok (BitVec.ofNat 8 word.val :: halfBytes w)
        { s with
          lfb := { s.lfb with words := s.lfb.words.set word.val w word.isLt, engine := .idle }
          evu := s.evu.raise .fuseDone } := by
  unfold State.programEnds
  simp only [Lfb.setBits_word]
  rfl

/-- An interrupted program, with the bits it has set (R174, log 11). -/
theorem State.programInterrupted_eq (s : State) (tag : Byte) (word : Fin 8) (value : Half) :
    s.programInterrupted tag word value =
      let w := s.lfb.words[word] ||| (value &&& Config.fuseBitsSet s.free)
      State.addReply tag 0x71 .fuseInterrupted (BitVec.ofNat 8 word.val :: halfBytes w)
        { s with
          lfb := { s.lfb with words := s.lfb.words.set word.val w word.isLt, engine := .idle }
          evu := s.evu.raise .fuseDone, free := s.free + 1 } := by
  unfold State.programInterrupted
  simp only [Lfb.setBits_word]
  rfl

/-- A completed lock: W7 set, the bank LOCKED, the limits taken and the table revalidated (R175, R35, R47). -/
theorem State.lockEnds_eq (s : State) (tag : Byte) : s.lockEnds tag =
    let w := s.lfb.words.set 7 0xFFFF
    let table := s.pru.table.map (ProfileEntry.revalidate (limitsOfWords w))
    State.addReply tag 0x72 .ok []
      { s with
        lfb := { words := w, locked := true, engine := .idle }
        pru := { limits := limitsOfWords w, table := table }
        evu := (if table = s.pru.table then s.evu else s.evu.raise .panelLimitClamped).raise .fuseDone } := by
  unfold State.lockEnds
  rw [State.takeLockedLimits_eq]
  rfl

theorem State.fprogFalls_of_programming (engine : s.lfb.engine = .programming tag word value due) :
    s.fprogFalls = s.programInterrupted tag word value := by
  unfold State.fprogFalls
  rw [engine]

theorem State.fprogFalls_of_locking (engine : s.lfb.engine = .locking tag due) :
    s.fprogFalls = s.lockInterrupted tag := by
  unfold State.fprogFalls
  rw [engine]

theorem State.fprogFalls_of_idle (engine : s.lfb.engine = .idle) : s.fprogFalls = s := by
  unfold State.fprogFalls
  rw [engine]

end

/-! ### The revalidation of an entry (R47) -/

section
variable (e : ProfileEntry)

theorem ProfileEntry.revalidate_of_not_valid (h : e.state ≠ .valid) (l : Limits) : e.revalidate l = e := by
  unfold ProfileEntry.revalidate
  split
  · next valid => exact absurd valid h
  · rfl
  · rfl

/-- A VALID entry is clamped again, or becomes INVALID with its fields as they were. -/
theorem ProfileEntry.revalidate_of_valid (h : e.state = .valid) (l : Limits) : e.revalidate l =
    if e.profile.withinLimits l = false
        ∨ (e.profile.clampPeriods l).pmaxEff < (e.profile.clampPeriods l).pminEff then
      { state := .invalid, profile := e.profile }
    else { state := .valid, profile := (e.profile.clampPeriods l).clampStall } := by
  unfold ProfileEntry.revalidate Profile.revalidated
  rw [h]
  cases e.profile.withinLimits l with
  | false => rfl
  | true =>
    by_cases empty : (e.profile.clampPeriods l).pmaxEff < (e.profile.clampPeriods l).pminEff <;> simp [empty]

end

/-- Settles O27: each end and the fall by the engine's state, and the revalidation by the entry's. -/
theorem fuseEnds : Obligations.FuseEnds := by
  refine ⟨fun dt s released => ?_, fun dt s released => ?_⟩
  · have programEnd : exec (.fuseProgramEnd dt) s = .next (s.after dt).fuseProgramEnd :=
      congrArg _ (arrival_of released dt _)
    have lockEnd : exec (.fuseLockEnd dt) s = .next (s.after dt).fuseLockEnd := congrArg _ (arrival_of released dt _)
    rw [programEnd, lockEnd]
    refine ⟨fun tag word value due engine => ⟨?_, ?_⟩, fun tag due engine => ⟨?_, ?_⟩, fun engine => ?_⟩
    · rw [State.fuseLockEnd_of_programming (s := s.after dt) engine]
    · rw [State.fuseProgramEnd_of_programming (s := s.after dt) engine, State.programEnds_eq]
      rfl
    · rw [State.fuseProgramEnd_of_locking (s := s.after dt) engine]
    · rw [State.fuseLockEnd_of_locking (s := s.after dt) engine, State.lockEnds_eq]
      rfl
    · obtain ⟨program, lock⟩ := State.fuseEnds_of_idle (s := s.after dt) engine
      rw [program, lock]
      exact ⟨rfl, rfl⟩
  · have fall : exec (.fprogFall dt) s = .next ((s.setFprog false).after dt).fprogFalls :=
      congrArg _ (arrival_of (s := s.setFprog false) released dt _)
    rw [fall]
    refine ⟨fun tag word value due engine => ⟨value &&& Config.fuseBitsSet s.free, ?_, ?_⟩, fun tag due engine => ?_,
      fun engine => ?_, fun l e => ⟨fun other => e.revalidate_of_not_valid other l, fun valid => ?_⟩⟩
    · rw [BitVec.and_comm value, BitVec.and_assoc, BitVec.and_self]
    · rw [State.fprogFalls_of_programming (s := (s.setFprog false).after dt) engine, State.programInterrupted_eq]
      rfl
    · rw [State.fprogFalls_of_locking (s := (s.setFprog false).after dt) engine]
      rfl
    · rw [State.fprogFalls_of_idle (s := (s.setFprog false).after dt) engine]
      rfl
    · rw [e.revalidate_of_valid valid, Profile.clamped_eq]
      simp only [Profile.fails_iff]

end Sys2Proof.Machine

namespace Sys2Proof.Machine

/-! ### What a row does to the state it finds

`RowsLead` forgets that time only moves on, that nothing but RESET_ASSERT and RESET_RELEASE acts while the reset line is
asserted, and that a release acts only on a line that is asserted. The invariants of the scheduler and of the fuses need
all three: `ActsLead`. -/

/-- What a row can do at its instant, but for a reset: its act, and the port served after it where the row serves it. -/
inductive Act : State → State → Prop
  | idle (s : State) : Act s s
  | serve {s t : State} : Act s t → Act s t.serve
  | loadingEnds (s : State) : Act s s.loadingEnds
  | followLiveLock (s : State) : Act s s.followLiveLock
  | takeLfs (s : State) : Act s s.takeLfs
  | takeLineStart (s : State) : Act s s.takeLineStart
  | takeLineEnd (s : State) (pixels : List GamePixel) : Act s (s.takeLineEnd pixels)
  | takeBlanking (s : State) : Act s s.takeBlanking
  | lineOverdue (s : State) : Act s s.lineOverdue
  | maintenanceDue (s : State) : Act s s.maintenanceDue
  | maintenanceEnds (s : State) : Act s s.maintenanceEnds
  | transferEnds (s : State) (x : Transfer) : Act s (s.transferActs x).portFreed
  | minExpires (s : State) : Act s s.minExpires
  | deadlineExpires (s : State) : Act s s.deadlineExpires
  | freeRunExpires (s : State) : Act s s.freeRunExpires
  | planTimerExpires (s : State) : Act s s.planTimerExpires
  | outputTime (s : State) : Act s s.outputTime
  | followOverlayLock (s : State) : Act s s.followOverlayLock
  | overlayFrameStart (s : State) : Act s s.overlayFrameStart
  | overlayLineStart (s : State) : Act s s.overlayLineStart
  | overlayLineEnd (s : State) (pixels : List OverlayPixel) : Act s (s.overlayLineEnd pixels)
  | packetBad (s : State) : Act s (s.raise .controlPacketBad)
  | refused (s : State) (tag code : Byte) (status : Status) : Act s (s.addReply tag code status [])
  | command (s : State) (tag : Byte) (c : Command) : s.awake → Act s (commandEffect tag c s)
  | fuseProgramEnd (s : State) : Act s s.fuseProgramEnd
  | fuseLockEnd (s : State) : Act s s.fuseLockEnd

/-- `P` holds of a state until its row acts; every act and every reset then leads to a state with `Q`, and so does an
arrival that an asserted reset line keeps out. -/
structure ActsLead (P Q : State → Prop) : Prop where
  dequeue : ∀ s rest, P s → P (s.setPending rest)
  after : ∀ s dt, s.pins.reset = false → P s → P (s.after dt)
  setPins : ∀ s p, p.reset = s.pins.reset → P s → P (s.setPins p)
  fprogFalls : ∀ s, s.pins.reset = false → P s → P s.fprogFalls
  held : ∀ s, s.pins.reset = true → P s → Q s
  assertReset : ∀ s, P s → Q s.assertReset
  releaseReset : ∀ s, s.pins.reset = true → P s → Q s.releaseReset
  act : ∀ s t, s.pins.reset = false → P s → Act s t → Q t

namespace ActsLead

variable {P Q : State → Prop} {s t : State}

theorem idle (K : ActsLead P Q) (hs : P s) : Q s := by
  cases released : s.pins.reset with
  | false => exact K.act s s released hs (.idle s)
  | true => exact K.held s released hs

theorem arrival (K : ActsLead P Q) {act : State → State} (dt : Nat)
    (acts : ∀ u, u.pins.reset = false → P u → Q (act u)) (hs : P s) : Q (arrival dt act s) := by
  cases released : s.pins.reset with
  | false =>
    rw [arrival_of released]
    exact acts _ released (K.after s dt released hs)
  | true =>
    rw [arrival_held released]
    exact K.held s released hs

theorem arrivalActs (K : ActsLead P Q) {act : State → State} (acts : ∀ u, Act u (act u)) (dt : Nat) (hs : P s) :
    Q (Machine.arrival dt act s) :=
  K.arrival dt (fun u released hu => K.act u _ released hu (acts u)) hs

theorem arrivalOutsideLoading (K : ActsLead P Q) {act : State → State} (acts : ∀ u, u.awake → Act u (act u))
    (dt : Nat) (hs : P s) : Q (arrivalOutsideLoading dt act s) := by
  refine K.arrival dt (fun u released hu => K.act u _ released hu ?_) hs
  split
  · exact .idle u
  · next outside => exact acts u ⟨released, by simpa using outside⟩

end ActsLead

theorem Act.whenLocked {act : State → State} (acts : ∀ u, Act u (act u)) (s : State) : Act s (s.whenLocked act) := by
  unfold State.whenLocked
  split
  · exact .idle s
  · exact acts s

theorem Act.withPlace {act : State → State} {s : State} (acts : Act s (act s)) : Act s (s.withPlace act) := by
  unfold State.withPlace
  split
  · exact acts
  · exact .packetBad s

theorem Act.decidePacket (reading : PacketReading) (s : State) (up : s.awake) : Act s (s.decidePacket reading) := by
  cases reading with
  | notWhole => exact .idle s
  | ignored => exact .idle s
  | badCheck => exact .packetBad s
  | badCommand tag code => exact .withPlace (.refused s tag code _)
  | badLength tag code => exact .withPlace (.refused s tag code _)
  | dispatched tag c => exact .withPlace (.command s tag c up)

theorem Act.inSlot {act : State → State} {s : State} (acts : Act s (act s)) :
    Act s (if s.slotTaken then act s else s) := by
  split
  · exact acts
  · exact .idle s

namespace ActsLead

variable {P Q : State → Prop} {s t : State}

/-- A command row: its slot may not be taken, or find no reply place, and otherwise the command has its effect. -/
theorem commandSlot (K : ActsLead P Q) {dt : Nat} {tag : Byte} (c : Command)
    (h : commandSlot dt (commandEffect tag c) s = .next t) (hs : P s) : Q t := by
  cases h
  exact K.arrivalOutsideLoading (fun u up => .inSlot (.withPlace (.command u tag c up))) dt hs

theorem fprogLevel (K : ActsLead P Q) (level : Bool) (hs : P s) : P (s.fprogLevel level) := by
  unfold State.fprogLevel
  split
  · exact K.setPins s _ rfl hs
  · next falls =>
    refine K.fprogFalls _ ?_ (K.setPins s _ rfl hs)
    cases held : s.pins.reset with
    | false => exact held
    | true => simp [held] at falls

theorem elapse (K : ActsLead P Q) (dt : Nat) (hs : P s) : P (s.elapse dt) := by
  cases released : s.pins.reset with
  | false => rw [State.elapse_of released]; exact K.after s dt released hs
  | true => simpa [State.elapse, released] using hs

theorem transferEnd (K : ActsLead P Q) (dt : Nat) (h : execTransferEnd dt s = .next t) (hs : P s) : Q t := by
  cases released : s.pins.reset with
  | false =>
    rw [show execTransferEnd dt s = _ from transferEnd_exec s released dt] at h
    have later := K.after s dt released hs
    unfold State.transferEnds at h
    split at h
    · cases h; exact K.idle later
    · next x _ =>
      split at h
      · cases h; exact K.act (s.after dt) _ released later (.transferEnds _ x)
      · cases h
  | true =>
    simp only [execTransferEnd, released, if_true] at h
    cases h
    exact K.held s released hs

theorem resetRelease (K : ActsLead P Q) (dt : Nat) (h : execResetRelease dt s = .next t) (hs : P s) : Q t := by
  unfold execResetRelease at h
  split at h
  · next asserted => cases h; exact K.releaseReset s asserted hs
  · cases h; exact K.idle (K.elapse dt hs)

/-- Every row leads where its act or its reset leads. -/
theorem exec (K : ActsLead P Q) (i : Instr) (h : exec i s = .next t) (hs : P s) : Q t := by
  cases i with
  | resetAssert dt => cases h; exact K.assertReset _ (K.elapse dt hs)
  | resetRelease dt => exact K.resetRelease dt h hs
  | loadingEnd dt => cases h; exact K.arrivalActs .loadingEnds dt hs
  | lockArrival dt | lossArrival dt =>
    cases h; exact K.arrivalOutsideLoading (fun u _ => .serve (.followLiveLock u)) dt (K.setPins s _ rfl hs)
  | lfs dt => cases h; exact K.arrivalOutsideLoading (fun u _ => .whenLocked (fun v => .serve (.takeLfs v)) u) dt hs
  | lineStart dt =>
    cases h; exact K.arrivalOutsideLoading (fun u _ => .whenLocked (fun v => .serve (.takeLineStart v)) u) dt hs
  | lineEnd dt pixels =>
    cases h; exact K.arrivalOutsideLoading (fun u _ => .whenLocked (fun v => .serve (.takeLineEnd v pixels)) u) dt hs
  | blankingStart dt =>
    cases h; exact K.arrivalOutsideLoading (fun u _ => .whenLocked (fun v => .serve (.takeBlanking v)) u) dt hs
  | lineOverdueExpiry dt =>
    cases h; exact K.arrivalOutsideLoading (fun u _ => .whenLocked (fun v => .serve (.lineOverdue v)) u) dt hs
  | maintenanceDue dt => cases h; exact K.arrivalActs .maintenanceDue dt hs
  | maintenanceEnd dt => cases h; exact K.arrivalActs .maintenanceEnds dt hs
  | transferEnd dt => exact K.transferEnd dt h hs
  | minExpiry dt => cases h; exact K.arrivalActs (fun u => .serve (.minExpires u)) dt hs
  | deadlineExpiry dt => cases h; exact K.arrivalActs (fun u => .serve (.deadlineExpires u)) dt hs
  | freeRunExpiry dt => cases h; exact K.arrivalActs (fun u => .serve (.freeRunExpires u)) dt hs
  | planTimerExpiry dt => cases h; exact K.arrivalActs (fun u => .serve (.planTimerExpires u)) dt hs
  | outputTime dt => cases h; exact K.arrivalActs (fun u => .serve (.outputTime u)) dt hs
  | overlayLock dt => cases h; exact K.arrivalOutsideLoading (fun u _ => .followOverlayLock u) dt (K.setPins s _ rfl hs)
  | overlayLoss dt =>
    cases h; exact K.arrivalOutsideLoading (fun u _ => .serve (.followOverlayLock u)) dt (K.setPins s _ rfl hs)
  | overlayFrameStart dt => cases h; exact K.arrivalOutsideLoading (fun u _ => .serve (.overlayFrameStart u)) dt hs
  | overlayLineStart dt => cases h; exact K.arrivalOutsideLoading (fun u _ => .serve (.overlayLineStart u)) dt hs
  | overlayLineEnd dt pixels =>
    cases h; exact K.arrivalOutsideLoading (fun u _ => .serve (.overlayLineEnd u pixels)) dt hs
  | controlPacket dt bytes =>
    cases h; exact K.arrivalOutsideLoading (fun u up => .inSlot (.decidePacket _ u up)) dt hs
  | start dt tag => exact K.commandSlot .start h hs
  | stop dt tag => exact K.commandSlot .stop h hs
  | status dt tag => exact K.commandSlot .status h hs
  | softReset dt tag => exact K.commandSlot .softReset h hs
  | writeProfile dt tag req => exact K.commandSlot (.writeProfile req) h hs
  | readProfile dt tag index => exact K.commandSlot (.readProfile index) h hs
  | resetCadence dt tag => exact K.commandSlot .resetCadence h hs
  | writeTonePoints dt tag channel first points => exact K.commandSlot (.writeTonePoints channel first points) h hs
  | readTonePoints dt tag bank channel first count =>
    exact K.commandSlot (.readTonePoints bank channel first count) h hs
  | writeRegion dt tag req => exact K.commandSlot (.writeRegion req) h hs
  | readRegion dt tag bank index => exact K.commandSlot (.readRegion bank index) h hs
  | setFill dt tag red green blue => exact K.commandSlot (.setFill red green blue) h hs
  | selectProfile dt tag index => exact K.commandSlot (.selectProfile index) h hs
  | commit dt tag marker => exact K.commandSlot (.commit marker) h hs
  | discardShadow dt tag => exact K.commandSlot .discardShadow h hs
  | statsConfig dt tag req => exact K.commandSlot (.statsConfig req) h hs
  | statsStart dt tag => exact K.commandSlot .statsStart h hs
  | statsStop dt tag => exact K.commandSlot .statsStop h hs
  | recordStream dt tag switch => exact K.commandSlot (.recordStream switch) h hs
  | fetchRecord dt tag seq => exact K.commandSlot (.fetchRecord seq) h hs
  | eventConfig dt tag source level route => exact K.commandSlot (.eventConfig source level route) h hs
  | setThresholds dt tag notice attention => exact K.commandSlot (.setThresholds notice attention) h hs
  | clearEvents dt tag set => exact K.commandSlot (.clearEvents set) h hs
  | readEvents dt tag => exact K.commandSlot .readEvents h hs
  | fuseRead dt tag word => exact K.commandSlot (.fuseRead word) h hs
  | fuseProgram dt tag word value fprog =>
    exact K.commandSlot (.fuseProgram word value) h (K.fprogLevel fprog hs)
  | fuseLock dt tag fprog => exact K.commandSlot .fuseLock h (K.fprogLevel fprog hs)
  | fuseProgramEnd dt => cases h; exact K.arrivalActs .fuseProgramEnd dt hs
  | fuseLockEnd dt => cases h; exact K.arrivalActs .fuseLockEnd dt hs
  | fprogFall dt =>
    cases h
    exact K.arrival dt (fun u released hu => K.idle (K.fprogFalls u released hu)) (K.setPins s _ rfl hs)

/-- Every step leads where the acts and the resets lead. -/
theorem step (K : ActsLead P Q) (h : step s = .next t) (hs : P s) : Q t := by
  unfold Machine.step at h
  split at h
  · cases h; exact K.idle hs
  · next i rest _ => exact K.exec i h (K.dequeue s rest hs)

end ActsLead

end Sys2Proof.Machine

namespace Sys2Proof.Machine

open State

/-! ### What the scheduler's invariants look at

Most operations leave the scheduler's state, the scan in flight, the minimum timer and the sequence number as they were:
`State.Steady`. It is `State.SameRun` with the rest of what `SchedulerInv` and `MinInv` speak of. -/

/-- The clock, the input lines, the minimum timer and the next sequence number are the same. -/
structure State.SameTimes (s t : State) : Prop where
  clock : t.clock = s.clock
  pins : t.pins = s.pins
  min : t.ssch.min = s.ssch.min
  sequence : t.seng.sequence = s.seng.sequence

/-- Nothing the scheduler's invariants look at changes, but that a pending frame may go. -/
structure State.Steady (s t : State) : Prop extends State.SameRun s t, State.SameTimes s t where
  output : t.seng.output = s.seng.output
  pending : s.ssch.pending = none → t.ssch.pending = none
  commit : t.tbc.commitPending = s.tbc.commitPending

section
variable {s t u : State}

theorem State.SameTimes.trans (h : SameTimes s t) (h' : SameTimes t u) : SameTimes s u :=
  ⟨h'.clock.trans h.clock, h'.pins.trans h.pins, h'.min.trans h.min, h'.sequence.trans h.sequence⟩

theorem State.SameTimes.microseconds (h : SameTimes s t) : t.microseconds = s.microseconds := by
  simp [State.microseconds, h.clock]

namespace State.Steady

theorem refl (s : State) : Steady s s := ⟨.refl s, ⟨rfl, rfl, rfl, rfl⟩, rfl, id, rfl⟩

theorem trans (h : Steady s t) (h' : Steady t u) : Steady s u :=
  ⟨h.toSameRun.trans h'.toSameRun, h.toSameTimes.trans h'.toSameTimes, h'.output.trans h.output,
    fun none => h'.pending (h.pending none), h'.commit.trans h.commit⟩

theorem of_frame (clock : t.clock = s.clock) (pins : t.pins = s.pins) (ssch : t.ssch = s.ssch) (seng : t.seng = s.seng)
    (tbc : t.tbc = s.tbc) (dctl : t.dctl = s.dctl) : Steady s t :=
  ⟨.of_frame ssch dctl seng, ⟨clock, pins, congrArg _ ssch, congrArg _ seng⟩, congrArg _ seng,
    fun none => by rwa [ssch], congrArg _ tbc⟩

theorem setSeng {g : Seng} (key : (s.setSeng g).scanKey = s.scanKey) (sequence : g.sequence = s.seng.sequence)
    (output : g.output = s.seng.output) : Steady s (s.setSeng g) :=
  ⟨.setSeng key, ⟨rfl, rfl, rfl, sequence⟩, output, id, rfl⟩

theorem setSsch {x : Ssch} (state : x.state = s.ssch.state) (min : x.min = s.ssch.min)
    (pending : s.ssch.pending = none → x.pending = none) : Steady s (s.setSsch x) :=
  ⟨.setSsch state, ⟨rfl, rfl, min, rfl⟩, rfl, pending, rfl⟩

end State.Steady
end

variable (s : State)

/-! ### Operations that leave the scheduler as it is -/

theorem steady_raise (e : EventSource) : Steady s (s.raise e) :=
  .of_frame (by simp) (by simp) (by simp) (by simp) (by simp) (by simp)

theorem steady_serve : Steady s s.serve := .of_frame (by simp) (by simp) (by simp) (by simp) (by simp) (by simp)

theorem steady_drawn : Steady s s.drawn := .of_frame (by simp) (by simp) (by simp) (by simp) (by simp) (by simp)

theorem steady_addReply (tag code : Byte) (status : Status) (payload : List Byte) :
    Steady s (s.addReply tag code status payload) :=
  .of_frame (by simp) (by simp) (by simp) (by simp) (by simp) (by simp)

theorem steady_withCrp (c : Crp) : Steady s (s.withCrp c) :=
  ⟨sameRun_withCrp s c, ⟨rfl, rfl, rfl, rfl⟩, rfl, id, rfl⟩

theorem steady_cadenceLfs (frame time : Word) : Steady s (s.cadenceLfs frame time) := by
  unfold State.cadenceLfs
  split
  · exact (steady_withCrp s _).trans (steady_raise _ _)
  · exact steady_withCrp s _

theorem steady_switchToPatching : Steady s s.switchToPatching := by
  unfold State.switchToPatching
  split
  · exact .refl s
  · next sc found =>
    split
    · exact .refl s
    · exact .setSeng (by simp [State.scanKey, found, Scan.withChoices_key]) rfl rfl

theorem steady_engineMalformed (frame : Word) (line : Nat) : Steady s (s.engineMalformed frame line) := by
  unfold State.engineMalformed
  split
  · exact .refl s
  · split
    · exact steady_switchToPatching s
    · exact .refl s

theorem steady_engineAbandoned (i : SlotId) : Steady s (s.engineAbandoned i) := by
  unfold State.engineAbandoned
  split
  · exact .refl s
  · split
    · exact steady_switchToPatching s
    · exact .refl s

theorem steady_clearPending (frame : Word) : Steady s (s.clearPending frame) := by
  unfold State.clearPending
  split
  · exact .refl s
  · split
    · exact .setSsch rfl rfl fun _ => rfl
    · exact .refl s

theorem steady_abandonCapture (i : SlotId) : Steady s (s.abandonCapture i) := by
  have undone : Steady s (s.undoCapture i) := .of_frame (by simp) (by simp) (by simp) (by simp) (by simp) (by simp)
  unfold State.abandonCapture
  split
  · exact (undone.trans (steady_clearPending _ _)).trans (steady_engineAbandoned _ i)
  · exact undone.trans (steady_engineAbandoned _ i)

theorem steady_abandonFrame (frame : Word) : Steady s (s.abandonFrame frame) := by
  unfold State.abandonFrame
  split
  · exact steady_abandonCapture s _
  · exact .refl s

theorem steady_malformed (frame : Word) (k : Nat) : Steady s (s.malformed frame k) := by
  have closed : Steady s (s.closeCheck.raise .malformedFrame) :=
    .of_frame (by simp) (by simp) (by simp) (by simp) (by simp) (by simp)
  exact ((closed.trans (steady_abandonFrame _ frame)).trans (steady_clearPending _ frame)).trans
    (steady_engineMalformed _ frame k)

theorem steady_cutArriving : Steady s s.cutArriving := by
  unfold State.cutArriving
  split
  · exact steady_malformed s _ _
  · exact .refl s
  · exact .refl s

theorem steady_captureLine (frame : Word) (line : Nat) (pixels : List GamePixel) :
    Steady s (s.captureLine frame line pixels) := by
  unfold State.captureLine
  split
  · exact .refl s
  · split
    · exact .of_frame rfl rfl rfl rfl rfl rfl
    · exact (steady_abandonCapture s _).trans (steady_raise _ _)

theorem steady_engineLine (frame : Word) (line start : Nat) (pixels : List GamePixel) :
    Steady s (s.engineLine frame line start pixels) := by
  unfold State.engineLine
  split
  · exact .refl s
  · next sc found =>
    split
    · exact .setSeng (by simp [State.scanKey, found]) rfl rfl
    · exact .refl s

theorem steady_takeLineStart : Steady s s.takeLineStart := by
  unfold State.takeLineStart
  split
  · exact .refl s
  · unfold State.arrivingLineStart
    split
    · exact steady_malformed s _ _
    · split
      · exact .of_frame rfl rfl rfl rfl rfl rfl
      · exact steady_malformed s _ _
  · exact steady_malformed s _ _

theorem steady_takeLineEnd (pixels : List GamePixel) : Steady s (s.takeLineEnd pixels) := by
  unfold State.takeLineEnd
  split
  · exact .refl s
  · exact .refl s
  · next f _ =>
    split
    · split
      · have counted (u : State) : Steady u (u.countLine f) :=
          .of_frame (by simp) (by simp) (by simp) (by simp) (by simp) (by simp)
        exact ((steady_captureLine s _ _ _).trans (steady_engineLine _ _ _ _ _)).trans (counted _)
      · exact steady_malformed s _ _
    · exact .refl s

theorem steady_takeBlanking : Steady s s.takeBlanking := by
  unfold State.takeBlanking
  split
  · exact .refl s
  · exact steady_malformed s _ _
  · exact .of_frame rfl rfl rfl rfl rfl rfl

theorem steady_lineOverdue : Steady s s.lineOverdue := by
  unfold State.lineOverdue
  split
  · exact .refl s
  · exact .refl s
  · split
    · exact steady_malformed s _ _
    · exact .refl s

theorem steady_transferEnds (x : Transfer) : Steady s (s.transferActs x).portFreed := by
  have kept : Steady s (s.transferActs x) := by
    cases x with
    | captureWrite i line =>
      exact .of_frame (by simp [State.transferActs]) (by simp) (by simp [State.transferActs])
        (by simp [State.transferActs]) (by simp) (by simp)
    | scanRead i line wanted =>
      cases wanted
      · exact .refl s
      · show Steady s (s.keepSlotLine i line)
        unfold State.keepSlotLine
        split
        · exact .refl s
        · next sc found =>
          split
          · exact .setSeng (by simp [State.scanKey, found]) rfl rfl
          · exact .refl s
    | overlayRead p line wanted =>
      cases wanted
      · exact .refl s
      · exact .of_frame (by simp) (by simp) (by simp [State.transferActs]) (by simp [State.transferActs]) (by simp)
          (by simp)
    | overlayWrite e buffered =>
      exact .of_frame (by simp) (by simp) (by simp [State.transferActs]) (by simp [State.transferActs]) (by simp)
        (by simp)
  exact kept.trans (.of_frame (by simp) (by simp) (by simp) (by simp) (by simp) (by simp))

theorem steady_lfsBeforeStart (sc : Scan) (frame : Word) (found : s.seng.scan = some sc) :
    Steady s (s.lfsBeforeStart sc frame) := by
  have moved (before final : Crp) : Steady s
      ((s.withCrp final).setSeng { s.seng with scan := some (sc.recordAfterLfs before final) }) :=
    (steady_withCrp s final).trans (.setSeng (by simp [State.scanKey, found, Scan.recordAfterLfs_key]) rfl rfl)
  unfold State.lfsBeforeStart
  dsimp only
  split
  · exact (moved _ _).trans (steady_raise _ _)
  · exact moved _ _

theorem steady_cadenceInScan (frame : Word) : Steady s (s.cadenceInScan frame) := by
  unfold State.cadenceInScan
  split
  · next sc found =>
    split
    · exact (steady_drawn s).trans (steady_lfsBeforeStart _ sc frame (by simpa using s.startedNow_eq_some found))
    · exact (steady_drawn s).trans (steady_cadenceLfs _ _ _)
  · exact steady_cadenceLfs s _ _

theorem steady_emitLine (sc : Scan) (made : Produced) (coupled : Bool)
    (key : s.scanKey = some (sc.scanSource, sc.width, sc.lines)) : Steady s (s.emitLine sc made coupled) :=
  ⟨sameRun_emitLine s sc made coupled key, by
    rw [State.emitLine_eq sc made.pixels made.patched coupled s]; exact ⟨rfl, rfl, rfl, rfl⟩, by
    rw [State.emitLine_eq sc made.pixels made.patched coupled s]; rfl, by simp, by simp⟩

theorem steady_outputLine (sc : Scan) (found : s.seng.scan = some sc) : Steady s (s.outputLine sc) := by
  have key := State.scanKey_of_scan found
  unfold State.outputLine
  split
  · exact steady_emitLine s sc _ _ key
  · split
    · have switched : Steady s s.switchToPatching.serve := (steady_switchToPatching s).trans (steady_serve _)
      dsimp only
      split
      · next sc' found' => exact switched.trans (steady_emitLine _ sc' _ _ (State.scanKey_of_scan found'))
      · exact switched
    · exact steady_emitLine s sc _ _ key

theorem steady_markOpening (k : Option Kept) : Steady s (s.markOpening k) :=
  ⟨sameRun_markOpening s k, ⟨rfl, rfl, rfl, rfl⟩, rfl, id, rfl⟩

theorem steady_resolveCapture : Steady s s.resolveCapture := by
  unfold State.resolveCapture
  split
  · exact steady_abandonCapture s _
  · exact .refl s

theorem steady_openFrame (frame : Word) : Steady s (s.openFrame frame) :=
  .of_frame (by simp) (by simp) (by simp) (by simp) (by simp) (by simp)

theorem plainCommand_commitPending (tag : Byte) (c : Command) (plain : plainCommand c = true) :
    (commandEffect tag c s).tbc.commitPending = s.tbc.commitPending := by
  cases c with
  | start | stop | softReset | resetCadence | commit marker => cases plain
  | writeTonePoints channel first points | writeRegion r | setFill red green blue | selectProfile index
  | discardShadow =>
    simp only [commandEffect, writeTonePointsEffect, writeRegionEffect, setFillEffect, selectProfileEffect,
      discardShadowEffect]
    (repeat' split) <;> rfl
  | _ => simp [commandEffect]

theorem steady_plainCommand (tag : Byte) (c : Command) (plain : plainCommand c = true) :
    Steady s (commandEffect tag c s) := by
  obtain ⟨clock, pins, -, -, -, -, ssch, seng, -, -, dctl⟩ := plainCommand_frame s tag c plain
  exact ⟨.of_frame ssch dctl seng, ⟨clock, pins, congrArg _ ssch, congrArg _ seng⟩, congrArg _ seng,
    fun none => by rwa [ssch], plainCommand_commitPending s tag c plain⟩

end Sys2Proof.Machine

namespace Sys2Proof.Machine

open State

/-! ### The scheduler's invariants along the acts (R67, R75, R86, R105) -/

/-- A scan that starts finds the minimum timer EXPIRED, or running to a time that has come. -/
def State.Timely (s t : State) : Prop :=
  t.seng.scan.isSome = true → t.seng.sequence ≠ s.seng.sequence →
    ∃ due, (s.ssch.min = .expired due ∨ s.ssch.min = .running due) ∧ due ≤ t.microseconds

/-- `t` keeps the scheduler's invariants after `s`, and a scan that has started between them was not early. -/
structure State.Beats (s t : State) : Prop where
  sched : SchedulerInv t
  min : MinInv s → MinInv t
  timely : MinInv s → Timely s t

section
variable {s t u : State}

theorem SchedulerInv.of_steady (h : SchedulerInv s) (steady : Steady s t) : SchedulerInv t := by
  obtain ⟨running, scanning, output, off⟩ := h
  rw [← steady.state, ← steady.dctl] at running
  rw [← State.scanKey_isSome, ← steady.scan, ← steady.state, State.scanKey_isSome] at scanning
  rw [← steady.output, ← steady.state] at output
  refine ⟨running, scanning, output, fun quiet => ?_⟩
  obtain ⟨pending, commit⟩ := off (steady.state ▸ quiet)
  exact ⟨steady.pending pending, steady.commit.trans commit⟩

/-- The minimum timer's invariant speaks of the timer, the clock and the reset line, and of OPEN. -/
theorem MinInv.of_times (h : MinInv s) (times : SameTimes s t)
    (opens : t.ssch.state = .opened → s.ssch.min.isExpired = true) : MinInv t := by
  obtain ⟨-, expired, held⟩ := h
  rw [← times.min] at opens
  rw [← times.microseconds, ← times.min] at expired
  rw [← times.pins, ← times.min] at held
  exact ⟨opens, expired, held⟩

theorem MinInv.of_steady (h : MinInv s) (steady : Steady s t) : MinInv t :=
  h.of_times steady.toSameTimes fun opened => h.1 (steady.state ▸ opened)

/-- With the minimum timer EXPIRED its time has run. -/
theorem MinInv.timely (h : MinInv s) (expired : s.ssch.min.isExpired = true)
    (clock : t.microseconds = s.microseconds) : Timely s t := by
  intro _ _
  obtain ⟨-, run, -⟩ := h
  cases min : s.ssch.min with
  | expired due => exact ⟨due, .inl rfl, clock ▸ run due min⟩
  | running due => rw [min] at expired; cases expired
  | idle => rw [min] at expired; cases expired

theorem State.Timely.of_sequence (h : t.seng.sequence = s.seng.sequence) : Timely s t := fun _ new => absurd h new

theorem State.Timely.of_no_scan (h : t.seng.scan = none) : Timely s t := fun some => by rw [h] at some; cases some

namespace State.Beats

theorem of_steady (h : SchedulerInv s) (steady : Steady s t) : Beats s t :=
  ⟨h.of_steady steady, fun min => min.of_steady steady, fun _ => .of_sequence steady.sequence⟩

theorem refl (h : SchedulerInv s) : Beats s s := of_steady h (.refl s)

/-- What happens before, without the times of the scheduler. -/
theorem after_times (h : Beats u t) (times : SameTimes s u)
    (opens : MinInv s → u.ssch.state = .opened → s.ssch.min.isExpired = true) : Beats s t := by
  refine ⟨h.sched, fun min => h.min (min.of_times times (opens min)), fun min => ?_⟩
  have timely := h.timely (min.of_times times (opens min))
  unfold Timely at *
  rwa [times.min, times.sequence] at timely

theorem after_steady (h : Beats u t) (steady : Steady s u) : Beats s t :=
  h.after_times steady.toSameTimes fun min opened => min.1 (steady.state ▸ opened)

theorem then_steady (h : Beats s t) (steady : Steady t u) : Beats s u := by
  refine ⟨h.sched.of_steady steady, fun min => (h.min min).of_steady steady, fun min => ?_⟩
  have timely := h.timely min
  unfold Timely at *
  rwa [steady.sequence, ← State.scanKey_isSome, steady.scan, State.scanKey_isSome, steady.microseconds]

theorem answered (h : Beats s t) (tag code : Byte) (status : Status) (payload : List Byte) :
    Beats s (t.addReply tag code status payload) := h.then_steady (steady_addReply t _ _ _ _)

theorem served (h : Beats s t) : Beats s t.serve := h.then_steady (steady_serve t)

end State.Beats

/-- The scheduler in HOLD or OPEN. -/
theorem SchedulerInv.waiting (state : s.ssch.state = .hold ∨ s.ssch.state = .opened) (running : s.dctl = .running)
    (quiet : s.seng.scan = none) (output : s.seng.output = .blanking) : SchedulerInv s := by
  rcases state with state | state <;> simp [SchedulerInv, state, running, quiet, output]

/-! ### Scan starts -/

/-- What a scan start leaves of what the scheduler's invariants look at. -/
theorem State.startScan_beat (s : State) (r : StartReason) :
    (s.startScan r).ssch.state = .scan ∧ (s.startScan r).seng.scan.isSome = true
      ∧ (s.startScan r).seng.output = .scanning ∧ (s.startScan r).seng.sequence = s.seng.sequence + 1
      ∧ ∃ due, (s.startScan r).ssch.min = .running due := by
  simp [State.startScan, State.engineAtStart, State.schedulerAtStart]

theorem SchedulerInv.startScan (running : s.dctl = .running) (r : StartReason) : SchedulerInv (s.startScan r) := by
  obtain ⟨state, scan, output, -, -⟩ := s.startScan_beat r
  unfold SchedulerInv
  simp [state, scan, output, running]

theorem MinInv.startScan (released : s.pins.reset = false) (r : StartReason) : MinInv (s.startScan r) := by
  obtain ⟨state, -, -, -, due, min⟩ := s.startScan_beat r
  unfold MinInv
  simp [state, min, released]

namespace State.Beats

/-- A scan starts with the minimum timer EXPIRED. -/
theorem startScan_after (steady : Steady s u) (running : s.dctl = .running) (released : s.pins.reset = false)
    (expired : MinInv s → s.ssch.min.isExpired = true) (r : StartReason) : Beats s (u.startScan r) := by
  refine ⟨.startScan (by rw [steady.dctl, running]) r, fun _ => .startScan (by rw [steady.pins, released]) r,
    fun min => min.timely (expired min) ?_⟩
  rw [← steady.microseconds]
  simp [State.microseconds]

theorem startScan (running : s.dctl = .running) (released : s.pins.reset = false)
    (expired : MinInv s → s.ssch.min.isExpired = true) (r : StartReason) : Beats s (s.startScan r) :=
  startScan_after (.refl s) running released expired r

theorem takeOpen (h : SchedulerInv s) (released : s.pins.reset = false) (opened : s.ssch.state = .opened) :
    Beats s s.takeOpen := by
  have running : s.dctl = .running := h.1.mpr (by simp [opened])
  have starts := startScan running released fun min => min.1 opened
  unfold State.takeOpen
  split <;> split
  · exact starts _
  · exact refl h
  · exact starts _
  · exact refl h

theorem takeMin (h : SchedulerInv s) (released : s.pins.reset = false) (hold : s.ssch.state = .hold)
    (expired : s.ssch.min.isExpired = true) : Beats s s.takeMin := by
  have running : s.dctl = .running := h.1.mpr (by simp [hold])
  have quiet : s.seng.scan = none := State.scanKey_eq_none.mp (h.runInv.scan_none (by simp [hold]))
  obtain ⟨-, -, output, -⟩ := h
  unfold State.takeMin
  split
  · exact startScan running released (fun _ => expired) _
  · have opened : SchedulerInv (s.setSsch { s.ssch with state := .opened }) :=
      .waiting (.inr rfl) running quiet (by simpa [hold] using output)
    exact (takeOpen opened released rfl).after_times ⟨rfl, rfl, rfl, rfl⟩ fun _ _ => expired

theorem takeActive (h : SchedulerInv s) (released : s.pins.reset = false) : Beats s s.takeActive := by
  unfold State.takeActive
  split
  · next hold =>
    split
    · next expired => exact takeMin h released hold expired
    · exact refl h
  · next opened => exact takeOpen h released opened
  · exact refl h
  · exact refl h

theorem takeActive_after (steady : Steady s u) (h : SchedulerInv s) (released : s.pins.reset = false) :
    Beats s u.takeActive :=
  (takeActive (h.of_steady steady) (by rw [steady.pins, released])).after_steady steady

/-! ### Scan ends and OFF -/

/-- The scheduler reaches OFF with no scan in flight. -/
theorem reachOff (quiet : s.seng.scan = none) : Beats s s.reachOff := by
  have scan : s.reachOff.seng.scan = none := by
    rw [← State.scanKey_eq_none, State.reachOff_scanKey, State.scanKey_eq_none, quiet]
  have left : s.reachOff.ssch.state = .off ∧ s.reachOff.dctl = .standby ∧ s.reachOff.seng.output = .idle
      ∧ s.reachOff.ssch.pending = none ∧ s.reachOff.tbc.commitPending = none ∧ SameTimes s s.reachOff := by
    rw [State.reachOff_eq]
    unfold State.offReached
    dsimp only
    split
    · next waiting => exact ⟨rfl, rfl, rfl, rfl, waiting, rfl, rfl, rfl, rfl⟩
    · exact ⟨rfl, rfl, rfl, rfl, rfl, rfl, rfl, rfl, rfl⟩
  obtain ⟨state, dctl, output, pending, commit, times⟩ := left
  refine ⟨⟨?_, ?_, ?_, fun _ => ⟨pending, commit⟩⟩, fun min => min.of_times times ?_, fun _ => .of_no_scan scan⟩
  · simp [state, dctl]
  · simp [state, scan]
  · rw [output, state]
  · simp [state]

/-- The scheduler takes a scan end. -/
theorem afterScanEnd (running : s.dctl = .running) (released : s.pins.reset = false) (quiet : s.seng.scan = none)
    (output : s.seng.output = .blanking) : Beats s s.afterScanEnd := by
  unfold State.afterScanEnd
  split
  · exact reachOff quiet
  · have held : SchedulerInv (s.setSsch { s.ssch with state := .hold }) := .waiting (.inl rfl) running quiet output
    exact (takeActive held released).after_times ⟨rfl, rfl, rfl, rfl⟩ (by simp)

/-- A scan ends, or is cut short, and the scheduler takes its end. -/
theorem scanEnds (h : SchedulerInv s) (released : s.pins.reset = false) {sc : Scan} (found : s.seng.scan = some sc)
    (cut : Bool) : Beats s (s.engineScanEnd cut sc).afterScanEnd := by
  rw [State.engineScanEnd_eq]
  have running : s.dctl = .running := h.runInv.running_of_scan found
  exact (afterScanEnd (s := s.scanOver cut sc) running released rfl rfl).after_times ⟨rfl, rfl, rfl, rfl⟩
    fun min => min.1

theorem outputTime (h : SchedulerInv s) (released : s.pins.reset = false) : Beats s s.outputTime := by
  unfold State.outputTime
  split
  · exact refl h
  · next sc found =>
    split
    · exact refl h
    · split
      · split
        · exact of_steady h (steady_outputLine s sc found)
        · exact scanEnds h released found false
      · exact refl h

theorem forceStop (h : SchedulerInv s) (released : s.pins.reset = false) : Beats s s.forceStop := by
  unfold State.forceStop
  split
  · next sc found =>
    have drawn := steady_drawn s
    have found' : s.drawn.seng.scan = some sc := by simpa using found
    have ends (cut : Bool) : Beats s (s.drawn.engineScanEnd cut sc).afterScanEnd :=
      (scanEnds (h.of_steady drawn) (by simpa using released) found' cut).after_steady drawn
    split
    · split
      · exact ends false
      · exact ends true
    · exact scanEnds h released found true
  · exact refl h

/-! ### The live link and frame starts -/

theorem followLiveLock (h : SchedulerInv s) (released : s.pins.reset = false) : Beats s s.followLiveLock := by
  have told (u : State) (x : Lrx) (e : EventSource) (c : Crp) : Steady u (((u.setLrx x).raise e).withCrp c) :=
    .trans (.of_frame (by simp) (by simp) (by simp) (by simp) (by simp) (by simp)) (steady_withCrp _ c)
  unfold State.followLiveLock
  split
  · exact takeActive_after (told s _ _ _) h released
  · exact takeActive_after ((steady_cutArriving s).trans (told _ _ _ _)) h released
  · exact refl h
  · exact refl h

/-- A frame pends only outside OFF. -/
theorem pend (h : SchedulerInv s) (on : s.ssch.state ≠ .off) (frame : Word) : Beats s (s.pend frame) := by
  obtain ⟨running, scanning, output, -⟩ := h
  refine ⟨⟨running, scanning, output, fun off => absurd off on⟩, fun min => min.of_times ⟨rfl, rfl, rfl, rfl⟩ min.1,
    fun _ => .of_sequence rfl⟩

theorem reportLfs (h : SchedulerInv s) (released : s.pins.reset = false) (frame : Word) :
    Beats s (s.reportLfs frame) := by
  have pends (u : State) (steady : Steady s u) (on : s.ssch.state ≠ .off) : Beats s (u.pend frame) :=
    (pend (h.of_steady steady) (by rwa [steady.state]) frame).after_steady steady
  unfold State.reportLfs
  split
  · next opened => exact startScan (h.1.mpr (by simp [opened])) released (fun min => min.1 opened) _
  · next hold => exact pends _ (steady_cadenceLfs s _ _) (by simp [hold])
  · next scan => exact pends _ (steady_cadenceInScan s _) (by simp [scan])
  · exact of_steady h (steady_cadenceLfs s _ _)

theorem takeLfs (h : SchedulerInv s) (released : s.pins.reset = false) : Beats s s.takeLfs := by
  have numbered : Steady s s.cutArriving.numbered :=
    (steady_cutArriving s).trans (.of_frame rfl rfl rfl rfl rfl rfl)
  have reported := reportLfs (h.of_steady numbered) (by rw [numbered.pins, released])
    s.cutArriving.numbered.lrx.frameCounter
  rw [State.takeLfs_eq]
  exact ((reported.after_steady numbered).then_steady (steady_resolveCapture _)).then_steady (steady_openFrame _ _)

/-! ### Timers and plan points -/

/-- The time of MIN has run: what follows finds the timer EXPIRED where `s` has it running to a time that has come. -/
theorem minExpires (h : SchedulerInv s) (released : s.pins.reset = false) : Beats s s.minExpires := by
  unfold State.minExpires
  split
  · next run =>
    cases min : s.ssch.min with
    | expired due | idle => rw [min] at run; cases run
    | running due =>
      have past : due ≤ s.microseconds := by simpa [min, Timer.isDue] using run
      have expired := takeActive (s := s.setSsch { s.ssch with min := .expired due }) h released
      refine ⟨expired.sched, fun inv => expired.min ⟨fun _ => rfl, ?_, ?_⟩, fun _ some new => ?_⟩
      · rintro _ ⟨⟩
        exact past
      · simp [released]
      · exact ⟨due, .inr min, by simpa [State.microseconds] using past⟩
  · exact refl h

theorem deadlineExpires (h : SchedulerInv s) (released : s.pins.reset = false) : Beats s s.deadlineExpires := by
  unfold State.deadlineExpires
  split
  · exact takeActive_after (.setSsch rfl rfl id) h released
  · exact refl h

theorem freeRunExpires (h : SchedulerInv s) (released : s.pins.reset = false) : Beats s s.freeRunExpires := by
  unfold State.freeRunExpires
  split
  · exact takeActive_after (.setSsch rfl rfl id) h released
  · exact refl h

theorem repeatDue (h : SchedulerInv s) (released : s.pins.reset = false) (point : Word) (remaining : Nat) :
    Beats s (s.repeatDue point remaining) := by
  have told : Steady s (s.setSsch { s.ssch with planEmpty := s.ssch.planEmpty || remaining == 0 }) :=
    .setSsch rfl rfl id
  unfold State.repeatDue
  split
  · next opened =>
    exact startScan_after told (h.1.mpr (by simp [opened])) released (fun min => min.1 opened) _
  · split
    · exact of_steady h (told.trans (steady_withCrp _ _))
    · exact of_steady h told
  · exact of_steady h told
  · exact of_steady h told

theorem planTimerExpires (h : SchedulerInv s) (released : s.pins.reset = false) : Beats s s.planTimerExpires := by
  unfold State.planTimerExpires
  split
  · next point _ =>
    split
    · have advanced : Steady s (s.setCrp { s.crp with plan := s.crp.plan.advance, raised := some point }) :=
        .of_frame rfl rfl rfl rfl rfl rfl
      exact (repeatDue (h.of_steady advanced) released point _).after_steady advanced
    · exact refl h
  · exact refl h

/-! ### Commands -/

/-- START with no scan since reset opens at once, with MIN EXPIRED and neither DEADLINE nor FREE-RUN (R66, R67). -/
theorem leaveOff_first (first : s.ssch.lastStart = none) :
    s.leaveOff.ssch.state = .opened ∧ s.leaveOff.ssch.min = .expired s.microseconds
      ∧ s.leaveOff.ssch.deadline.isExpired = false ∧ s.leaveOff.ssch.freeRun.isExpired = false := by
  unfold State.leaveOff
  rw [first]
  exact ⟨rfl, rfl, rfl, rfl⟩

/-- START after an earlier run opens when MIN is EXPIRED, and holds otherwise (R82). -/
theorem leaveOff_again {last : Word} (again : s.ssch.lastStart = some last) :
    s.leaveOff.ssch.state = (if s.ssch.min.isExpired then .opened else .hold)
      ∧ s.leaveOff.ssch.min = s.ssch.min := by
  unfold State.leaveOff
  rw [again]
  exact ⟨rfl, rfl⟩

theorem takeActive_idle (opened : s.ssch.state = .opened) (deadline : s.ssch.deadline.isExpired = false)
    (freeRun : s.ssch.freeRun.isExpired = false) : s.takeActive = s := by
  unfold State.takeActive State.takeOpen
  rw [opened]
  cases s.lrx.link <;> simp [deadline, freeRun]

theorem startRun (h : SchedulerInv s) (released : s.pins.reset = false) (standby : s.dctl = .standby) :
    Beats s s.startRun := by
  have quiet : s.seng.scan = none := State.scanKey_eq_none.mp (h.runInv.scan_none_of_dctl (by simp [standby]))
  refine then_steady ?_ (steady_markOpening _ _)
  cases started : s.ssch.lastStart with
  | none =>
    obtain ⟨state, min, deadline, freeRun⟩ := leaveOff_first started
    rw [takeActive_idle (by simpa using state) (by simpa using deadline) (by simpa using freeRun)]
    refine ⟨.waiting (.inr state) rfl (by simpa using quiet) rfl, fun _ => ?_, fun _ => .of_sequence (by simp)⟩
    simp [MinInv, state, min, Timer.isExpired, released, State.microseconds]
  | some last =>
    obtain ⟨state, min⟩ := leaveOff_again started
    refine after_times (takeActive (.waiting ?_ rfl (by simpa using quiet) rfl) (by simpa using released))
      ⟨by simp, by simp, min, by simp⟩ fun _ opened => ?_
    · simp only [State.setSeng_ssch, State.setDctl_ssch, state]
      split <;> simp
    · simp only [State.setSeng_ssch, State.setDctl_ssch, state] at opened
      by_contra running
      simp [running] at opened

theorem startEffect (h : SchedulerInv s) (released : s.pins.reset = false) (tag : Byte) :
    Beats s (startEffect tag s) := by
  unfold Machine.startEffect
  split
  · exact (refl h).answered _ _ _ _
  · next standby =>
    split
    · exact (refl h).answered _ _ _ _
    · split
      · exact (refl h).answered _ _ _ _
      · exact ((startRun h released (not_not.mp standby)).answered _ _ _ _).served

theorem stopEffect (h : SchedulerInv s) (released : s.pins.reset = false) (tag : Byte) :
    Beats s (stopEffect tag s) := by
  have off (out : s.ssch.state ≠ .scan) : Beats s s.reachOff :=
    reachOff (State.scanKey_eq_none.mp (h.runInv.scan_none out))
  unfold Machine.stopEffect
  split
  · exact (refl h).answered _ _ _ _
  · next hold => exact ((off (by simp [hold])).answered _ _ _ _).served
  · next opened => exact ((off (by simp [opened])).answered _ _ _ _).served
  · split
    · exact ((forceStop h released).answered _ _ _ _).served
    · have asked : Beats s (s.setSsch { s.ssch with stopRequested := true }) := of_steady h (.setSsch rfl rfl id)
      exact asked.answered _ _ _ _

theorem resetCadenceEffect (h : SchedulerInv s) (released : s.pins.reset = false) (tag : Byte) :
    Beats s (resetCadenceEffect tag s) :=
  ((takeActive_after (steady_withCrp s _) h released).answered _ _ _ _).served

/-- The scan START started is started again, with the sequence number it had (R131, log 52). -/
theorem commitAtOpening (running : s.dctl = .running) (released : s.pins.reset = false) (marker : Half) (sc : Scan)
    (k : Kept) : Beats s (s.commitAtOpening marker sc k) := by
  have running' : (s.beforeOpening sc k).dctl = .running := by simpa using running
  have released' : (s.beforeOpening sc k).pins.reset = false := by simpa using released
  refine ⟨.startScan (by exact running') _, fun _ => .startScan (by exact released') _, fun _ => .of_sequence ?_⟩
  have counted : ((s.beforeOpening sc k).setTbc
      { (s.beforeOpening sc k).tbc with commitPending := some marker }).seng.sequence = s.seng.sequence - 1 := rfl
  rw [State.commitAtOpening, (State.startScan_beat _ _).2.2.2.1, counted, BitVec.sub_add_cancel]

theorem commitEffect (h : SchedulerInv s) (released : s.pins.reset = false) (tag : Byte) (marker : Half) :
    Beats s (commitEffect tag marker s) := by
  unfold Machine.commitEffect
  split
  · exact (refl h).answered _ _ _ _
  · next free =>
    have free : s.tbc.commitPending = none := by simpa using free
    split
    · exact (refl h).answered _ _ _ _
    · split
      · next running =>
        unfold commitInRun
        split
        · exact ((commitAtOpening running released marker _ _).answered _ _ _ _).served
        · have waits : Beats s (s.setTbc { s.tbc with commitPending := some marker }) :=
            ⟨⟨h.1, h.2.1, h.2.2.1, fun off => absurd off (h.1.mp running)⟩, id, fun _ => .of_sequence rfl⟩
          exact waits.answered _ _ _ _
      · have taken : Steady s (s.takeCommit marker) := ⟨.of_frame rfl rfl rfl, ⟨rfl, rfl, rfl, rfl⟩, rfl, id, free.symm⟩
        unfold State.commitWithoutScan
        split
        · exact (of_steady h (taken.trans (steady_withCrp _ _))).answered _ _ _ _
        · exact (of_steady h taken).answered _ _ _ _

/-- A reset leaves the scheduler OFF with its timers IDLE. -/
theorem of_reset (ssch : t.ssch = Ssch.initial) (seng : t.seng = Seng.initial) (tbc : t.tbc = Tbc.initial)
    (dctl : t.dctl ≠ .running) : Beats s t := by
  refine ⟨?_, fun _ => ?_, fun _ => .of_no_scan (by rw [seng]; rfl)⟩
  · simp [SchedulerInv, ssch, seng, tbc, dctl, Ssch.initial, Seng.initial, Tbc.initial]
  · simp [MinInv, ssch, Ssch.initial]

theorem command (h : SchedulerInv s) (released : s.pins.reset = false) (tag : Byte) (c : Command) :
    Beats s (commandEffect tag c s) := by
  have plain (c : Command) (hc : plainCommand c = true) : Beats s (commandEffect tag c s) :=
    of_steady h (steady_plainCommand s tag c hc)
  cases c with
  | start => exact startEffect h released tag
  | stop => exact stopEffect h released tag
  | resetCadence => exact resetCadenceEffect h released tag
  | commit marker => exact commitEffect h released tag marker
  | softReset =>
    show Beats s (softResetEffect tag s)
    unfold softResetEffect
    split
    · exact (refl h).answered _ _ _ _
    · split
      · exact (refl h).answered _ _ _ _
      · exact of_reset rfl rfl rfl (by simp)
  | _ => exact plain _ rfl

/-- At the end of LOADING the scheduler is OFF, in STANDBY as in LOADING. -/
theorem loadingEnds (h : SchedulerInv s) (released : s.pins.reset = false) : Beats s s.loadingEnds := by
  unfold State.loadingEnds
  split
  · next due owed loading =>
    split
    · have off : s.ssch.state = .off := h.runInv.off_of_dctl (by simp [loading])
      have stood (p : Pru) : SchedulerInv ((s.setPru p).setDctl .standby) := by
        obtain ⟨-, scanning, output, quiet⟩ := h
        exact ⟨by simp [off], scanning, output, quiet⟩
      have overlay (u : State) : Steady u (u.overlayAtLoadingEnd owed) :=
        .of_frame (by simp) (by simp) (by simp) (by simp) (by simp) (by simp)
      have followed {u : State} (sched : SchedulerInv u) (released : u.pins.reset = false) :
          Beats u (u.overlayAtLoadingEnd owed).followLiveLock :=
        (followLiveLock (sched.of_steady (overlay u)) (by simpa using released)).after_steady (overlay u)
      have ends := followed (stood { s.pru with limits := limitsAtLoading s.lfb.words }) released
      exact (ends.after_times (s := s) ⟨rfl, rfl, rfl, rfl⟩ fun min => min.1).served
    · exact refl h
  · exact refl h
  · exact refl h

end State.Beats

/-- Every act keeps the scheduler's invariants. -/
theorem Act.beats (h : SchedulerInv s) (released : s.pins.reset = false) (act : Act s t) : Beats s t := by
  induction act with
  | idle => exact .refl h
  | serve _ ih => exact ih.served
  | loadingEnds => exact .loadingEnds h released
  | followLiveLock => exact .followLiveLock h released
  | takeLfs => exact .takeLfs h released
  | takeLineStart => exact .of_steady h (steady_takeLineStart s)
  | takeLineEnd pixels => exact .of_steady h (steady_takeLineEnd s pixels)
  | takeBlanking => exact .of_steady h (steady_takeBlanking s)
  | lineOverdue => exact .of_steady h (steady_lineOverdue s)
  | transferEnds x => exact .of_steady h (steady_transferEnds s x)
  | minExpires => exact .minExpires h released
  | deadlineExpires => exact .deadlineExpires h released
  | freeRunExpires => exact .freeRunExpires h released
  | planTimerExpires => exact .planTimerExpires h released
  | outputTime => exact .outputTime h released
  | packetBad => exact .of_steady h (steady_raise s _)
  | refused tag code status => exact (Beats.refl h).answered _ _ _ _
  | command tag c _ => exact .command h released tag c
  | maintenanceDue | maintenanceEnds | followOverlayLock | overlayFrameStart | overlayLineStart | overlayLineEnd
  | fuseProgramEnd | fuseLockEnd =>
    exact .of_steady h (.of_frame (by simp) (by simp) (by simp) (by simp) (by simp) (by simp))

end

/-- The scheduler's invariant, with a reset line that finds LOADING: what a release needs (R176). -/
def State.SchedulerUp (s : State) : Prop := SchedulerInv s ∧ (s.pins.reset = true → s.dctl.isLoading = true)

theorem State.SchedulerUp.of_steady {s t : State} (h : s.SchedulerUp) (steady : Steady s t) : t.SchedulerUp := by
  obtain ⟨sched, loading⟩ := h
  refine ⟨sched.of_steady steady, ?_⟩
  rwa [steady.pins, steady.dctl]

theorem steady_fprogFalls (s : State) : Steady s s.fprogFalls :=
  .of_frame (by simp) (by simp) (by simp) (by simp) (by simp) (by simp)

theorem actsLead_schedulerInv : ActsLead State.SchedulerUp SchedulerInv where
  dequeue _ _ h := h
  after _ _ _ h := h
  setPins _ _ same h := ⟨h.1, by rw [State.setPins_pins, same]; exact h.2⟩
  fprogFalls s _ h := h.of_steady (steady_fprogFalls s)
  held _ _ h := h.1
  assertReset _ _ := (Beats.of_reset (s := State.reset) rfl rfl rfl (by simp [State.assertReset])).sched
  releaseReset s asserted h := by
    obtain ⟨⟨running, scanning, output, quiet⟩, loading⟩ := h
    refine ⟨?_, scanning, output, quiet⟩
    have off : s.ssch.state = .off := by
      by_contra on
      rw [running.mpr on] at loading
      exact absurd (loading asserted) (by decide)
    simp [State.releaseReset, off]
  act _ _ released h act := (act.beats h.1 released).sched

theorem actsLead_minInv : ActsLead (fun s => SchedulerInv s ∧ MinInv s) MinInv where
  dequeue _ _ h := h
  after s dt _ h := by
    obtain ⟨sched, opened, expired, held⟩ := h
    refine ⟨sched, opened, fun due run => (expired due run).trans ?_, held⟩
    exact Nat.div_le_div_right (Nat.le_add_right s.clock dt)
  setPins _ _ same h := ⟨h.1, h.2.1, h.2.2.1, fun asserted => h.2.2.2 (same ▸ asserted)⟩
  fprogFalls s _ h := ⟨h.1.of_steady (steady_fprogFalls s), h.2.of_steady (steady_fprogFalls s)⟩
  held _ _ h := h.2
  assertReset _ _ := ⟨by rintro ⟨⟩, by rintro _ ⟨⟩, fun _ => rfl⟩
  releaseReset s asserted h := by
    obtain ⟨-, opened, -, held⟩ := h
    have idle : s.ssch.min = .idle := held asserted
    refine ⟨opened, fun due run => ?_, fun _ => idle⟩
    exact Timer.noConfusion (idle.symm.trans run)
  act _ _ released h act := (act.beats h.1 released).min h.2

/-- Settles O57: the acts keep the scheduler's invariant and the minimum timer's, the first through a release because
the reset line finds LOADING, the second because MIN is IDLE there. -/
theorem schedulerKept : Obligations.SchedulerKept := by
  intro s t sched fuse taken
  exact ⟨actsLead_schedulerInv.step taken ⟨sched, fuse.2.2⟩, fun min => actsLead_minInv.step taken ⟨sched, min⟩⟩

/-- A state `u` that stands where the step from `s` has not acted yet. -/
def State.Before (s u : State) : Prop :=
  SchedulerInv u ∧ MinInv u ∧ u.ssch.min = s.ssch.min ∧ u.seng.sequence = s.seng.sequence

theorem actsLead_timely (s : State) : ActsLead s.Before s.Timely where
  dequeue u rest h := h
  after u dt released h := by
    obtain ⟨sched, min, same⟩ := h
    obtain ⟨sched, min⟩ := actsLead_minInv.after u dt released ⟨sched, min⟩
    exact ⟨sched, min, same⟩
  setPins u p same h := by
    obtain ⟨sched, min, kept⟩ := h
    obtain ⟨sched, min⟩ := actsLead_minInv.setPins u p same ⟨sched, min⟩
    exact ⟨sched, min, kept⟩
  fprogFalls u _ h := by
    obtain ⟨sched, min, timer, sequence⟩ := h
    have steady := steady_fprogFalls u
    exact ⟨sched.of_steady steady, min.of_steady steady, steady.min.trans timer, steady.sequence.trans sequence⟩
  held u _ h := .of_sequence h.2.2.2
  assertReset u _ := .of_no_scan rfl
  releaseReset u _ h := .of_sequence h.2.2.2
  act u t released h act := by
    obtain ⟨sched, min, timer, sequence⟩ := h
    have timely := (act.beats sched released).timely min
    unfold State.Timely at *
    rwa [timer, sequence] at timely

/-- Settles O56: the only starts are those of an EXPIRED minimum timer, whose time has run, and of one whose expiry the
step takes. -/
theorem startsWaitForMin : Obligations.StartsWaitForMin := by
  intro s t sched min taken scan next
  refine (actsLead_timely s).step taken ⟨sched, min, rfl, rfl⟩ scan ?_
  rw [next]
  simp

end Sys2Proof.Machine

namespace Sys2Proof.Machine

open State

/-! ### The fuse words along the acts (R173 to R177) -/

/-- The fuse words of `g` are those of `f`, or a fuse operation of `f` has set bits of one of them. -/
inductive Lfb.Burned (f g : Lfb) : Prop
  | kept (words : g.words = f.words)
  | burned (working : f.engine.isIdle = false) (word : Fin 8) (bits : Half)
      (words : g.words = f.words.set word.val (f.words[word] ||| bits) word.isLt)

/-- Every bit of `f` is a bit of `g`. -/
def Lfb.keepsBits (f g : Lfb) : Prop := ∀ k : Fin 8, f.words[k] &&& g.words[k] = f.words[k]

section
variable {f g h : Lfb} {s t : State}

theorem Lfb.keepsBits.of_words (same : g.words = f.words) : f.keepsBits g := by
  intro k
  rw [same, BitVec.and_self]

theorem Lfb.keepsBits.trans (first : f.keepsBits g) (second : g.keepsBits h) : f.keepsBits h := by
  intro k
  rw [← first k, BitVec.and_assoc, second k]

theorem Lfb.Burned.keepsBits (burned : f.Burned g) : f.keepsBits g := by
  cases burned with
  | kept words => exact .of_words words
  | burned working word bits words =>
    intro k
    rw [words]
    simp only [Fin.getElem_fin, Vector.getElem_set]
    split
    · next same =>
      ext i hi
      simp only [← same, BitVec.getElem_and, BitVec.getElem_or]
      cases (f.words[word.val])[i] <;> simp
    · exact BitVec.and_self

/-- With no fuse operation in flight the words stay. -/
theorem Lfb.Burned.of_idle (burned : f.Burned g) (idle : f.engine.isIdle = true) : g.words = f.words := by
  cases burned with
  | kept words => exact words
  | burned working => rw [idle] at working; cases working

theorem Lfb.Burned.of_lfb (same : g = f) : f.Burned g := .kept (congrArg _ same)

/-- A program ends, or is interrupted, with bits of its word set. -/
theorem Lfb.Burned.programmed {tag : Byte} {word : Fin 8} {value : Half} {due : Nat}
    (engine : f.engine = .programming tag word value due) (bits : Half)
    (words : g.words = f.words.set word.val (f.words[word] ||| bits) word.isLt) : f.Burned g :=
  .burned (by rw [engine]; rfl) word bits words

theorem burned_fprogFalls (s : State) : s.lfb.Burned s.fprogFalls.lfb := by
  cases engine : s.lfb.engine with
  | idle => rw [State.fprogFalls_of_idle engine]; exact .of_lfb rfl
  | programming tag word value due =>
    rw [State.fprogFalls_of_programming engine, State.programInterrupted_eq]
    exact .programmed engine (value &&& Config.fuseBitsSet s.free) rfl
  | locking tag due => rw [State.fprogFalls_of_locking engine]; exact .kept rfl

theorem burned_fuseProgramEnd (s : State) : s.lfb.Burned s.fuseProgramEnd.lfb := by
  cases engine : s.lfb.engine with
  | idle => rw [(State.fuseEnds_of_idle engine).1]; exact .of_lfb rfl
  | programming tag word value due =>
    rw [State.fuseProgramEnd_of_programming engine]
    split
    · rw [State.programEnds_eq]; exact .programmed engine value rfl
    · exact .of_lfb rfl
  | locking tag due => rw [State.fuseProgramEnd_of_locking engine]; exact .of_lfb rfl

/-- A lock that has run its full time sets every bit of W7 (R175). -/
theorem burned_fuseLockEnd (s : State) : s.lfb.Burned s.fuseLockEnd.lfb := by
  cases engine : s.lfb.engine with
  | idle => rw [(State.fuseEnds_of_idle engine).2]; exact .of_lfb rfl
  | programming tag word value due => rw [State.fuseLockEnd_of_programming engine]; exact .of_lfb rfl
  | locking tag due =>
    rw [State.fuseLockEnd_of_locking engine]
    split
    · rw [State.lockEnds_eq]
      have full : (0xFFFF : Half) = s.lfb.words[(7 : Fin 8)] ||| 0xFFFF := (BitVec.or_allOnes (w := 16)).symm
      exact .burned (by rw [engine]; rfl) 7 0xFFFF (congrArg (s.lfb.words.set 7 ·) full)
    · exact .of_lfb rfl

theorem burned_cutFuses (s : State) : s.lfb.Burned s.cutFuses.lfb := by
  cases engine : s.lfb.engine with
  | idle => exact .kept (s.cutFuses_words (.inl engine))
  | programming tag word value due => exact .programmed engine _ (s.cutFuses_programming engine)
  | locking tag due => exact .kept (s.cutFuses_words (.inr (by rw [engine]; rfl)))

/-- No command sets a fuse bit: FUSE_PROGRAM and FUSE_LOCK start an operation, and SOFT_RESET reads the bank (R174,
R175, R177). -/
theorem commandEffect_words (s : State) (tag : Byte) (c : Command) :
    (commandEffect tag c s).lfb.words = s.lfb.words := by
  cases c with
  | softReset | fuseProgram word value | fuseLock =>
    simp only [commandEffect, softResetEffect, fuseProgramEffect, fuseLockEffect]
    (repeat' split) <;> simp [State.readFuses, State.resetBlocks]
  | _ => simp [commandEffect]

/-- The end of LOADING leaves the fuse bank and the input lines, and brings STANDBY (R176). -/
theorem loadingEnds_fuses (s : State) : s.loadingEnds.lfb = s.lfb ∧ s.loadingEnds.pins = s.pins
    ∧ (s.loadingEnds.dctl = s.dctl ∨ s.loadingEnds.dctl = .standby) := by
  unfold State.loadingEnds
  split
  · split
    · simp [State.endLoading]
    · exact ⟨rfl, rfl, .inl rfl⟩
  · exact ⟨rfl, rfl, .inl rfl⟩
  · exact ⟨rfl, rfl, .inl rfl⟩

theorem Act.burned (act : Act s t) : s.lfb.Burned t.lfb := by
  induction act with
  | serve _ ih => simpa using ih
  | command tag c _ => exact .kept (commandEffect_words _ tag c)
  | fuseProgramEnd => exact burned_fuseProgramEnd s
  | fuseLockEnd => exact burned_fuseLockEnd s
  | idle => exact .of_lfb rfl
  | loadingEnds => exact .of_lfb (loadingEnds_fuses s).1
  | _ => exact .of_lfb (by simp)

/-! ### The fuse invariant along the acts (R81, R173 to R177) -/

theorem FuseInv.of_frame (h : FuseInv s) (lfb : t.lfb = s.lfb) (dctl : t.dctl = s.dctl) (pins : t.pins = s.pins) :
    FuseInv t := by
  unfold FuseInv
  rw [lfb, dctl, pins]
  exact h

/-- With the reset line released and no fuse operation in flight nothing can be wrong. -/
theorem FuseInv.of_idle (idle : t.lfb.engine.isIdle = true) (up : t.pins.reset = true → t.dctl.isLoading = true) :
    FuseInv t := by
  refine ⟨fun working => ?_, fun locking => ?_, up⟩
  · rw [idle] at working; cases working
  · cases engine : t.lfb.engine <;> simp [engine, Engine.isIdle, Engine.isLocking] at idle locking

/-- The device may go to STANDBY whatever the fuse engine does. -/
theorem FuseInv.of_standby (h : FuseInv s) (released : s.pins.reset = false) (lfb : t.lfb = s.lfb)
    (pins : t.pins = s.pins) (dctl : t.dctl = s.dctl ∨ t.dctl = .standby) : FuseInv t := by
  rcases dctl with dctl | dctl
  · exact h.of_frame lfb dctl pins
  · refine ⟨fun working => ⟨?_, by rw [dctl]; rfl⟩, fun _ => dctl, fun asserted => ?_⟩
    · rw [lfb] at working ⊢; exact (h.1 working).1
    · rw [pins, released] at asserted; cases asserted

/-- A scan end leaves the device state, or OFF brings STANDBY (R80, R86). -/
theorem afterScanEnd_dctl (s : State) : s.afterScanEnd.dctl = s.dctl ∨ s.afterScanEnd.dctl = .standby := by
  unfold State.afterScanEnd
  split
  · exact .inr rfl
  · exact .inl (by simp)

theorem scanEnds_dctl (s : State) (cut : Bool) (sc : Scan) :
    (s.engineScanEnd cut sc).afterScanEnd.dctl = s.dctl ∨ (s.engineScanEnd cut sc).afterScanEnd.dctl = .standby := by
  simpa using afterScanEnd_dctl (s.engineScanEnd cut sc)

theorem outputTime_dctl (s : State) : s.outputTime.dctl = s.dctl ∨ s.outputTime.dctl = .standby := by
  unfold State.outputTime
  split
  · exact .inl rfl
  · split
    · exact .inl rfl
    · split
      · split
        · exact .inl (by simp)
        · exact scanEnds_dctl s false _
      · exact .inl rfl

theorem forceStop_dctl (s : State) : s.forceStop.dctl = s.dctl ∨ s.forceStop.dctl = .standby := by
  unfold State.forceStop
  split
  · split
    · split
      · exact scanEnds_dctl s.drawn false _
      · exact scanEnds_dctl s.drawn true _
    · exact scanEnds_dctl s true _
  · exact .inl rfl

theorem stopEffect_dctl (s : State) (tag : Byte) :
    (stopEffect tag s).dctl = s.dctl ∨ (stopEffect tag s).dctl = .standby := by
  unfold stopEffect
  split
  · exact .inl (by simp)
  · exact .inr (by simp [State.reachOff])
  · exact .inr (by simp [State.reachOff])
  · split
    · simpa using forceStop_dctl s
    · exact .inl (by simp)

/-- START is refused while the bank is being locked (R81). -/
theorem FuseInv.startEffect (h : FuseInv s) (released : s.pins.reset = false) (tag : Byte) :
    FuseInv (startEffect tag s) := by
  unfold Machine.startEffect
  split
  · exact h.of_frame (by simp) (by simp) (by simp)
  · split
    · exact h.of_frame (by simp) (by simp) (by simp)
    · next free =>
      split
      · exact h.of_frame (by simp) (by simp) (by simp)
      · refine ⟨fun working => ?_, fun locking => ?_, fun asserted => ?_⟩
        · exact ⟨by simpa using (h.1 (by simpa using working)).1, by simp [State.startRun, Device.isLoading]⟩
        · exact absurd (by simpa using locking) free
        · simp [released] at asserted

theorem FuseInv.softResetEffect (h : FuseInv s) (tag : Byte) :
    FuseInv (softResetEffect tag s) := by
  unfold Machine.softResetEffect
  split
  · exact h.of_frame (by simp) (by simp) (by simp)
  · split
    · exact h.of_frame (by simp) (by simp) (by simp)
    · next idle => exact .of_idle (by simpa [State.readFuses, State.resetBlocks] using idle) fun _ => rfl

/-- FUSE_PROGRAM starts only on an unlocked bank, outside LOADING (R174). -/
theorem FuseInv.fuseProgramEffect (h : FuseInv s) (awake : s.awake) (tag word : Byte) (value : Half) :
    FuseInv (fuseProgramEffect tag word value s) := by
  obtain ⟨released, outside⟩ := awake
  unfold Machine.fuseProgramEffect
  split
  · exact h.of_frame (by simp) (by simp) (by simp)
  · split
    · exact h.of_frame (by simp) (by simp) (by simp)
    · split
      · exact h.of_frame (by simp) (by simp) (by simp)
      · next unlocked =>
        split
        · exact h.of_frame (by simp) (by simp) (by simp)
        · exact ⟨fun _ => ⟨by simpa using unlocked, outside⟩, by rintro ⟨⟩, by simp [released]⟩

/-- FUSE_LOCK starts only on an unlocked bank, in STANDBY (R175). -/
theorem FuseInv.fuseLockEffect (h : FuseInv s) (awake : s.awake) (tag : Byte) : FuseInv (fuseLockEffect tag s) := by
  obtain ⟨released, outside⟩ := awake
  unfold Machine.fuseLockEffect
  split
  · exact h.of_frame (by simp) (by simp) (by simp)
  · next standby =>
    split
    · exact h.of_frame (by simp) (by simp) (by simp)
    · split
      · exact h.of_frame (by simp) (by simp) (by simp)
      · next unlocked =>
        split
        · exact h.of_frame (by simp) (by simp) (by simp)
        · split
          · exact h.of_frame (by simp) (by simp) (by simp)
          · exact ⟨fun _ => ⟨by simpa using unlocked, outside⟩, fun _ => not_not.mp standby, by simp [released]⟩

theorem FuseInv.command (h : FuseInv s) (awake : s.awake) (tag : Byte) (c : Command) :
    FuseInv (commandEffect tag c s) := by
  cases c with
  | start => exact h.startEffect awake.1 tag
  | stop => exact h.of_standby awake.1 (by simp [commandEffect]) (by simp [commandEffect]) (stopEffect_dctl s tag)
  | softReset => exact h.softResetEffect tag
  | fuseProgram word value => exact h.fuseProgramEffect awake tag word value
  | fuseLock => exact h.fuseLockEffect awake tag
  | _ => exact h.of_frame (by simp [commandEffect]) (by simp [commandEffect]) (by simp [commandEffect])

/-- A fuse operation that ends leaves the engine IDLE, and one that does not leaves everything. -/
theorem FuseInv.fuseEnds (h : FuseInv s) (released : s.pins.reset = false) :
    FuseInv s.fprogFalls ∧ FuseInv s.fuseProgramEnd ∧ FuseInv s.fuseLockEnd := by
  have ended {t : State} (engine : t.lfb.engine = .idle) (pins : t.pins = s.pins) : FuseInv t :=
    .of_idle (by rw [engine]; rfl) (by simp [pins, released])
  cases engine : s.lfb.engine with
  | idle =>
    rw [State.fprogFalls_of_idle engine, (State.fuseEnds_of_idle engine).1, (State.fuseEnds_of_idle engine).2]
    exact ⟨h, h, h⟩
  | programming tag word value due =>
    rw [State.fprogFalls_of_programming engine, State.fuseProgramEnd_of_programming engine,
      State.fuseLockEnd_of_programming engine, State.programInterrupted_eq, State.programEnds_eq]
    refine ⟨ended rfl rfl, ?_, h⟩
    split
    · exact ended rfl rfl
    · exact h
  | locking tag due =>
    rw [State.fprogFalls_of_locking engine, State.fuseProgramEnd_of_locking engine,
      State.fuseLockEnd_of_locking engine, State.lockEnds_eq]
    refine ⟨ended rfl rfl, h, ?_⟩
    split
    · exact ended rfl rfl
    · exact h

theorem Act.fuseInv (h : FuseInv s) (released : s.pins.reset = false) (act : Act s t) : FuseInv t := by
  induction act with
  | serve _ ih => exact ih.of_frame (by simp) (by simp) (by simp)
  | loadingEnds =>
    obtain ⟨lfb, pins, dctl⟩ := loadingEnds_fuses s
    exact h.of_standby released lfb pins dctl
  | outputTime => exact h.of_standby released (by simp) (by simp) (outputTime_dctl s)
  | command tag c up => exact h.command up tag c
  | fuseProgramEnd => exact (h.fuseEnds released).2.1
  | fuseLockEnd => exact (h.fuseEnds released).2.2
  | idle => exact h
  | _ => exact h.of_frame (by simp) (by simp) (by simp)

end

theorem actsLead_keepsBits (f : Lfb) : ActsLead (fun s => f.keepsBits s.lfb) (fun s => f.keepsBits s.lfb) where
  dequeue _ _ h := h
  after _ _ _ h := h
  setPins _ _ _ h := h
  fprogFalls s _ h := h.trans (burned_fprogFalls s).keepsBits
  held _ _ h := h
  assertReset s h := by
    have cut := (burned_cutFuses s.cutTransfer).keepsBits
    simp only [State.cutTransfer_frame] at cut
    rw [State.assertReset_eq]
    exact h.trans (cut.trans (.of_words rfl))
  releaseReset s _ h := h.trans (.of_words rfl)
  act _ _ _ h act := h.trans act.burned.keepsBits

/-- No fuse operation is in flight, and the words are `w`. -/
def Lfb.rests (f : Lfb) (w : Vector Half 8) : Prop := f.engine.isIdle = true ∧ f.words = w

theorem actsLead_rests (w : Vector Half 8) : ActsLead (fun s => s.lfb.rests w) (fun s => s.lfb.words = w) where
  dequeue _ _ h := h
  after _ _ _ h := h
  setPins _ _ _ h := h
  fprogFalls s _ h := by
    rw [State.fprogFalls_of_idle ((Engine.isIdle_iff _).mp h.1)]
    exact h
  held _ _ h := h.2
  assertReset s h := by
    have idle : s.cutTransfer.lfb.engine = .idle := by simpa [Engine.isIdle_iff] using h.1
    have words : s.cutTransfer.cutFuses.lfb.words = s.lfb.words := by
      simp [s.cutTransfer.cutFuses_words (.inl idle)]
    rw [State.assertReset_eq]
    exact words.trans h.2
  releaseReset s _ h := h.2
  act _ _ _ h act := (act.burned.of_idle h.1).trans h.2

theorem actsLead_fuseInv : ActsLead FuseInv FuseInv where
  dequeue _ _ h := h
  after _ _ _ h := h
  setPins s p same h := by
    unfold FuseInv
    rw [State.setPins_pins, same]
    exact h
  fprogFalls _ released h := (h.fuseEnds released).1
  held _ _ h := h
  assertReset s _ := by
    rw [State.assertReset_eq]
    exact .of_idle rfl fun _ => rfl
  releaseReset s asserted h := by
    have idle : s.lfb.engine.isIdle = true := by
      by_contra working
      have outside := (h.1 (by simpa using working)).2
      rw [h.2.2 asserted] at outside
      cases outside
    exact .of_idle (by simpa [State.releaseReset, State.readFuses] using idle) fun _ => rfl
  act _ _ released h act := act.fuseInv h released

/-- Settles O28: a word changes only where a fuse operation ends, and then by more bits; a locked bank has none in
flight. -/
theorem fuseBitsStay : Obligations.FuseBitsStay := by
  intro s t taken
  refine ⟨(actsLead_keepsBits s.lfb).step taken (.of_words rfl), fun fuse locked => ?_,
    fun _ fuse => actsLead_fuseInv.step taken fuse⟩
  have idle : s.lfb.engine.isIdle = true := by
    by_contra working
    have unlocked := (fuse.1 (by simpa using working)).1
    rw [locked] at unlocked
    cases unlocked
  exact (actsLead_rests s.lfb.words).step taken ⟨idle, rfl⟩

end Sys2Proof.Machine

namespace Sys2Proof.Machine

open State

/-! ### The timers' expiries (R67, R75, R78, R79) -/

section
variable {s : State}

/-- What OPEN takes: DEADLINE with the link LOCKED and the plan indication EMPTY, FREE-RUN with the link DOWN. -/
theorem State.takeOpen_eq (s : State) : s.takeOpen =
    if s.lrx.link = .locked ∧ s.ssch.planEmpty = true ∧ s.ssch.deadline.isExpired = true then s.startScan .deadline
    else if s.lrx.link = .down ∧ s.ssch.freeRun.isExpired = true then s.startScan .freeRun else s := by
  cases link : s.lrx.link with
  | locked => simp [State.takeOpen_locked s link]
  | down => simp [State.takeOpen_down s link]

/-- HOLD with MIN EXPIRED starts a chase of the pending frame, or opens (R75). -/
theorem State.takeActive_of_hold (hold : s.ssch.state = .hold) (expired : s.ssch.min.isExpired = true) :
    s.takeActive = match s.ssch.pending with
      | some p => s.startScan (.chase p)
      | none => State.takeOpen { s with ssch := { s.ssch with state := .opened } } := by
  unfold State.takeActive State.takeMin
  rw [hold]
  dsimp only
  rw [if_pos expired]
  cases s.ssch.pending <;> rfl

/-- Outside OPEN an EXPIRED MIN is taken in HOLD, and no timer in SCAN and in OFF (R67, R75). -/
theorem State.takeActive_of_min (expired : s.ssch.min.isExpired = true) (closed : s.ssch.state ≠ .opened) :
    s.takeActive =
      if s.ssch.state = .hold then
        match s.ssch.pending with
        | some p => s.startScan (.chase p)
        | none => State.takeOpen { s with ssch := { s.ssch with state := .opened } }
      else s := by
  by_cases hold : s.ssch.state = .hold
  · rw [if_pos hold, State.takeActive_of_hold hold expired]
  · rw [if_neg hold, s.takeActive_of_quiet_hold fun h => absurd h hold, if_neg closed]

/-- An EXPIRED DEADLINE is taken in OPEN with the link LOCKED and the plan indication EMPTY (R78). -/
theorem State.takeActive_of_deadline (expired : s.ssch.deadline.isExpired = true)
    (quiet : s.ssch.state = .hold → s.ssch.min.isExpired = false)
    (other : s.ssch.state = .opened → s.lrx.link = .down → s.ssch.freeRun.isExpired = false) :
    s.takeActive =
      if s.ssch.state = .opened ∧ s.lrx.link = .locked ∧ s.ssch.planEmpty = true then s.startScan .deadline else s := by
  rw [s.takeActive_of_quiet_hold quiet]
  by_cases opened : s.ssch.state = .opened
  · cases link : s.lrx.link with
    | locked => simp [opened, State.takeOpen_locked s link, expired]
    | down => simp [opened, State.takeOpen_down s link, other opened link]
  · simp [opened]

/-- An EXPIRED FREE-RUN is taken in OPEN with the link DOWN (R79). -/
theorem State.takeActive_of_freeRun (expired : s.ssch.freeRun.isExpired = true)
    (quiet : s.ssch.state = .hold → s.ssch.min.isExpired = false)
    (other : s.ssch.state = .opened → s.lrx.link = .locked → s.ssch.planEmpty = true →
      s.ssch.deadline.isExpired = false) :
    s.takeActive = if s.ssch.state = .opened ∧ s.lrx.link = .down then s.startScan .freeRun else s := by
  rw [s.takeActive_of_quiet_hold quiet]
  by_cases opened : s.ssch.state = .opened
  · cases link : s.lrx.link with
    | locked =>
      have unmet : ¬ (s.ssch.planEmpty = true ∧ s.ssch.deadline.isExpired = true) := fun ⟨empty, late⟩ =>
        absurd late (by simp [other opened link empty])
      simp [opened, State.takeOpen_locked s link, unmet]
    | down => simp [opened, State.takeOpen_down s link, expired]
  · simp [opened]

theorem Timer.isDue_of_running {t : Timer} {due now : Nat} (running : t = .running due) :
    t.isDue now = decide (due ≤ now) := by rw [running]; rfl

theorem timerExpiry_exec (released : s.pins.reset = false) (dt : Nat) :
    exec (.minExpiry dt) s = .next (s.after dt).minExpires.serve
      ∧ exec (.deadlineExpiry dt) s = .next (s.after dt).deadlineExpires.serve
      ∧ exec (.freeRunExpiry dt) s = .next (s.after dt).freeRunExpires.serve :=
  ⟨congrArg _ (arrival_of released dt _), congrArg _ (arrival_of released dt _), congrArg _ (arrival_of released dt _)⟩

theorem State.minExpires_of_due {due : Nat} (running : s.ssch.min = .running due) (run : due ≤ s.microseconds) :
    s.minExpires = State.takeActive { s with ssch := { s.ssch with min := .expired due } } := by
  unfold State.minExpires
  rw [if_pos (by simpa [Timer.isDue_of_running running] using run), running]
  rfl

theorem State.deadlineExpires_of_due {due : Nat} (running : s.ssch.deadline = .running due)
    (run : due ≤ s.microseconds) :
    s.deadlineExpires = State.takeActive { s with ssch := { s.ssch with deadline := .expired due } } := by
  unfold State.deadlineExpires
  rw [if_pos (by simpa [Timer.isDue_of_running running] using run), running]
  rfl

theorem State.freeRunExpires_of_due {due : Nat} (running : s.ssch.freeRun = .running due)
    (run : due ≤ s.microseconds) :
    s.freeRunExpires = State.takeActive { s with ssch := { s.ssch with freeRun := .expired due } } := by
  unfold State.freeRunExpires
  rw [if_pos (by simpa [Timer.isDue_of_running running] using run), running]
  rfl

/-- An expiry that comes before its time changes nothing (log 3). -/
theorem State.expires_of_not_due {due : Nat} (early : s.microseconds < due) :
    (s.ssch.min = .running due → s.minExpires = s) ∧ (s.ssch.deadline = .running due → s.deadlineExpires = s)
      ∧ (s.ssch.freeRun = .running due → s.freeRunExpires = s) := by
  refine ⟨fun running => if_neg ?_, fun running => if_neg ?_, fun running => if_neg ?_⟩ <;>
    simpa [Timer.isDue_of_running running] using early

end

/-- Settles O52: a due expiry makes its timer EXPIRED and takes what is then active. -/
theorem timerExpiries : Obligations.TimerExpiries := by
  refine ⟨fun dt due s released early => ?_, fun dt due s released run => ?_⟩
  · obtain ⟨min, deadline, freeRun⟩ := timerExpiry_exec released dt
    obtain ⟨quietMin, quietDeadline, quietFreeRun⟩ := (s.after dt).expires_of_not_due early
    rw [min, deadline, freeRun]
    exact ⟨fun running => by rw [quietMin running], fun running => by rw [quietDeadline running],
      fun running => by rw [quietFreeRun running]⟩
  · obtain ⟨min, deadline, freeRun⟩ := timerExpiry_exec released dt
    rw [min, deadline, freeRun]
    refine ⟨?_, ?_, ?_⟩
    · intro running closed u v
      have acted : (s.after dt).minExpires = u.takeActive := State.minExpires_of_due running run
      have taken := State.takeActive_of_min (s := u) rfl closed
      rw [acted, taken]
      split
      · cases pending : s.ssch.pending with
        | some p => rfl
        | none =>
          dsimp only
          rw [State.takeOpen_eq, apply_ite State.serve, apply_ite State.serve]
      · rfl
    · intro running quiet other u
      have acted : (s.after dt).deadlineExpires = u.takeActive := State.deadlineExpires_of_due running run
      have taken := State.takeActive_of_deadline (s := u) rfl quiet other
      rw [acted, taken, apply_ite State.serve]
    · intro running quiet other u
      have acted : (s.after dt).freeRunExpires = u.takeActive := State.freeRunExpires_of_due running run
      have taken := State.takeActive_of_freeRun (s := u) rfl quiet other
      rw [acted, taken, apply_ite State.serve]

end Sys2Proof.Machine

namespace Sys2Proof.Machine

open State

/-! ### The parts of a scan start (R69, R90) -/

section
variable {s t u : State}

theorem EventSource.number_injective : Function.Injective EventSource.number :=
  Function.LeftInverse.injective (g := fun n => EventSource.ofNat n.val) fun e => by cases e <;> rfl

/-- `t` is `s` but for what CRP's reports at a scan start write: CRP, SSCH's plan indication, the events STALL and
LAG_HIGH, and the number of draws of the free orders. -/
structure State.Reported (s t : State) : Prop where
  frame : t = { s with
    crp := t.crp, ssch := { s.ssch with planEmpty := t.ssch.planEmpty }, evu := { s.evu with sources := t.evu.sources }
    free := t.free }
  source : ∀ event, event ≠ .stall → event ≠ .lagHigh → t.evu.source event = s.evu.source event

namespace State.Reported

theorem refl (s : State) : Reported s s := ⟨rfl, fun _ _ _ => rfl⟩

theorem trans (h : Reported s t) (h' : Reported t u) : Reported s u := by
  refine ⟨?_, fun e stall lag => (h'.source e stall lag).trans (h.source e stall lag)⟩
  rw [h'.frame, h.frame]

theorem withCrp (s : State) (c : Crp) : Reported s (s.withCrp c) := ⟨rfl, fun _ _ _ => rfl⟩

theorem drawn (s : State) : Reported s s.drawn := ⟨rfl, fun _ _ _ => rfl⟩

theorem raise (s : State) {e : EventSource} (cadence : e = .stall ∨ e = .lagHigh) : Reported s (s.raise e) := by
  refine ⟨rfl, fun d stall lag => s.evu.source_raise_other fun same => ?_⟩
  rcases cadence with rfl | rfl
  · exact stall (EventSource.number_injective same)
  · exact lag (EventSource.number_injective same)

theorem cadenceLfs (s : State) (frame time : Word) : Reported s (s.cadenceLfs frame time) := by
  unfold State.cadenceLfs
  dsimp only
  split
  · exact (withCrp s _).trans (raise _ (.inl rfl))
  · exact withCrp s _

theorem reportFormatChange (s : State) (frame : Option Word) : Reported s (s.reportFormatChange frame) := withCrp s _

theorem freshReport (s : State) (lfsTime : Word) : Reported s (s.freshReport lfsTime) := by
  unfold State.freshReport
  dsimp only
  split
  · exact (withCrp s _).trans (raise _ (.inr rfl))
  · exact withCrp s _

theorem liveReports (s : State) (frame : Word) (changed : Bool) : Reported s (s.liveReports frame changed) := by
  unfold State.liveReports
  split
  · split
    · exact ((drawn s).trans (reportFormatChange _ _)).trans (cadenceLfs _ _ _)
    · exact ((drawn s).trans (cadenceLfs _ _ _)).trans (reportFormatChange _ _)
  · exact cadenceLfs s _ _

theorem reportWithoutFrame (s : State) (changed : Bool) : Reported s (s.reportWithoutFrame changed) := by
  unfold State.reportWithoutFrame
  split
  · exact reportFormatChange s _
  · exact refl s

theorem cadenceAtStart (s : State) (r : StartReason) (changed committed : Bool) :
    Reported s (s.cadenceAtStart r changed committed) := by
  cases r with
  | arrival frame => exact (liveReports s frame changed).trans (freshReport _ _)
  | chase p => exact (reportWithoutFrame s changed).trans (freshReport _ _)
  | plan point remaining =>
    unfold State.cadenceAtStart
    dsimp only
    split
    · exact (reportWithoutFrame s changed).trans (withCrp _ _)
    · exact reportWithoutFrame s changed
  | deadline => exact reportWithoutFrame s changed
  | freeRun => exact reportWithoutFrame s changed

end State.Reported

/-- The scan is fresh by what starts it: an arrival or a chase (R69, R70). -/
def StartReason.isFresh : StartReason → Bool
  | .arrival _ => true
  | .chase _ => true
  | .plan _ _ => false
  | .deadline => false
  | .freeRun => false

/-- A REPEAT or FILL scan as the latest slot has it (R71). -/
theorem State.shownRepeat_eq (s : State) (cause : Cause) :
    (s.shownRepeat cause = Shown.fillScan cause ∧ s.repeatSource = none)
      ∨ ∃ i, s.repeatSource = some i ∧ s.shownRepeat cause =
          { kind := .repeated, cause := cause, source := .slot i, scanSource := some i
            frame := s.capu.slots[i].frame } := by
  unfold State.shownRepeat
  cases s.repeatSource with
  | none => exact .inl ⟨rfl, rfl⟩
  | some i => exact .inr ⟨i, rfl, rfl⟩

theorem State.shownRepeat_kind (s : State) (cause : Cause) :
    (s.shownRepeat cause).kind = .repeated ∨ (s.shownRepeat cause).kind = .fill := by
  rcases s.shownRepeat_eq cause with ⟨fill, -⟩ | ⟨i, -, shown⟩
  · exact .inr (by rw [fill]; rfl)
  · exact .inl (by rw [shown])

theorem State.shownRepeat_cause (s : State) (cause : Cause) : (s.shownRepeat cause).cause = cause := by
  rcases s.shownRepeat_eq cause with ⟨fill, -⟩ | ⟨i, -, shown⟩
  · rw [fill]; rfl
  · rw [shown]

/-- An arrival shows a LIVE scan, a chase a DEFERRED one, and any other start a REPEAT or a FILL scan (R70). -/
theorem State.shown_kind (s : State) (r : StartReason) : match r with
    | .arrival _ => (s.shown r).kind = .live
    | .chase _ => (s.shown r).kind = .deferred
    | .plan _ _ => (s.shown r).kind = .repeated ∨ (s.shown r).kind = .fill
    | .deadline => (s.shown r).kind = .repeated ∨ (s.shown r).kind = .fill
    | .freeRun => (s.shown r).kind = .repeated ∨ (s.shown r).kind = .fill := by
  cases r with
  | arrival frame => rfl
  | chase p =>
    show (s.shownDeferred p).kind = _
    unfold State.shownDeferred
    split <;> rfl
  | plan point remaining => exact s.shownRepeat_kind .plan
  | deadline => exact s.shownRepeat_kind .deadline
  | freeRun =>
    unfold State.shown
    dsimp only
    split
    · exact .inr rfl
    · exact s.shownRepeat_kind .freeRun

theorem State.shown_isFresh (s : State) (r : StartReason) : (s.shown r).kind.isFresh = r.isFresh := by
  have kind := s.shown_kind r
  cases r with
  | arrival frame => rw [show _ = Kind.live from kind]; rfl
  | chase p => rw [show _ = Kind.deferred from kind]; rfl
  | plan point remaining => rcases kind with kind | kind <;> rw [kind] <;> rfl
  | deadline => rcases kind with kind | kind <;> rw [kind] <;> rfl
  | freeRun => rcases kind with kind | kind <;> rw [kind] <;> rfl

/-- The state of a scan start with the commit taken and CRP's reports in (R54, R130). -/
def State.reportedStart (r : StartReason) (s : State) : State :=
  s.commitAtStart.cadenceAtStart r s.startChangesFormat s.tbc.commitPending.isSome

theorem State.reportedStart_reported (s : State) (r : StartReason) : Reported s.commitAtStart (s.reportedStart r) :=
  .cadenceAtStart _ _ _ _

/-- The scan a start sets up, but for the patch from line 0 of a DEFERRED scan in another format (R90). -/
def State.scanAtStart (r : StartReason) (s : State) : Scan :=
  (s.reportedStart r).newScan r (s.commitAtStart.shown r) s
    (if r.isFresh then (s.reportedStart r).crp else s.commitAtStart.crp)

/-- A scan start is SSCH's, OCAP's, ZSU's and the engine's acts on the state with CRP's reports in (R69). -/
theorem State.startScan_eq (s : State) (r : StartReason) : s.startScan r =
    (((s.reportedStart r).schedulerAtStart r r.isFresh).imageAtStart (s.commitAtStart.shown r).kind).engineAtStart
      (s.scanAtStart r) := by
  unfold State.scanAtStart
  rw [← s.commitAtStart.shown_isFresh r]
  rfl

theorem State.commitAtStart_tbc (s : State) : s.commitAtStart.tbc = match s.tbc.commitPending with
    | some m => { active := s.tbc.shadow, shadow := s.tbc.shadow, commitPending := none, lastMarker := m }
    | none => s.tbc := by
  unfold State.commitAtStart
  cases s.tbc.commitPending <;> rfl

theorem State.startScan_tbc (s : State) (r : StartReason) : (s.startScan r).tbc = s.commitAtStart.tbc := by
  simp [State.startScan]

theorem Scan.formatPatched_eq (sc : Scan) (c : Capu) : sc.formatPatched c = { sc with
    patchFrom := if sc.kind = .deferred ∧ sc.sourceFits c = false then some 0 else sc.patchFrom
    choices := (sc.formatPatched c).choices } := by
  unfold Scan.formatPatched
  split
  · rw [Scan.withChoices_eq]
  · rfl

theorem State.startScan_scan (s : State) (r : StartReason) :
    (s.startScan r).seng.scan = some ((s.scanAtStart r).formatPatched s.capu) := by
  rw [s.startScan_eq]
  simp [State.engineAtStart, State.reportedStart]

theorem Scan.sourceFits_iff {sc : Scan} {c : Capu} : sc.sourceFits c = true ↔
    ∃ i, sc.scanSource = some i ∧ c.slots[i].width = sc.width ∧ c.slots[i].lines = sc.lines := by
  unfold Scan.sourceFits
  cases sc.scanSource <;> simp

/-! ### What a scan shows (R70, R71, R97) -/

/-- The format of the scan in flight is that of the profile the active bank names (R90). -/
theorem State.scanAtStart_format (s : State) (r : StartReason) :
    (s.scanAtStart r).width = s.commitAtStart.activeEntry.profile.width
      ∧ (s.scanAtStart r).lines = s.commitAtStart.activeEntry.profile.lines := by
  simp [State.scanAtStart, State.newScan, State.reportedStart, State.activeEntry]

/-- The scan of a start shows what R70 and R71 answer, and only a DEFERRED one in another format starts patched
(R97). -/
theorem State.startScan_shown (s : State) (r : StartReason) {sc : Scan} (found : (s.startScan r).seng.scan = some sc) :
    let shown := s.commitAtStart.shown r
    let p := s.commitAtStart.activeEntry.profile
    sc.kind = shown.kind ∧ sc.cause = shown.cause ∧ sc.source = shown.source ∧ sc.scanSource = shown.scanSource
      ∧ sc.frame = shown.frame
      ∧ (shown.kind ≠ .deferred → sc.patchFrom = none)
      ∧ ∀ i, shown.scanSource = some i →
          (s.capu.slots[i].width = p.width ∧ s.capu.slots[i].lines = p.lines → sc.patchFrom = none)
          ∧ (shown.kind = .deferred → ¬ (s.capu.slots[i].width = p.width ∧ s.capu.slots[i].lines = p.lines) →
              sc.patchFrom = some 0) := by
  obtain rfl := Option.some.inj ((s.startScan_scan r).symm.trans found)
  rw [Scan.formatPatched_eq]
  refine ⟨rfl, rfl, rfl, rfl, rfl, fun kind => if_neg fun patched => kind patched.1, fun i source => ?_⟩
  have fits : (s.scanAtStart r).sourceFits s.capu = true ↔
      s.capu.slots[i].width = s.commitAtStart.activeEntry.profile.width
        ∧ s.capu.slots[i].lines = s.commitAtStart.activeEntry.profile.lines := by
    rw [Scan.sourceFits_iff, show (s.scanAtStart r).scanSource = some i from source, (s.scanAtStart_format r).1,
      (s.scanAtStart_format r).2]
    simp
  rw [← fits]
  exact ⟨fun same => if_neg (by simp [same]), fun kind other => if_pos ⟨kind, by simpa using other⟩⟩

theorem State.repeatSource_eq_some_iff {i : SlotId} : s.repeatSource = some i ↔ s.capu.latest = some i
    ∧ s.capu.slots[i].width = s.activeEntry.profile.width ∧ s.capu.slots[i].lines = s.activeEntry.profile.lines := by
  simp [State.repeatSource, Option.filter_eq_some_iff]

theorem State.shownRepeat_of_fits {i : SlotId} (cause : Cause) (latest : s.capu.latest = some i)
    (fits : s.capu.slots[i].width = s.activeEntry.profile.width
      ∧ s.capu.slots[i].lines = s.activeEntry.profile.lines) :
    s.shownRepeat cause = { kind := .repeated, cause := cause, source := .slot i, scanSource := some i
                            frame := s.capu.slots[i].frame } := by
  unfold State.shownRepeat
  rw [State.repeatSource_eq_some_iff.mpr ⟨latest, fits⟩]

theorem State.shownRepeat_of_unfit (cause : Cause) (unfit : ∀ i, s.capu.latest = some i →
      ¬ (s.capu.slots[i].width = s.activeEntry.profile.width
        ∧ s.capu.slots[i].lines = s.activeEntry.profile.lines)) :
    s.shownRepeat cause = Shown.fillScan cause := by
  unfold State.shownRepeat
  cases source : s.repeatSource with
  | none => rfl
  | some i =>
    obtain ⟨latest, fits⟩ := State.repeatSource_eq_some_iff.mp source
    exact absurd fits (unfit i latest)

theorem Ssch.lossFills_iff {x : Ssch} : x.lossFills = true ↔ ∃ k, x.kept = some k ∧ k.lossAction = .fill := by
  unfold Ssch.lossFills
  cases x.kept <;> simp

/-- The slot of a frame is the lowest whose record holds it (R65). -/
theorem Capu.slotOf_eq_some {c : Capu} {frame : Word} {i : SlotId} : c.slotOf frame = some i ↔
    c.slots[i].frame = some frame ∧ ∀ j : SlotId, j < i → c.slots[j].frame ≠ some frame := by
  unfold Capu.slotOf
  by_cases in0 : c.slots[0].frame = some frame <;> by_cases in1 : c.slots[1].frame = some frame <;>
    by_cases in2 : c.slots[2].frame = some frame <;> fin_cases i <;> simp [Fin.forall_fin_succ, in0, in1, in2]

end

/-- Settles O50: what R70 and R71 answer, after the commit taken at the start, is what the scan set up shows. -/
theorem scanShown : Obligations.ScanShown := by
  refine ⟨fun c frame i => Capu.slotOf_eq_some, fun r s sc found => ?_⟩
  intro p fits isFill isRepeat
  obtain ⟨kind, cause, source, scanSource, frame, own, slot⟩ := s.startScan_shown r found
  have entry : s.commitAtStart.activeEntry.profile = p := by simp [State.activeEntry, p, s.startScan_tbc]
  have same_capu : s.commitAtStart.capu = s.capu := by simp
  have filled {because : Cause} (h : s.commitAtStart.shown r = Shown.fillScan because) : isFill := by
    rw [h] at kind source scanSource frame own
    exact ⟨kind, source, scanSource, frame, own nofun⟩
  have repeated {because : Cause} (h : s.commitAtStart.shown r = s.commitAtStart.shownRepeat because) : isRepeat := by
    refine ⟨fun i latest fit => ?_, fun unfit => filled (h.trans (State.shownRepeat_of_unfit because ?_))⟩
    · rw [h, State.shownRepeat_of_fits because (by rw [same_capu, latest]) (by rw [same_capu, entry]; exact fit)]
        at kind source scanSource frame own
      rw [same_capu] at frame
      exact ⟨kind, source, scanSource, frame, own nofun⟩
    · rw [same_capu, entry]
      exact unfit
  cases r with
  | arrival f => exact ⟨kind, cause, source, scanSource, frame, own nofun⟩
  | chase f =>
    have deferred : (s.commitAtStart.shown (.chase f)).kind = .deferred := s.commitAtStart.shown_kind (.chase f)
    have chased : sc.cause = .chase ∧ sc.frame = some f.frame := by
      rw [cause, frame]
      show (s.commitAtStart.shownDeferred f).cause = _ ∧ (s.commitAtStart.shownDeferred f).frame = _
      unfold State.shownDeferred
      split <;> exact ⟨rfl, rfl⟩
    refine ⟨kind.trans deferred, chased.1, chased.2, fun i held => ?_⟩
    have shown : s.commitAtStart.shown (.chase f) = { kind := .deferred, cause := .chase, source := .slot i
                                                      scanSource := some i, frame := some f.frame } := by
      show s.commitAtStart.shownDeferred f = _
      unfold State.shownDeferred
      rw [same_capu, held]
    have patched := slot i (by rw [shown])
    rw [entry] at patched
    exact ⟨by rw [source, shown], by rw [scanSource, shown], patched.1, patched.2 deferred⟩
  | plan point remaining => exact ⟨cause.trans (s.commitAtStart.shownRepeat_cause .plan), repeated rfl⟩
  | deadline => exact ⟨cause.trans (s.commitAtStart.shownRepeat_cause .deadline), repeated rfl⟩
  | freeRun =>
    rw [← Ssch.lossFills_iff, show s.ssch = s.commitAtStart.ssch by simp]
    have shown : s.commitAtStart.shown .freeRun =
        if s.commitAtStart.ssch.lossFills then Shown.fillScan .freeRun else s.commitAtStart.shownRepeat .freeRun := rfl
    refine ⟨?_, fun fills => filled (shown.trans (if_pos fills)), fun holds => repeated (shown.trans (if_neg holds))⟩
    rw [cause, shown]
    split
    · rfl
    · exact s.commitAtStart.shownRepeat_cause .freeRun

end Sys2Proof.Machine

namespace Sys2Proof.Machine

open State

/-! ### What every scan start does (R66, R67, R69, R90) -/

section
variable (s : State)

/-- A commit taken at a start raises only COMMIT_TAKEN (R130). -/
theorem State.commitAtStart_eq : s.commitAtStart = { s with
    tbc := s.commitAtStart.tbc, evu := { s.evu with sources := s.commitAtStart.evu.sources } } := by
  unfold State.commitAtStart
  cases s.tbc.commitPending <;> rfl

theorem State.commitAtStart_commitTaken :
    (s.tbc.commitPending.isSome = true → (s.commitAtStart.evu.source .commitTaken).pending = true)
      ∧ (s.tbc.commitPending = none → s.commitAtStart.evu = s.evu) := by
  unfold State.commitAtStart
  cases s.tbc.commitPending with
  | none => exact ⟨nofun, fun _ => rfl⟩
  | some marker => exact ⟨fun _ => s.evu.source_raise_pending .commitTaken, nofun⟩

/-- The state of a start with the commit taken and CRP's reports in is `s` with only TBC's banks, CRP, the plan
indication and raised events changed. -/
theorem State.reportedStart_eq (r : StartReason) : ∃ crp planEmpty sources free,
    s.reportedStart r = { s with
      tbc := s.commitAtStart.tbc, crp := crp, ssch := { s.ssch with planEmpty := planEmpty }
      evu := { s.evu with sources := sources }, free := free }
    ∧ ∀ event, event ≠ .stall → event ≠ .lagHigh →
        ({ s.evu with sources := sources } : Evu).source event = s.commitAtStart.evu.source event := by
  obtain ⟨frame, source⟩ := s.reportedStart_reported r
  rw [s.commitAtStart_eq] at frame
  refine ⟨_, _, _, _, frame, fun event stall lag => ?_⟩
  rw [← source event stall lag]
  rfl

/-- A scan of an arrival or a chase qualifies for every measurement, and any other scan for one that is not restricted
to fresh scans (R139). -/
theorem StatsConfig.qualifies_iff {cfg : StatsConfig} {k : Kind} :
    cfg.qualifies k = true ↔ cfg.freshOnly = false ∨ k.isFresh = true := by
  cases k <;> simp [StatsConfig.qualifies, Kind.isFresh]

theorem Zsu.atScanStart_eq (z : Zsu) (k : Kind) : z.atScanStart k =
    if z.state = .armed ∧ (z.config.freshOnly = false ∨ k.isFresh = true) then
      { z with state := .measuring, accumulators := z.cleared } else z := by
  unfold Zsu.atScanStart
  cases z.state <;> simp [StatsConfig.qualifies_iff]

/-- A READY back plane becomes the front plane (R117). -/
theorem Ocap.atScanStart_eq (o : Ocap) : o.atScanStart = if o.back = .ready then
    { o with front := if o.front = .a then .b else .a, frontImage := true, back := .idle } else o := by
  unfold Ocap.atScanStart Plane.other
  cases o.back <;> cases o.front <;> rfl

/-- The first line of a scan in own timing leaves four line times after its start, and the first line of a LIVE scan
once it is handed on (R93). -/
theorem State.outputDue_of_start {sc : Scan} (empty : s.seng.pipeline = []) (first : sc.nextOut = 0)
    (origin : sc.timingFrom = 0) : s.outputDue sc =
      if sc.kind = .live ∧ sc.patchFrom = none ∧ 0 < sc.lines then none
      else some (sc.timingBase + sc.lineTime) := by
  unfold State.outputDue
  rw [empty, first, origin]
  simp

end

/-- Settles O49: with the commit taken and CRP's reports in, SSCH, OCAP, ZSU and the engine each take the start. -/
theorem scanStart : Obligations.ScanStart := by
  intro r s
  obtain ⟨crp, planEmpty, sources, free, reported, source⟩ := s.reportedStart_eq r
  have fresh_eq := s.commitAtStart.shown_isFresh r
  rw [s.startScan_eq, State.scanAtStart, reported]
  intro t tbc p fresh
  have same_tbc : s.commitAtStart.tbc = tbc := s.commitAtStart_tbc
  have same_fresh : r.isFresh = fresh := by cases r <;> rfl
  have same_p : s.pru.table[s.commitAtStart.tbc.active.profile].profile = p := by simp only [same_tbc]; rfl
  clear_value p fresh
  clear_value tbc
  subst same_p same_tbc same_fresh
  refine ⟨⟨rfl, rfl⟩, rfl, rfl, rfl, rfl, rfl, rfl, rfl, rfl, rfl, ?_, rfl, rfl, rfl, rfl, rfl, rfl, ?_, rfl, ?_, ?_,
    ?_, ?_, ?_, rfl, rfl⟩
  · cases r <;> rfl
  · refine ⟨_, congrArg some (Scan.formatPatched_eq _ _), rfl, rfl, rfl, rfl, rfl, rfl, rfl, rfl, rfl, rfl, rfl,
      rfl, ?_, rfl, rfl, rfl, ?_⟩
    · rw [← fresh_eq]
      rfl
    · rw [show s.clock + 4 * s.pru.table[s.commitAtStart.tbc.active.profile].profile.lineTime
        = s.clock + 3 * s.pru.table[s.commitAtStart.tbc.active.profile].profile.lineTime
          + s.pru.table[s.commitAtStart.tbc.active.profile].profile.lineTime by omega]
      exact State.outputDue_of_start _ rfl rfl rfl
  · exact Ocap.atScanStart_eq s.ocap
  · rw [← fresh_eq]
    exact Zsu.atScanStart_eq s.zsu _
  · exact fun committed =>
      (congrArg SourceState.pending (source .commitTaken nofun nofun)).trans (s.commitAtStart_commitTaken.1 committed)
  · exact fun quiet =>
      (source .commitTaken nofun nofun).trans (congrArg (·.source .commitTaken) (s.commitAtStart_commitTaken.2 quiet))
  · intro event other stall lag
    exact (source event stall lag).trans
      (s.commitAtStart_source fun same => other (EventSource.number_injective same))

end Sys2Proof.Machine

namespace Sys2Proof.Machine

open State

/-! ### The reads that wait after the port is served (R24, R27, R94, R123) -/

/-- No read waits at the second port that does not wait at the first. -/
structure Marb.WaitsWithin (m m' : Marb) : Prop where
  scanRead : ∀ r, m'.scanRead = some r → m.scanRead = some r
  overlayRead : ∀ r, m'.overlayRead = some r → m.overlayRead = some r

section
variable {s : State}

theorem Marb.WaitsWithin.refl (m : Marb) : m.WaitsWithin m := ⟨fun _ => id, fun _ => id⟩

theorem waitsWithin_grantOverlayRead (s : State) (r : Plane × Nat) :
    s.marb.WaitsWithin (s.grantOverlayRead r).marb := ⟨fun _ => id, nofun⟩

theorem waitsWithin_grantOverlay (s : State) : s.marb.WaitsWithin s.grantOverlay.marb := by
  unfold State.grantOverlay State.grantOverlayWrite
  split
  · exact waitsWithin_grantOverlayRead s _
  · split
    · split <;> exact ⟨fun _ => id, fun _ => id⟩
    · exact .refl _

/-- A grant only takes a waiting request away (R27). -/
theorem waitsWithin_grant (s : State) : s.marb.WaitsWithin s.grant.marb := by
  unfold State.grant
  split
  · exact ⟨fun _ => id, fun _ => id⟩
  · split
    · exact ⟨nofun, fun _ => id⟩
    · exact waitsWithin_grantOverlay s

theorem waitsWithin_grantOverlayReadFirst (s : State) : s.marb.WaitsWithin s.grantOverlayReadFirst.marb := by
  unfold State.grantOverlayReadFirst
  split
  · exact waitsWithin_grantOverlayRead s _
  · exact waitsWithin_grant s

theorem waitsWithin_serve (s : State) : s.asked.WaitsWithin s.serve.marb := by
  unfold State.serve
  dsimp only
  split
  · split
    · split
      · exact waitsWithin_grantOverlayReadFirst s.makeRequests.drawn
      · exact waitsWithin_grant s.makeRequests.drawn
    · exact waitsWithin_grant s.makeRequests
  · exact .refl _

/-- A scan read that waits after the port is served was waiting or was asked for then (R24). -/
theorem State.scanRead_of_serve {r : SlotId × Nat} (waits : s.serve.marb.scanRead = some r) :
    s.marb.scanRead = some r ∨ s.scanDesire = some r := by
  have asked : s.marb.scanRead.or s.scanDesire = some r := (waitsWithin_serve s).scanRead r waits
  rw [Option.or_eq_some_iff] at asked
  exact asked.imp_right And.right

theorem State.overlayRead_of_serve {r : Plane × Nat} (waits : s.serve.marb.overlayRead = some r) :
    s.marb.overlayRead = some r ∨ s.overlayReadDesire = some r := by
  have asked : s.marb.overlayRead.or s.overlayReadDesire = some r := (waitsWithin_serve s).overlayRead r waits
  rw [Option.or_eq_some_iff] at asked
  exact asked.imp_right And.right

/-- A read is asked for a line of the read window only (R94). -/
theorem State.mem_window_of_scanDesire {sc : Scan} (found : s.seng.scan = some sc) {r : SlotId × Nat}
    (wanted : s.scanDesire = some r) : r.2 ∈ sc.window := by
  unfold State.scanDesire at wanted
  rw [found] at wanted
  split at wanted
  · cases wanted
  · dsimp only at wanted
    split at wanted
    · cases wanted
    · obtain ⟨n, first, slot⟩ := Option.bind_eq_some_iff.mp wanted
      obtain ⟨i, -, rfl⟩ := Option.map_eq_some_iff.mp slot
      exact List.mem_of_find?_eq_some first

/-- A plane line is asked for only with a target, and in the target's line set (R123). -/
theorem State.mem_lineSet_of_overlayReadDesire {sc : Scan} (found : s.seng.scan = some sc) {r : Plane × Nat}
    (wanted : s.overlayReadDesire = some r) : ∃ y, s.ocmp.target = some y ∧ r.2 ∈ s.lineSet sc y := by
  unfold State.overlayReadDesire at wanted
  rw [found] at wanted
  split at wanted
  · cases wanted
  · split at wanted
    · next sc' y same target =>
      cases same
      obtain ⟨n, first, rfl⟩ := Option.map_eq_some_iff.mp wanted
      exact ⟨y, target, List.mem_of_find?_eq_some first⟩
    · cases wanted

/-! ### When an output time takes a line or the scan end (R93, R102) -/

theorem State.outputTime_of_no_scan (none : s.seng.scan = none) : s.outputTime = s := by
  unfold State.outputTime
  rw [none]

section
variable {sc : Scan} {due : Nat}

theorem State.outputTime_of_none (found : s.seng.scan = some sc) (none : s.outputDue sc = none) : s.outputTime = s := by
  unfold State.outputTime
  rw [found]
  dsimp only
  rw [none]

variable (found : s.seng.scan = some sc) (at_due : s.outputDue sc = some due)
include found at_due

theorem State.outputTime_of_some : s.outputTime =
    if due ≤ s.clock then if sc.nextOut < sc.lines then s.outputLine sc else (s.scanOver false sc).afterScanEnd
    else s := by
  unfold State.outputTime
  rw [found]
  dsimp only
  rw [at_due, ← State.engineScanEnd_eq]

theorem State.outputTime_of_early (early : s.clock < due) : s.outputTime = s := by
  rw [State.outputTime_of_some found at_due, if_neg (by omega)]

theorem State.outputTime_of_line (now : due ≤ s.clock) (more : sc.nextOut < sc.lines) :
    s.outputTime = s.outputLine sc := by
  rw [State.outputTime_of_some found at_due, if_pos now, if_pos more]

theorem State.outputTime_of_end (now : due ≤ s.clock) (last : sc.lines ≤ sc.nextOut) :
    s.outputTime = (s.scanOver false sc).afterScanEnd := by
  rw [State.outputTime_of_some found at_due, if_pos now, if_neg (by omega)]

end

/-! ### The line that leaves (R92, R96, R98, R99) -/

section
variable {sc : Scan}

/-- A scan overtakes its slot when the line has not come to a FILLING slot (R96). -/
theorem State.overtakes_iff : s.overtakes sc = true ↔ ∃ i, sc.scanSource = some i ∧ sc.kind = .deferred
    ∧ sc.patchFrom = none ∧ s.capu.slots[i].state = .filling ∧ s.capu.delivered i ≤ sc.nextOut := by
  unfold State.overtakes
  cases sc.scanSource with
  | none => simp
  | some i =>
    have come : s.capu.hasLine i sc.nextOut = false ↔ s.capu.delivered i ≤ sc.nextOut := by
      rw [← Bool.not_eq_true, Capu.hasLine_iff, not_lt]
    simp [come, and_assoc]

theorem State.outputLine_of_pipeline {l : ProducedLine} {rest : List ProducedLine}
    (head : s.seng.pipeline = l :: rest) : s.outputLine sc = s.lineLeft sc l.pixels false true := by
  unfold State.outputLine
  rw [head]
  exact State.emitLine_eq sc l.pixels false true s

theorem State.outputLine_of_produced (empty : s.seng.pipeline = []) (within : ¬ s.overtakes sc = true) :
    s.outputLine sc = s.lineLeft sc (s.seng.produce sc sc.nextOut).pixels (s.seng.produce sc sc.nextOut).patched
      false := by
  unfold State.outputLine
  rw [empty]
  dsimp only
  rw [if_neg within]
  exact State.emitLine_eq sc _ _ false s

/-- The scan switched to patching from its next line (R95, R96). -/
def Scan.switched (sc : Scan) (c : Capu) : Scan := Scan.withChoices { sc with patchFrom := some sc.nextLine } c

/-- The engine at an overtake: the scan is switched and its read-ahead entries are discarded (R95, R96). -/
def State.overtaken (sc : Scan) (s : State) : State :=
  { s with seng := { s.seng with scan := some (sc.switched s.capu), readAhead := [] } }

theorem State.outputLine_of_overtake (empty : s.seng.pipeline = []) (found : s.seng.scan = some sc)
    (overtakes : s.overtakes sc = true) :
    s.outputLine sc =
      let t := (s.overtaken sc).serve
      let made := t.seng.produce (sc.switched s.capu) (sc.switched s.capu).nextOut
      t.lineLeft (sc.switched s.capu) made.pixels made.patched false := by
  obtain ⟨-, -, -, unpatched, -⟩ := State.overtakes_iff.mp overtakes
  have switched : s.switchToPatching = s.overtaken sc := by
    unfold State.switchToPatching
    rw [found]
    dsimp only
    rw [if_neg (by simp [unpatched])]
    rfl
  have scan : (s.overtaken sc).serve.seng.scan = some (sc.switched s.capu) := by
    rw [State.serve_eq]
    rfl
  unfold State.outputLine
  rw [empty]
  dsimp only
  rw [if_pos overtakes, switched, scan]
  exact State.emitLine_eq _ _ _ false _

end

/-! ### What SENG produces (R92, R98, R99) -/

section
variable {g : Seng} {sc : Scan} {i : SlotId} {n : Nat}

theorem Seng.slotLine_of_read {e : ReadEntry} (patching : Bool)
    (buffered : (g.readAhead.find? fun x => x.slot == i && x.line == n) = some e) :
    g.slotLine sc i n patching = { pixels := e.pixels, patched := patching } := by
  unfold Seng.slotLine
  rw [buffered]

theorem Seng.slotLine_of_late (patching : Bool)
    (late : (g.readAhead.find? fun x => x.slot == i && x.line == n) = none) :
    g.slotLine sc i n patching = { pixels := g.previous.getD (List.replicate sc.width sc.fill), patched := true } := by
  unfold Seng.slotLine
  rw [late]
  rfl

theorem Seng.produce_own (unpatched : sc.patchFrom = none) (slot : sc.slotFor n = some i) :
    g.produce sc n = g.slotLine sc i n false := by
  unfold Seng.produce
  rw [unpatched, slot]

theorem Seng.produce_fill (unpatched : sc.patchFrom = none) (fill : sc.slotFor n = none) :
    g.produce sc n = { pixels := List.replicate sc.width sc.fill, patched := false } := by
  unfold Seng.produce
  rw [unpatched, fill]
  rfl

theorem Seng.produce_patch {k : Nat} (patched : sc.patchFrom = some k) (slot : sc.slotFor n = some i) :
    g.produce sc n = g.slotLine sc i n true := by
  unfold Seng.produce
  rw [patched, slot]

theorem Seng.produce_patch_fill {k : Nat} (patched : sc.patchFrom = some k) (fill : sc.slotFor n = none) :
    g.produce sc n = { pixels := List.replicate sc.width sc.fill, patched := true } := by
  unfold Seng.produce
  rw [patched, fill]
  rfl

/-- Every line of a patching scan counts as patched (R100). -/
theorem Seng.produce_patched {k : Nat} (patched : sc.patchFrom = some k) : (g.produce sc n).patched = true := by
  cases slot : sc.slotFor n with
  | none => rw [Seng.produce_patch_fill patched slot]
  | some i =>
    rw [Seng.produce_patch patched slot]
    unfold Seng.slotLine
    split <;> rfl

end

end

/-! ### A line has left and the port is served (R92, R94, R106, R123, R134) -/

/-- What a line's leaving and the serving of the port after it make of `s`: the next state `t`, its scan `sc'`. -/
structure State.LineLeaves (s : State) (sc : Scan) (pixels : List GamePixel) (patched coupled : Bool) (t : State)
    (sc' : Scan) : Prop where
  panel : t.panel = { s.panel with line := some (sc.nextOut, s.composeLine sc sc.nextOut pixels) }
  zsu : t.zsu = s.zsu.takeLine sc.width sc.lines sc.nextOut (s.composeLine sc sc.nextOut pixels)
  ocmp : t.ocmp = if sc.nextOut + 1 < sc.lines then
      { target := some (sc.nextOut + 1)
        cache := s.ocmp.cache.filter fun c => decide (c.1 ∈ s.lineSet sc (sc.nextOut + 1)) }
    else { s.ocmp with target := none }
  evu : t.evu = if patched = true ∧ sc.patchReported = false then s.evu.raise .linesPatched else s.evu
  scan : t.seng.scan = some sc'
  record : sc' = { sc with
    nextOut := sc.nextOut + 1, nextLine := if coupled then sc.nextLine else sc.nextOut + 1
    patched := if patched then sc.patched + 1 else sc.patched, patchReported := sc.patchReported || patched
    choices := sc'.choices }
  pipeline : t.seng.pipeline = if coupled then s.seng.pipeline.tail else s.seng.pipeline
  readAhead : t.seng.readAhead = s.seng.readAhead.filter fun e => decide (sc.nextOut < e.line)
  previous : t.seng.previous = if coupled then s.seng.previous else some pixels
  scanRead : ∀ i, sc.slotFor sc.nextOut = some i → t.marb.scanRead ≠ some (i, sc.nextOut)
  overlayRead : ∀ r ∈ t.marb.overlayRead, sc.nextOut + 1 < sc.lines ∧ r.2 ∈ s.lineSet sc (sc.nextOut + 1)
  frame : t = { s with
    panel := t.panel, zsu := t.zsu, marb := t.marb, seng := t.seng, ocmp := t.ocmp, evu := t.evu, free := t.free }

namespace State.LineLeaves

variable {s t : State} {sc sc' : Scan} {pixels : List GamePixel} {patched coupled : Bool}

theorem nextOut (h : LineLeaves s sc pixels patched coupled t sc') : sc'.nextOut = sc.nextOut + 1 := by rw [h.record]

theorem nextLine (h : LineLeaves s sc pixels patched coupled t sc') :
    sc'.nextLine = if coupled then sc.nextLine else sc.nextOut + 1 := by rw [h.record]

theorem patchCount (h : LineLeaves s sc pixels patched coupled t sc') :
    sc'.patched = if patched then sc.patched + 1 else sc.patched := by rw [h.record]

theorem patchFrom (h : LineLeaves s sc pixels patched coupled t sc') : sc'.patchFrom = sc.patchFrom := by rw [h.record]

/-- The first patched line of a scan raises LINES_PATCHED, and a later one nothing (R100). -/
theorem linesPatched (h : LineLeaves s sc pixels true coupled t sc') :
    (sc.patchReported = false → t.evu = s.evu.raise .linesPatched) ∧ (sc.patchReported = true → t.evu = s.evu) :=
  ⟨fun first => h.evu.trans (if_pos ⟨rfl, first⟩), fun told => h.evu.trans (if_neg (by simp [told]))⟩

end State.LineLeaves

section
variable (s : State) (sc : Scan) (pixels : List GamePixel) (patched coupled : Bool)

/-- The scan after its line has left. -/
def Scan.afterLine (c : Capu) : Scan :=
  Scan.withChoices { sc with
    nextOut := sc.nextOut + 1, nextLine := if coupled then sc.nextLine else sc.nextOut + 1
    patched := if patched then sc.patched + 1 else sc.patched
    patchReported := sc.patchReported || patched } c

theorem State.lineLeft_scan :
    (s.lineLeft sc pixels patched coupled).seng.scan = some (sc.afterLine patched coupled s.capu) := rfl

/-- A waiting read of the line that left is withdrawn, and the window has moved past it (R94, R99). -/
theorem State.lineLeft_scanRead {i : SlotId} (slot : sc.slotFor sc.nextOut = some i) :
    (s.lineLeft sc pixels patched coupled).serve.marb.scanRead ≠ some (i, sc.nextOut) := by
  intro waits
  rcases State.scanRead_of_serve waits with waited | wanted
  · have kept := Option.filter_eq_some_iff.mp waited
    simp [slot] at kept
  · have inWindow := State.mem_window_of_scanDesire (s.lineLeft_scan sc pixels patched coupled) wanted
    rw [Scan.afterLine, Scan.withChoices_eq] at inWindow
    have above := ((Scan.mem_window _ _).mp inWindow).1
    dsimp only at above
    omega

/-- An overlay read that waits after the line is in the new target's set (R123). -/
theorem State.lineLeft_overlayRead {r : Plane × Nat}
    (waits : (s.lineLeft sc pixels patched coupled).serve.marb.overlayRead = some r) :
    sc.nextOut + 1 < sc.lines ∧ r.2 ∈ s.lineSet sc (sc.nextOut + 1) := by
  have sets : (s.lineLeft sc pixels patched coupled).lineSet (sc.afterLine patched coupled s.capu) (sc.nextOut + 1)
      = s.lineSet sc (sc.nextOut + 1) := by
    unfold Scan.afterLine
    rw [Scan.withChoices_eq]
    rfl
  by_cases more : sc.nextOut + 1 < sc.lines
  · refine ⟨more, ?_⟩
    rcases State.overlayRead_of_serve waits with waited | wanted
    · simp only [State.lineLeft, if_pos more, Option.filter_eq_some_iff, decide_eq_true_eq] at waited
      exact waited.2
    · obtain ⟨y, target, inSet⟩ :=
        State.mem_lineSet_of_overlayReadDesire (s.lineLeft_scan sc pixels patched coupled) wanted
      simp only [State.lineLeft, if_pos more, Option.some.injEq] at target
      rwa [← target, sets] at inSet
  · exfalso
    rcases State.overlayRead_of_serve waits with waited | wanted
    · simp [State.lineLeft, more] at waited
    · obtain ⟨y, target, -⟩ :=
        State.mem_lineSet_of_overlayReadDesire (s.lineLeft_scan sc pixels patched coupled) wanted
      simp [State.lineLeft, more] at target

theorem State.lineLeaves : LineLeaves s sc pixels patched coupled (s.lineLeft sc pixels patched coupled).serve
    (sc.afterLine patched coupled s.capu) := by
  have scanRead := fun i => State.lineLeft_scanRead s sc pixels patched coupled (i := i)
  have overlayRead := fun r => State.lineLeft_overlayRead s sc pixels patched coupled (r := r)
  rw [State.serve_eq]
  refine ⟨rfl, rfl, rfl, rfl, rfl, Scan.withChoices_eq _ _, rfl, rfl, rfl, scanRead, overlayRead, rfl⟩

end

end Sys2Proof.Machine

namespace Sys2Proof.Machine

open State

/-! ### An overtake (R96, R98, log 23) -/

section
variable {s : State} {sc : Scan}

theorem Scan.switched_eq (sc : Scan) (c : Capu) : sc.switched c =
    { sc with patchFrom := some sc.nextLine, choices := (sc.switched c).choices } := Scan.withChoices_eq _ c

/-- The patch source of a line: the latest slot when it is not the scan source and has the format in force (R98). -/
theorem Scan.patchSource_eq_some_iff {c : Capu} {j : SlotId} : sc.patchSource c = some j ↔
    c.latest = some j ∧ sc.scanSource ≠ some j ∧ c.slots[j].width = sc.width ∧ c.slots[j].lines = sc.lines := by
  unfold Scan.patchSource
  cases c.latest with
  | none => simp
  | some i => grind

/-- The line of the overtake is read from the patch source chosen at the switch (R96, R98). -/
theorem Scan.switched_slotFor {c : Capu} (at_line : sc.nextLine = sc.nextOut) (unchosen : sc.choices = [])
    (more : sc.nextOut < sc.lines) : (sc.switched c).slotFor sc.nextOut = sc.patchSource c :=
  Scan.patched_slotFor sc c unchosen at_line.le le_rfl (Nat.le_add_right _ 3) more

/-- The pixels of an overtaken line: nothing is read ahead at the switch, so that a line of the patch source is late and
shows the previous line, and any other is of the fill colour (R98, R99). -/
def State.overtakenPixels (sc : Scan) (s : State) : List GamePixel :=
  if (sc.patchSource s.capu).isSome then s.seng.previous.getD (List.replicate sc.width sc.fill)
  else List.replicate sc.width sc.fill

theorem State.overtakenPixels_of_some {j : SlotId} (source : sc.patchSource s.capu = some j) :
    s.overtakenPixels sc = s.seng.previous.getD (List.replicate sc.width sc.fill) := by
  rw [State.overtakenPixels, source]
  rfl

theorem State.overtakenPixels_of_none (source : sc.patchSource s.capu = none) :
    s.overtakenPixels sc = List.replicate sc.width sc.fill := by
  rw [State.overtakenPixels, source]
  rfl

/-- An overtaken line leaves as a patched one, from the engine switched to patching and the port served (R96, R99). -/
theorem State.outputLine_overtaken (empty : s.seng.pipeline = []) (found : s.seng.scan = some sc)
    (overtakes : s.overtakes sc = true) (at_line : sc.nextLine = sc.nextOut) (unchosen : sc.choices = [])
    (more : sc.nextOut < sc.lines) :
    s.outputLine sc = (s.overtaken sc).serve.lineLeft (sc.switched s.capu) (s.overtakenPixels sc) true false := by
  have slot := Scan.switched_slotFor (c := s.capu) at_line unchosen more
  have patched : (sc.switched s.capu).patchFrom = some sc.nextLine := Scan.withChoices_patchFrom _ _
  have next : (sc.switched s.capu).nextOut = sc.nextOut := by rw [Scan.switched_eq]
  have colour : List.replicate (sc.switched s.capu).width (sc.switched s.capu).fill
      = List.replicate sc.width sc.fill := by rw [Scan.switched_eq]
  have produced : (s.overtaken sc).serve.seng.produce (sc.switched s.capu) sc.nextOut =
      { pixels := s.overtakenPixels sc, patched := true } := by
    rw [State.serve_eq]
    cases source : sc.patchSource s.capu with
    | none => rw [Seng.produce_patch_fill patched (slot.trans source), colour, s.overtakenPixels_of_none source]
    | some j =>
      rw [Seng.produce_patch patched (slot.trans source), Seng.slotLine_of_late true rfl, colour,
        s.overtakenPixels_of_some source]
      rfl
  rw [State.outputLine_of_overtake empty found overtakes]
  dsimp only
  rw [next, produced]

/-- At an idle port the patch read of the overtaken line is requested and granted at the switch (R94, R96). -/
theorem State.overtaken_serve_transfer {j : SlotId} (found : s.seng.scan = some sc)
    (at_line : sc.nextLine = sc.nextOut) (unchosen : sc.choices = []) (more : sc.nextOut < sc.lines)
    (source : sc.patchSource s.capu = some j) (transfer : s.marb.transfer = none)
    (maintenance : s.marb.maintenance = .none) (outside : s.dctl.isLoading = false)
    (noCapture : s.marb.captureWrite = none) (noRead : s.marb.scanRead = none) (empty : s.capu.buffer = [])
    (noOverlay : s.overlayReadDesire = none) :
    (s.overtaken sc).serve.marb.transfer = some (.scanRead j sc.nextOut true) := by
  have idle : (s.overtaken sc).makeRequests.canGrant = true :=
    (State.makeRequests_canGrant _).mpr ⟨transfer, maintenance, outside⟩
  have overlay : (s.overtaken sc).overlayReadDesire = none := by
    rw [← noOverlay]
    unfold State.overlayReadDesire
    rw [found, State.overtaken, Scan.switched_eq]
    cases s.ocmp.target <;> rfl
  have capture : (s.overtaken sc).captureDesire = none := by
    simp [State.captureDesire, State.overtaken, empty]
  have window : (sc.switched s.capu).nextOut = sc.nextOut ∧ (sc.switched s.capu).lines = sc.lines
      ∧ (sc.switched s.capu).patchFrom = some sc.nextLine := by
    rw [Scan.switched_eq]
    exact ⟨rfl, rfl, rfl⟩
  obtain ⟨next, lines, patched⟩ := window
  have wanted : (s.overtaken sc).scanDesire = some (j, sc.nextOut) := by
    have slot := (Scan.switched_slotFor (c := s.capu) at_line unchosen more).trans source
    refine (State.scanDesire_eq_some_iff (s.overtaken sc) rfl noRead (by simp [State.overtaken, transfer])
      (Nat.zero_lt_succ 3) j sc.nextOut).mpr ⟨⟨?_, ?_, ?_, nofun, slot, .inl ?_⟩, fun m below i ⟨low, _⟩ => ?_⟩
    · exact next.le
    · rw [next]
      exact Nat.le_add_right _ 3
    · rwa [lines]
    · rw [patched]
      rfl
    · omega
  rw [State.serve_of_idle _ idle (.inr overlay), State.grant_of_scanRead (r := (j, sc.nextOut))]
  · rfl
  · show s.marb.captureWrite.or _ = none
    rw [noCapture, capture]
    rfl
  · refine State.eligibleScanRead_of_no_entry ?_ fun e mem => absurd mem (by simp [State.overtaken, empty])
    show s.marb.scanRead.or _ = _
    rw [noRead, wanted]
    rfl

/-- A line that leaves while a transfer is in progress leaves the transfer (R24). -/
theorem State.lineLeft_serve_transfer {x : Transfer} (s : State) (sc : Scan) (pixels : List GamePixel)
    (patched coupled : Bool) (transfer : s.marb.transfer = some x) :
    (s.lineLeft sc pixels patched coupled).serve.marb.transfer = some x := by
  have held : (s.lineLeft sc pixels patched coupled).marb.transfer = some x := transfer
  rw [State.serve_of_not_idle _ (.inl (by rw [held]; rfl))]
  exact held

/-- Every output line leaves as `State.lineLeft` has it, from the state the output time finds or from the one an
overtake leaves. -/
theorem State.outputLine_eq (found : s.seng.scan = some sc) :
    ∃ marb free scan readAhead patchFrom choices pixels patched coupled,
      (∀ e ∈ readAhead, e ∈ s.seng.readAhead)
      ∧ s.outputLine sc = State.lineLeft { sc with patchFrom := patchFrom, choices := choices } pixels patched coupled
          { s with marb := marb, free := free, seng := { s.seng with scan := scan, readAhead := readAhead } } := by
  cases pipeline : s.seng.pipeline with
  | cons l rest => exact ⟨_, _, _, _, _, _, _, _, _, fun _ => id, State.outputLine_of_pipeline pipeline⟩
  | nil =>
    by_cases overtakes : s.overtakes sc = true
    · have line := State.outputLine_of_overtake pipeline found overtakes
      rw [State.serve_eq, Scan.switched_eq] at line
      exact ⟨_, _, _, [], _, _, _, _, _, fun _ mem => absurd mem List.not_mem_nil, line⟩
    · exact ⟨_, _, _, _, _, _, _, _, _, fun _ => id, State.outputLine_of_produced pipeline overtakes⟩

/-! ### The scan end (R80, R102, log 17) -/

theorem State.afterScanEnd_of_stop (stop : s.ssch.stopRequested = true) : s.afterScanEnd = s.offReached := by
  rw [State.afterScanEnd, if_pos stop, State.reachOff_eq]

/-- Without a stop requested SSCH takes a scan end in HOLD, where a MIN already EXPIRED is taken (R75, R80). -/
theorem State.afterScanEnd_of_run (run : s.ssch.stopRequested = false) :
    s.afterScanEnd = State.takeActive { s with ssch := { s.ssch with state := .hold } } := by
  rw [State.afterScanEnd, if_neg (by simp [run])]
  rfl

theorem State.takeActive_of_waiting (hold : s.ssch.state = .hold) (waiting : s.ssch.min.isExpired = false) :
    s.takeActive = s := by
  rw [s.takeActive_of_quiet_hold fun _ => waiting, if_neg (by simp [hold])]

theorem State.afterScanEnd_of_waiting (run : s.ssch.stopRequested = false) (waiting : s.ssch.min.isExpired = false) :
    s.afterScanEnd = { s with ssch := { s.ssch with state := .hold } } :=
  (State.afterScanEnd_of_run run).trans (State.takeActive_of_waiting rfl waiting)

/-- The scheduler's reaching OFF leaves the log, the slots and the engine's buffers (R85, R105). -/
theorem State.offReached_facts (s : State) : s.offReached.ssch.state = .off ∧ s.offReached.seng.output = .idle
    ∧ s.offReached.dctl = .standby ∧ s.offReached.frl = s.frl ∧ s.offReached.capu = s.capu
    ∧ s.offReached.seng = { s.seng with output := .idle } := by
  unfold State.offReached
  cases s.tbc.commitPending <;> exact ⟨rfl, rfl, rfl, rfl, rfl, rfl⟩

/-- The scan source that neither the fill nor the latest holds is emptied at a scan end (R18). -/
theorem State.scanOver_emptied {i : SlotId} (cut : Bool) (source : sc.scanSource = some i)
    (notFill : s.capu.fill ≠ some i) (notLatest : s.capu.latest ≠ some i) :
    (s.scanOver cut sc).capu.slots[i] = SlotRecord.emptied := by
  unfold State.scanOver
  rw [source]
  simp [notFill, notLatest]

end

end Sys2Proof.Machine

namespace Sys2Proof.Machine

open State

/-! ### OUTPUT_TIME as an instruction (R93) -/

section
variable {dt due : Nat} {s : State} {sc : Scan}

theorem outputTime_exec (released : s.pins.reset = false) (dt : Nat) :
    exec (.outputTime dt) s = .next (s.after dt).outputTime.serve :=
  congrArg _ (arrival_of released dt _)

theorem State.outputDue_of_pipeline {l : ProducedLine} {rest : List ProducedLine}
    (head : s.seng.pipeline = l :: rest) : s.outputDue sc = some l.due := by
  unfold State.outputDue
  rw [head]

theorem State.outputDue_of_empty (empty : s.seng.pipeline = []) : s.outputDue sc =
    if sc.kind = .live ∧ sc.patchFrom = none ∧ sc.nextOut < sc.lines then none
    else some (sc.timingBase + (sc.nextOut + 1 - sc.timingFrom) * sc.lineTime) := by
  unfold State.outputDue
  rw [empty]

variable (released : s.pins.reset = false) (found : s.seng.scan = some sc) (at_due : s.outputDue sc = some due)
  (now : due ≤ s.clock + dt)
include released found at_due now

/-- The output time of a line that leaves from the state it finds. -/
theorem outputTime_of_lineLeft {pixels : List GamePixel} {patched coupled : Bool} (more : sc.nextOut < sc.lines)
    (line : (s.after dt).outputLine sc = (s.after dt).lineLeft sc pixels patched coupled) :
    exec (.outputTime dt) s = .next ((s.after dt).lineLeft sc pixels patched coupled).serve := by
  rw [outputTime_exec released, State.outputTime_of_line (s := s.after dt) found at_due now more, line]

/-- The output time of a line of its own timing, when the scan has not overtaken its slot. -/
theorem outputTime_of_produced {made : Produced} (more : sc.nextOut < sc.lines) (empty : s.seng.pipeline = [])
    (within : ¬ s.overtakes sc = true) (produced : s.seng.produce sc sc.nextOut = made) :
    exec (.outputTime dt) s = .next ((s.after dt).lineLeft sc made.pixels made.patched false).serve := by
  subst produced
  exact outputTime_of_lineLeft released found at_due now more
    (State.outputLine_of_produced (s := s.after dt) empty within)

end

section
variable {s : State} {sc : Scan}

/-- A line that has come to the scan's own slot is no overtake (R96). -/
theorem State.not_overtakes_of_come {i : SlotId} (own : sc.scanSource = some i)
    (come : sc.kind = .repeated ∨ s.capu.slots[i].state = .complete
      ∨ sc.nextOut < s.capu.received i ∧ sc.nextOut < s.capu.delivered i) : ¬ s.overtakes sc = true := by
  rw [State.overtakes_iff]
  rintro ⟨j, source, kind, -, filling, behind⟩
  obtain rfl := Option.some.inj (own.symm.trans source)
  rcases come with other | complete | ⟨-, delivered⟩
  · rw [kind] at other; cases other
  · rw [filling] at complete; cases complete
  · omega

theorem Scan.slotFor_of_patched {k n : Nat} (patched : sc.patchFrom = some k) (after : k ≤ n) :
    sc.slotFor n = sc.choice n := by
  unfold Scan.slotFor
  rw [patched]
  exact if_pos after

end

/-- What a patched line is made of: its patch source's entry, late, the previous line, or the fill colour (R98,
R99). -/
theorem Seng.produce_patch_pixels {g : Seng} {sc : Scan} {k : Nat} (patched : sc.patchFrom = some k)
    (after : k ≤ sc.nextOut) :
    let pixels := (g.produce sc sc.nextOut).pixels
    (sc.choice sc.nextOut = none → pixels = List.replicate sc.width sc.fill)
    ∧ (∀ j e, sc.choice sc.nextOut = some j →
        g.readAhead.find? (fun x => x.slot == j && x.line == sc.nextOut) = some e → pixels = e.pixels)
    ∧ ∀ j, sc.choice sc.nextOut = some j →
        g.readAhead.find? (fun x => x.slot == j && x.line == sc.nextOut) = none →
        pixels = g.previous.getD (List.replicate sc.width sc.fill) := by
  intro pixels
  rw [← Scan.slotFor_of_patched patched after]
  refine ⟨fun fill => ?_, fun j e slot read => ?_, fun j slot late => ?_⟩ <;> unfold pixels
  · rw [Seng.produce_patch_fill patched fill]
  · rw [Seng.produce_patch patched slot, Seng.slotLine_of_read true read]
  · rw [Seng.produce_patch patched slot, Seng.slotLine_of_late true late]

/-- Settles O55: by what the output time finds: nothing due, a line of the pipeline, a line of a slot, of the fill
colour or of a patch, an overtake, and the scan end. -/
theorem outputTime : Obligations.OutputTime := by
  intro dt s released
  have run := outputTime_exec released dt
  refine ⟨fun none => ?_, fun sc found => ⟨?_, ?_, ?_, ?_, ?_, ?_, ?_, ?_, ?_, ?_, ?_, ?_, ?_, ?_⟩⟩
  · rw [run, State.outputTime_of_no_scan (s := s.after dt) none]
  · exact fun l rest head => State.outputDue_of_pipeline head
  · exact State.outputDue_of_empty
  · intro start empty origin base own
    rw [State.outputDue_of_empty empty, if_neg own, origin, base, Nat.sub_zero]
    congr 1
    ring
  · exact fun due at_due early => by rw [run, State.outputTime_of_early (s := s.after dt) found at_due early]
  · exact fun none => by rw [run, State.outputTime_of_none (s := s.after dt) found none]
  · intro l rest head now more
    have leaves := (s.after dt).lineLeaves sc l.pixels false true
    refine ⟨_, _, outputTime_of_lineLeft released found (State.outputDue_of_pipeline head) now more
      (State.outputLine_of_pipeline (s := s.after dt) head), leaves.panel, ?_, leaves.previous, leaves.scan,
      leaves.nextOut, leaves.patchCount, leaves.evu, leaves.zsu, ?_, rfl⟩
    · exact leaves.pipeline.trans (congrArg List.tail head)
    · exact leaves.frame.trans (by rw [leaves.evu]; rfl)
  · intro due e i at_due now empty more come unpatched source own read
    have slot : sc.slotFor sc.nextOut = some i := (sc.slotFor_of_unpatched _ unpatched).1 i source
    have leaves := (s.after dt).lineLeaves sc e.pixels false false
    exact ⟨_, _, outputTime_of_produced released found at_due now more empty (State.not_overtakes_of_come own come)
        ((Seng.produce_own unpatched slot).trans (Seng.slotLine_of_read false read)),
      leaves.panel, leaves.scan, leaves.nextOut, leaves.patchCount, leaves.evu,
      leaves.previous, leaves.nextLine, leaves.readAhead, rfl⟩
  · intro due i at_due now empty more come unpatched source own late
    have slot : sc.slotFor sc.nextOut = some i := (sc.slotFor_of_unpatched _ unpatched).1 i source
    have leaves := (s.after dt).lineLeaves sc (s.seng.previous.getD (List.replicate sc.width sc.fill)) true false
    exact ⟨_, _, outputTime_of_produced released found at_due now more empty (State.not_overtakes_of_come own come)
        ((Seng.produce_own unpatched slot).trans (Seng.slotLine_of_late false late)),
      leaves.panel, leaves.scan, leaves.nextOut, leaves.patchCount,
      leaves.linesPatched.1, leaves.linesPatched.2,
      leaves.previous, leaves.nextLine, leaves.readAhead, leaves.scanRead i slot, rfl⟩
  · intro due at_due now empty more fill source unpatched
    have within : ¬ s.overtakes sc = true := by
      rw [State.overtakes_iff]
      rintro ⟨i, -, deferred, -⟩
      rw [fill] at deferred
      cases deferred
    have colour : sc.slotFor sc.nextOut = none := (sc.slotFor_of_unpatched _ unpatched).2 (by simp [source])
    have leaves := (s.after dt).lineLeaves sc (List.replicate sc.width sc.fill) false false
    exact ⟨_, _, outputTime_of_produced released found at_due now more empty within
        (Seng.produce_fill unpatched colour),
      leaves.panel, leaves.scan, leaves.nextOut, leaves.patchCount, leaves.evu,
      leaves.previous, leaves.nextLine, rfl⟩
  · intro due k at_due now empty more patched after
    have within : ¬ s.overtakes sc = true := by
      rw [State.overtakes_iff]
      rintro ⟨i, -, -, unpatched, -⟩
      rw [patched] at unpatched
      cases unpatched
    obtain ⟨filled, read, late⟩ := Seng.produce_patch_pixels (g := s.seng) patched after
    have leaves := (s.after dt).lineLeaves sc (s.seng.produce sc sc.nextOut).pixels true false
    have made : s.seng.produce sc sc.nextOut = { pixels := (s.seng.produce sc sc.nextOut).pixels, patched := true } :=
      congrArg (Produced.mk _) (Seng.produce_patched patched)
    exact ⟨_, _, _, outputTime_of_produced released found at_due now more empty within made, filled, read, late,
      leaves.panel, leaves.previous, leaves.scan, leaves.nextOut,
      leaves.patchCount, leaves.linesPatched.1,
      leaves.linesPatched.2, leaves.nextLine,
      fun j chosen => leaves.scanRead j ((Scan.slotFor_of_patched patched after).trans chosen), rfl⟩
  · intro due i at_due now empty more deferred unpatched unchosen at_line own filling behind fits
    have overtakes : (s.after dt).overtakes sc = true := by
      have counted := s.capu.delivered_le_received i
      exact State.overtakes_iff.mpr ⟨i, own, deferred, unpatched, filling,
        show s.capu.delivered i ≤ sc.nextOut by omega⟩
    have line := State.outputLine_overtaken (s := s.after dt) empty found overtakes at_line unchosen more
    have slot := Scan.switched_slotFor (c := s.capu) at_line unchosen more
    have same : sc.switched s.capu = Scan.withChoices { sc with patchFrom := some sc.nextOut } s.capu := by
      unfold Scan.switched
      rw [at_line]
    have sourced {j : SlotId} (latest : s.capu.latest = some j) (fit : fits j) : sc.patchSource s.capu = some j :=
      Scan.patchSource_eq_some_iff.mpr ⟨latest, fit⟩
    have leaves := ((s.after dt).overtaken sc).serve.lineLeaves (sc.switched s.capu)
      ((s.after dt).overtakenPixels sc) true false
    generalize left : (((s.after dt).overtaken sc).serve.lineLeft (sc.switched s.capu)
      ((s.after dt).overtakenPixels sc) true false).serve = t at leaves
    have taken : exec (.outputTime dt) s = .next t := by
      rw [run, State.outputTime_of_line (s := s.after dt) found at_due now more, line]
      exact congrArg _ left
    rw [State.serve_eq, Scan.switched_eq] at leaves
    rw [Scan.switched_eq] at slot
    refine ⟨t, _, _, taken, fun j latest fit => State.overtakenPixels_of_some (sourced latest fit), fun unfit => ?_,
      leaves.panel, leaves.scan, leaves.patchFrom.trans (congrArg some at_line), leaves.nextOut, leaves.patchCount,
      leaves.linesPatched.1, leaves.linesPatched.2, leaves.previous, leaves.nextLine, leaves.readAhead,
      fun j latest fit => leaves.scanRead j (slot.trans (sourced latest fit)), ?_, ?_⟩
    · refine State.overtakenPixels_of_none (Option.eq_none_iff_forall_ne_some.mpr fun j source => ?_)
      obtain ⟨latest, fit⟩ := Scan.patchSource_eq_some_iff.mp source
      exact unfit j latest fit
    · rw [← same]
      exact left.symm
    · intro j latest fit transfer maintenance outside noCapture noRead noEntry noOverlay
      rw [← left]
      exact State.lineLeft_serve_transfer _ _ _ _ _ (State.overtaken_serve_transfer (s := s.after dt) found at_line
        unchosen more (sourced latest fit) transfer maintenance outside noCapture noRead noEntry noOverlay)
  · intro due at_due now more
    obtain ⟨marb, free, scan, readAhead, patchFrom, choices, pixels, patched, coupled, kept, line⟩ :=
      State.outputLine_eq (s := s.after dt) found
    have leaves := State.lineLeaves
      { s.after dt with marb := marb, free := free, seng := { s.seng with scan := scan, readAhead := readAhead } }
      { sc with patchFrom := patchFrom, choices := choices } pixels patched coupled
    refine ⟨_, _, _, ?_, leaves.scan, leaves.nextOut, by rw [leaves.record], by rw [leaves.record],
      by rw [leaves.record], by rw [leaves.record], by rw [leaves.record], fun e mem => ?_, leaves.overlayRead,
      leaves.panel, leaves.zsu, leaves.ocmp, leaves.frame⟩
    · rw [run, State.outputTime_of_line (s := s.after dt) found at_due now more, line]
      rfl
    · rw [leaves.readAhead, List.mem_filter] at mem
      exact ⟨kept e mem.1, of_decide_eq_true mem.2⟩
  · intro due at_due now last quiet
    rw [run, State.outputTime_of_end (s := s.after dt) found at_due now last]
    cases stop : s.ssch.stopRequested with
    | true =>
      obtain ⟨state, output, dctl, frl, capu, seng⟩ := ((s.after dt).scanOver false sc).offReached_facts
      rw [State.afterScanEnd_of_stop (s := (s.after dt).scanOver false sc) stop, State.serve_eq]
      refine ⟨_, rfl, frl, ?_, ?_, ?_, ?_, fun i own notFill notLatest => ?_, nofun, fun _ => ⟨state, output, dctl⟩⟩
      · exact congrArg Seng.scan seng
      · exact congrArg Seng.pipeline seng
      · exact congrArg Seng.readAhead seng
      · exact congrArg (·.sequence) seng
      · exact (congrArg (·.slots[i]) capu).trans (State.scanOver_emptied (s := s.after dt) false own notFill notLatest)
    | false =>
      have waiting : s.ssch.min.isExpired = false := quiet.resolve_left (by simp [stop])
      rw [State.afterScanEnd_of_waiting (s := (s.after dt).scanOver false sc) stop waiting, State.serve_eq]
      exact ⟨_, rfl, rfl, rfl, rfl, rfl, rfl,
        fun i own notFill notLatest => State.scanOver_emptied (s := s.after dt) false own notFill notLatest,
        fun _ => ⟨rfl, rfl, rfl, rfl, rfl⟩, nofun⟩
  · intro due at_due now last ended held opened
    have acted : exec (.outputTime dt) s = .next ended.afterScanEnd.serve := by
      rw [run, State.outputTime_of_end (s := s.after dt) found at_due now last]
    rw [acted]
    by_cases stop : s.ssch.stopRequested = true
    · rw [if_pos stop, State.afterScanEnd_of_stop (s := ended) stop]
    · have ran : ended.ssch.stopRequested = false := Bool.eq_false_iff.mpr stop
      rw [if_neg stop]
      by_cases expired : s.ssch.min.isExpired = true
      · have taken : ended.afterScanEnd = _ :=
          (State.afterScanEnd_of_run ran).trans (State.takeActive_of_hold (s := held) rfl expired)
        rw [if_pos expired, taken]
        cases pending : s.ssch.pending with
        | some p => rfl
        | none =>
          dsimp only
          rw [State.takeOpen_eq, apply_ite State.serve, apply_ite State.serve]
          rfl
      · have waiting : ended.ssch.min.isExpired = false := Bool.eq_false_iff.mpr expired
        rw [if_neg expired, State.afterScanEnd_of_waiting (s := ended) ran waiting]
        rfl

end Sys2Proof.Machine

namespace Sys2Proof.Machine

open State

/-! ### The log as its operations leave it (R146, R148, R150) -/

/-- The ring holds at most 32 records, their numbers run up to the next scan's, and the cursor is at one of them or at
the next number (R146, R150). -/
structure Frl.Consecutive (f : Frl) : Prop where
  length : f.ring.length ≤ 32
  run : ∀ k, (h : k < f.ring.length) → f.ring[k].sequence + BitVec.ofNat 16 (f.ring.length - k) = f.next
  cursor : ∀ c, f.cursor = some c → (f.next - c).toNat ≤ f.ring.length

namespace Frl

variable {f : Frl} {r : FrameRecord}

/-- The oldest record leaves (R148 step 1). -/
def withoutOldest (f : Frl) : Frl := { f with ring := f.ring.drop 1, cursor := f.cursorAfterDrop }

/-- A record is put after the newest (R148 steps 2 and 3). -/
def append (f : Frl) (r : FrameRecord) : Frl := { f with ring := f.ring ++ [r], next := r.sequence + 1 }

theorem add_of_room (room : f.ring.length < 32) : f.add r = f.append r := by
  unfold add Config.ringSize
  rw [if_neg (by omega)]
  rfl

theorem add_of_full (full : 32 ≤ f.ring.length) : f.add r = f.withoutOldest.append r := by
  unfold add Config.ringSize
  rw [if_pos full]
  rfl

/-- A cursor on the oldest record moves on by one when that record leaves (R148, R150). -/
theorem cursorAfterDrop_eq {oldest : FrameRecord} {rest : List FrameRecord} (ring : f.ring = oldest :: rest) :
    f.cursorAfterDrop = f.cursor.map fun c => if oldest.sequence = c then c + 1 else c := by
  unfold cursorAfterDrop
  rw [ring]
  cases f.cursor with
  | none => rfl
  | some c => exact (apply_ite some _ _ _).symm

namespace Consecutive

theorem append (h : f.Consecutive) (room : f.ring.length < 32) (next : r.sequence = f.next) :
    (f.append r).Consecutive where
  length := by simpa [Frl.append] using room
  run k within := by
    simp only [Frl.append, List.length_append, List.length_singleton] at within ⊢
    rw [next]
    by_cases old : k < f.ring.length
    · have up := h.run k old
      rw [List.getElem_append_left old, ← up, show f.ring.length + 1 - k = f.ring.length - k + 1 by omega]
      bv_omega
    · have newest : k = f.ring.length := by omega
      subst newest
      simp [next]
  cursor c at_c := by
    have bound := h.cursor c at_c
    simp only [Frl.append, List.length_append, List.length_singleton, next]
    bv_omega

theorem withoutOldest (h : f.Consecutive) {oldest : FrameRecord} {rest : List FrameRecord}
    (ring : f.ring = oldest :: rest) : f.withoutOldest.Consecutive := by
  obtain ⟨length, run, cursor⟩ := h
  have dropped : f.withoutOldest.ring = rest := by simp [Frl.withoutOldest, ring]
  have moved : f.withoutOldest.cursor = _ := cursorAfterDrop_eq ring
  have first := run 0 (by simp [ring])
  simp only [ring, List.length_cons, List.getElem_cons_zero] at length first cursor
  refine ⟨by rw [dropped]; omega, fun k within => ?_, fun c at_c => ?_⟩
  · have up := run (k + 1) (by rw [dropped] at within; simpa [ring] using within)
    simpa [dropped, ring, Frl.withoutOldest] using up
  · rw [moved, Option.map_eq_some_iff] at at_c
    obtain ⟨c', found, rfl⟩ := at_c
    have bound := cursor c' found
    rw [dropped, show f.withoutOldest.next = f.next from rfl]
    split <;> bv_omega

theorem add (h : f.Consecutive) (next : r.sequence = f.next) : (f.add r).Consecutive := by
  by_cases room : f.ring.length < 32
  · rw [add_of_room room]
    exact h.append room next
  · have full : 32 ≤ f.ring.length := by omega
    obtain ⟨oldest, rest, ring⟩ := List.exists_cons_of_length_pos (by omega : 0 < f.ring.length)
    have left : f.withoutOldest.ring.length = f.ring.length - 1 := by simp [Frl.withoutOldest]
    have few := h.length
    rw [add_of_full full]
    exact (h.withoutOldest ring).append (by omega) next

/-- A cursor that is set anew, on the next number, waits for no held record (R149). -/
theorem setCursor (h : f.Consecutive) {cursor : Option Half} (at_next : ∀ c, cursor = some c → c = f.next) :
    Consecutive { f with cursor := cursor } :=
  ⟨h.length, h.run, fun c found => by simp [at_next c found]⟩

theorem taken_length_le {c : Half} (at_c : f.cursor = some c) (room : Nat) :
    (f.taken room).length ≤ (f.next - c).toNat := by
  simp only [Frl.taken, Frl.waiting, at_c, List.length_take, List.length_drop]
  omega

/-- The cursor moves on over the records a window takes (R150). -/
theorem afterWindow (h : f.Consecutive) (room : Nat) : (f.afterWindow room).Consecutive := by
  refine ⟨h.length, h.run, fun c moved => ?_⟩
  simp only [Frl.afterWindow, Option.map_eq_some_iff] at moved ⊢
  obtain ⟨c', found, rfl⟩ := moved
  have bound := h.cursor c' found
  have taken := taken_length_le found room
  bv_omega

end Consecutive

end Frl

end Sys2Proof.Machine

namespace Sys2Proof.Machine

open State

/-! ### The log and the scan numbers (R90, R148)

The record invariant speaks of the log, of the next scan's number and of the number of the scan in flight:
`State.logKey`. Between a scan's start and its end the engine's operations keep all three. -/

/-- The log, the next scan's number, and the number of the scan in flight. -/
def State.logKey (s : State) : Frl × Half × Option Half := (s.frl, s.seng.sequence, s.seng.scan.map (·.sequence))

variable {s t : State}

theorem State.logKey_of_frame (frl : t.frl = s.frl) (seng : t.seng = s.seng) : t.logKey = s.logKey := by
  rw [State.logKey, frl, seng]; rfl

theorem State.logKey_of_scan {g : Seng} (sequence : g.sequence = s.seng.sequence)
    (scan : g.scan.map (·.sequence) = s.seng.scan.map (·.sequence)) : (s.setSeng g).logKey = s.logKey := by
  simp [State.logKey, sequence, scan]

/-- The number of the scan in flight is the log's next one, and the next scan's is the one after it; with no scan in
flight the next scan's number is the log's next one (R90, R146). -/
def Numbered (next sequence : Half) : Option Half → Prop
  | some own => own = next ∧ sequence = own + 1
  | none => sequence = next

/-- The record invariant read off the log and the scan numbers. -/
def LogAgrees (key : Frl × Half × Option Half) : Prop := key.1.Consecutive ∧ Numbered key.1.next key.2.1 key.2.2

theorem recordInv_iff : RecordInv s ↔ LogAgrees s.logKey := by
  have numbers : (match s.seng.scan with
      | some sc => sc.sequence = s.frl.next ∧ s.seng.sequence = sc.sequence + 1
      | none => s.seng.sequence = s.frl.next) ↔
      Numbered s.frl.next s.seng.sequence (s.seng.scan.map (·.sequence)) := by
    cases s.seng.scan <;> rfl
  constructor
  · rintro ⟨length, run, cursor, numbered⟩
    exact ⟨⟨length, run, cursor⟩, numbers.mp numbered⟩
  · rintro ⟨⟨length, run, cursor⟩, numbered⟩
    exact ⟨length, run, cursor, numbers.mpr numbered⟩

theorem RecordInv.of_key (h : RecordInv s) (key : t.logKey = s.logKey) : RecordInv t := by
  rw [recordInv_iff] at h ⊢
  rwa [key]

variable (s)

/-! ### Operations that keep the log and the scan numbers -/

@[simp] theorem logKey_raise (e : EventSource) : (s.raise e).logKey = s.logKey := logKey_of_frame (by simp) (by simp)

@[simp] theorem logKey_serve : s.serve.logKey = s.logKey := logKey_of_frame (by simp) (by simp)

@[simp] theorem logKey_drawn : s.drawn.logKey = s.logKey := logKey_of_frame (by simp) (by simp)

@[simp] theorem logKey_withCrp (c : Crp) : (s.withCrp c).logKey = s.logKey := logKey_of_frame (by simp) (by simp)

@[simp] theorem logKey_setSsch (x : Ssch) : (s.setSsch x).logKey = s.logKey := rfl

@[simp] theorem logKey_addReply (tag code : Byte) (status : Status) (payload : List Byte) :
    (s.addReply tag code status payload).logKey = s.logKey := logKey_of_frame (by simp) (by simp)

@[simp] theorem logKey_clearPending (frame : Word) : (s.clearPending frame).logKey = s.logKey :=
  logKey_of_frame (by simp) (by simp)

@[simp] theorem logKey_cadenceLfs (frame time : Word) : (s.cadenceLfs frame time).logKey = s.logKey :=
  logKey_of_frame (by simp) (by simp)

@[simp] theorem Scan.withChoices_sequence (sc : Scan) (c : Capu) : (sc.withChoices c).sequence = sc.sequence := by
  unfold Scan.withChoices
  split <;> rfl

@[simp] theorem logKey_switchToPatching : s.switchToPatching.logKey = s.logKey := by
  unfold State.switchToPatching
  split
  · rfl
  · next sc found =>
    split
    · rfl
    · exact logKey_of_scan rfl (by simp [found])

@[simp] theorem logKey_engineMalformed (frame : Word) (line : Nat) :
    (s.engineMalformed frame line).logKey = s.logKey := by
  unfold State.engineMalformed
  (repeat' split) <;> simp

@[simp] theorem logKey_engineAbandoned (i : SlotId) : (s.engineAbandoned i).logKey = s.logKey := by
  unfold State.engineAbandoned
  (repeat' split) <;> simp

@[simp] theorem logKey_abandonCapture (i : SlotId) : (s.abandonCapture i).logKey = s.logKey := by
  have undone : (s.undoCapture i).logKey = s.logKey := logKey_of_frame (by simp) (by simp)
  unfold State.abandonCapture
  split <;> simp [undone]

@[simp] theorem logKey_abandonFrame (frame : Word) : (s.abandonFrame frame).logKey = s.logKey := by
  unfold State.abandonFrame
  split <;> simp

@[simp] theorem logKey_closeCheck : s.closeCheck.logKey = s.logKey := rfl

@[simp] theorem logKey_malformed (frame : Word) (k : Nat) : (s.malformed frame k).logKey = s.logKey := by
  simp [State.malformed]

@[simp] theorem logKey_cutArriving : s.cutArriving.logKey = s.logKey := by
  unfold State.cutArriving
  split <;> simp

@[simp] theorem logKey_captureLine (frame : Word) (line : Nat) (pixels : List GamePixel) :
    (s.captureLine frame line pixels).logKey = s.logKey := by
  unfold State.captureLine
  split
  · rfl
  · split
    · rfl
    · simp

@[simp] theorem logKey_engineLine (frame : Word) (line start : Nat) (pixels : List GamePixel) :
    (s.engineLine frame line start pixels).logKey = s.logKey := by
  unfold State.engineLine
  split
  · rfl
  · next sc found =>
    split
    · exact logKey_of_scan rfl (by simp [found])
    · rfl

@[simp] theorem logKey_takeLineStart : s.takeLineStart.logKey = s.logKey := by
  unfold State.takeLineStart State.arrivingLineStart
  split
  · rfl
  · split
    · simp
    · split
      · rfl
      · simp
  · simp

@[simp] theorem logKey_takeLineEnd (pixels : List GamePixel) : (s.takeLineEnd pixels).logKey = s.logKey := by
  have counted (u : State) (f : FrameCheck) : (u.countLine f).logKey = u.logKey := logKey_of_frame (by simp) (by simp)
  unfold State.takeLineEnd State.handOn
  (repeat' split) <;> simp [counted]

@[simp] theorem logKey_takeBlanking : s.takeBlanking.logKey = s.logKey := by
  unfold State.takeBlanking
  split <;> simp

@[simp] theorem logKey_lineOverdue : s.lineOverdue.logKey = s.logKey := by
  unfold State.lineOverdue
  (repeat' split) <;> simp

@[simp] theorem logKey_keepSlotLine (i : SlotId) (line : Nat) : (s.keepSlotLine i line).logKey = s.logKey := by
  unfold State.keepSlotLine
  split
  · rfl
  · next sc found =>
    split
    · exact logKey_of_scan rfl (by simp [found])
    · rfl

@[simp] theorem logKey_transferEnds (x : Transfer) : (s.transferActs x).portFreed.logKey = s.logKey := by
  have freed (u : State) : u.portFreed.logKey = u.logKey := logKey_of_frame (by simp) (by simp)
  rw [freed]
  cases x with
  | captureWrite i line => exact logKey_of_frame (by simp) (by simp [State.transferActs])
  | scanRead i line wanted =>
    cases wanted
    · rfl
    · exact logKey_keepSlotLine s i line
  | overlayRead p line wanted =>
    cases wanted
    · rfl
    · exact logKey_of_frame (by simp) (by simp [State.transferActs])
  | overlayWrite e buffered => exact logKey_of_frame (by simp) (by simp [State.transferActs])

@[simp] theorem Scan.recordAfterLfs_sequence (sc : Scan) (found final : Crp) :
    (sc.recordAfterLfs found final).sequence = sc.sequence := by
  unfold Scan.recordAfterLfs
  split <;> rfl

/-- An LFS of the instant of a scan's start changes that scan's record, not its number (R63, log 37). -/
theorem logKey_lfsBeforeStart (sc : Scan) (frame : Word) (found : s.seng.scan = some sc) :
    (s.lfsBeforeStart sc frame).logKey = s.logKey := by
  have moved (before final : Crp) :
      ((s.withCrp final).setSeng { s.seng with scan := some (sc.recordAfterLfs before final) }).logKey = s.logKey := by
    simp [State.logKey, found]
  unfold State.lfsBeforeStart
  dsimp only
  split <;> simp [moved]

@[simp] theorem logKey_cadenceInScan (frame : Word) : (s.cadenceInScan frame).logKey = s.logKey := by
  unfold State.cadenceInScan
  split
  · next sc found =>
    split
    · rw [logKey_lfsBeforeStart _ sc frame (by simpa using s.startedNow_eq_some found), logKey_drawn]
    · simp
  · simp

theorem logKey_emitLine (sc : Scan) (made : Produced) (coupled : Bool)
    (number : s.seng.scan.map (·.sequence) = some sc.sequence) : (s.emitLine sc made coupled).logKey = s.logKey := by
  rw [State.emitLine_eq sc made.pixels made.patched coupled s]
  simp [State.logKey, State.lineLeft, number]

theorem logKey_outputLine (sc : Scan) (found : s.seng.scan = some sc) : (s.outputLine sc).logKey = s.logKey := by
  have number : s.seng.scan.map (·.sequence) = some sc.sequence := by rw [found]; rfl
  unfold State.outputLine
  split
  · exact logKey_emitLine s sc _ _ number
  · split
    · dsimp only
      split
      · next sc' found' =>
        rw [logKey_emitLine _ sc' _ _ (by rw [found']; rfl), logKey_serve, logKey_switchToPatching]
      · simp
    · exact logKey_emitLine s sc _ _ number

@[simp] theorem logKey_markOpening (k : Option Kept) : (s.markOpening k).logKey = s.logKey := by
  refine logKey_of_scan rfl ?_
  cases s.seng.scan <;> rfl

@[simp] theorem logKey_resolveCapture : s.resolveCapture.logKey = s.logKey := by
  unfold State.resolveCapture
  split <;> simp

@[simp] theorem logKey_openFrame (frame : Word) : (s.openFrame frame).logKey = s.logKey :=
  logKey_of_frame (by simp) (by simp)

@[simp] theorem logKey_reachOff : s.reachOff.logKey = s.logKey := by
  rw [State.reachOff_eq]
  unfold State.offReached
  dsimp only
  split <;> rfl

/-- A scan takes the next number at its start (R90). -/
@[simp] theorem logKey_startScan (r : StartReason) :
    (s.startScan r).logKey = (s.frl, s.seng.sequence + 1, some s.seng.sequence) := by
  obtain ⟨-, -, -, sequence, -⟩ := s.startScan_beat r
  have number : ((s.scanAtStart r).formatPatched s.capu).sequence = s.seng.sequence := by
    rw [Scan.formatPatched_eq]
    simp [State.scanAtStart, State.newScan, State.reportedStart]
  simp [State.logKey, sequence, State.startScan_scan, number]

/-- The scan's record is added at its end, and its number is given up (R102, R103, R148). -/
@[simp] theorem logKey_engineScanEnd (cut : Bool) (sc : Scan) :
    (s.engineScanEnd cut sc).logKey = (s.frl.add sc.record, s.seng.sequence, none) := by
  rw [State.engineScanEnd_eq]
  rfl

end Sys2Proof.Machine

namespace Sys2Proof.Machine

open State

/-! ### The record invariant along the rows (R90, R146 to R150) -/

section
variable {s t : State}

/-! Scan starts and scan ends. -/

/-- A scan starts with no scan in flight, and takes the log's next number (R90). -/
theorem RecordInv.startScan (h : RecordInv s) (quiet : s.scanKey = none) (r : StartReason) :
    RecordInv (s.startScan r) := by
  rw [recordInv_iff] at h ⊢
  rw [State.scanKey_eq_none] at quiet
  obtain ⟨ring, next⟩ := h
  simp only [State.logKey, quiet] at ring next
  have next : s.seng.sequence = s.frl.next := next
  rw [logKey_startScan]
  exact ⟨ring, next, rfl⟩

theorem RecordInv.takeOpen (h : RecordInv s) (quiet : s.scanKey = none) : RecordInv s.takeOpen := by
  unfold State.takeOpen
  split <;> split
  · exact h.startScan quiet _
  · exact h
  · exact h.startScan quiet _
  · exact h

theorem RecordInv.takeActive (h : RecordInv s) (run : s.RunInv) : RecordInv s.takeActive := by
  unfold State.takeActive
  split
  · next state =>
    have quiet : s.scanKey = none := run.scan_none (by rw [state]; decide)
    split
    · unfold State.takeMin
      split
      · exact h.startScan quiet _
      · exact RecordInv.takeOpen (h.of_key rfl) quiet
    · exact h
  · next state => exact h.takeOpen (run.scan_none (by rw [state]; decide))
  · exact h
  · exact h

/-- The record invariant with what a scan start needs to know of the run. -/
abbrev State.RecordRun (s : State) : Prop := s.RunInv ∧ RecordInv s

theorem RecordRun.of_same (h : s.RecordRun) (same : SameRun s t) (key : t.logKey = s.logKey) : t.RecordRun :=
  ⟨h.1.of_same same, h.2.of_key key⟩

theorem RecordRun.takeActive (h : s.RecordRun) : RecordInv s.takeActive := RecordInv.takeActive h.2 h.1

/-- The record of a scan carries its number, the log's next one (R147, R148). -/
theorem RecordInv.engineScanEnd (h : RecordInv s) {sc : Scan} (found : s.seng.scan = some sc) (cut : Bool) :
    RecordInv (s.engineScanEnd cut sc) := by
  rw [recordInv_iff] at h ⊢
  obtain ⟨ring, numbered⟩ := h
  simp only [State.logKey, found] at ring numbered
  obtain ⟨own, next⟩ : sc.sequence = s.frl.next ∧ s.seng.sequence = sc.sequence + 1 := numbered
  have number : sc.record.sequence = s.frl.next := own
  rw [logKey_engineScanEnd]
  refine ⟨ring.add number, next.trans ?_⟩
  unfold Frl.add
  split <;> rfl

/-- In RUNNING with no scan in flight the scheduler may be in any state. -/
theorem State.RunInv.of_running (running : s.dctl = .running) (quiet : s.scanKey = none) : s.RunInv :=
  ⟨fun _ => running, fun some => by rw [quiet] at some; cases some⟩

theorem RecordInv.afterScanEnd (h : RecordInv s) (quiet : s.scanKey = none) (running : s.dctl = .running) :
    RecordInv s.afterScanEnd := by
  unfold State.afterScanEnd
  split
  · exact h.of_key (by simp)
  · exact RecordRun.takeActive ⟨.of_running running quiet, h.of_key rfl⟩

/-- A scan ends, or is cut short, and the scheduler takes its end. -/
theorem RecordRun.scanEnds (h : s.RecordRun) {sc : Scan} (found : s.seng.scan = some sc) (cut : Bool) :
    RecordInv (s.engineScanEnd cut sc).afterScanEnd :=
  (h.2.engineScanEnd found cut).afterScanEnd (by simp) (by simpa using h.1.running_of_scan found)

theorem RecordRun.outputTime (h : s.RecordRun) : RecordInv s.outputTime := by
  unfold State.outputTime
  split
  · exact h.2
  · next sc found =>
    split
    · exact h.2
    · split
      · split
        · exact h.2.of_key (logKey_outputLine s sc found)
        · exact RecordRun.scanEnds h found false
      · exact h.2

theorem RecordRun.forceStop (h : s.RecordRun) : RecordInv s.forceStop := by
  have drawn : s.drawn.RecordRun := RecordRun.of_same h (sameRun_drawn s) (by simp)
  unfold State.forceStop
  split
  · next sc found =>
    have found' : s.drawn.seng.scan = some sc := by simpa using found
    split
    · split
      · exact RecordRun.scanEnds drawn found' false
      · exact RecordRun.scanEnds drawn found' true
    · exact RecordRun.scanEnds h found true
  · exact h.2

/-! The live link and frame starts. -/

theorem RecordRun.followLiveLock (h : s.RecordRun) : RecordInv s.followLiveLock := by
  have told {u : State} (up : u.RecordRun) (x : Lrx) (e : EventSource) (c : Crp) :
      RecordInv (((u.setLrx x).raise e).withCrp c).takeActive := by
    have raised : SameRun u ((u.setLrx x).raise e) := .of_frame (by simp) (by simp) (by simp)
    exact RecordRun.takeActive (RecordRun.of_same up (raised.trans (sameRun_withCrp _ c))
      (logKey_of_frame (by simp) (by simp)))
  unfold State.followLiveLock
  split
  · exact told h _ _ _
  · exact told (RecordRun.of_same h (sameRun_cutArriving s) (by simp)) _ _ _
  · exact h.2
  · exact h.2

theorem RecordRun.reportLfs (h : s.RecordRun) (frame : Word) : RecordInv (s.reportLfs frame) := by
  unfold State.reportLfs
  split
  · next state => exact h.2.startScan (h.1.scan_none (by rw [state]; decide)) _
  · exact h.2.of_key (logKey_cadenceLfs s _ _)
  · exact h.2.of_key (logKey_cadenceInScan s _)
  · exact h.2.of_key (logKey_cadenceLfs s _ _)

theorem RecordRun.takeLfs (h : s.RecordRun) : RecordInv s.takeLfs := by
  have numbered : s.cutArriving.numbered.RecordRun :=
    RecordRun.of_same h ((sameRun_cutArriving s).trans (.of_frame rfl rfl rfl)) (logKey_cutArriving s)
  rw [State.takeLfs_eq]
  exact (RecordRun.reportLfs numbered s.cutArriving.numbered.lrx.frameCounter).of_key (by simp)

/-! Timers and plan points. -/

theorem RecordRun.minExpires (h : s.RecordRun) : RecordInv s.minExpires := by
  unfold State.minExpires
  split
  · exact RecordRun.takeActive (RecordRun.of_same h (.setSsch rfl) rfl)
  · exact h.2

theorem RecordRun.deadlineExpires (h : s.RecordRun) : RecordInv s.deadlineExpires := by
  unfold State.deadlineExpires
  split
  · exact RecordRun.takeActive (RecordRun.of_same h (.setSsch rfl) rfl)
  · exact h.2

theorem RecordRun.freeRunExpires (h : s.RecordRun) : RecordInv s.freeRunExpires := by
  unfold State.freeRunExpires
  split
  · exact RecordRun.takeActive (RecordRun.of_same h (.setSsch rfl) rfl)
  · exact h.2

theorem RecordRun.repeatDue (h : s.RecordRun) (point : Word) (remaining : Nat) :
    RecordInv (s.repeatDue point remaining) := by
  have told : RecordInv (s.setSsch { s.ssch with planEmpty := s.ssch.planEmpty || remaining == 0 }) := h.2.of_key rfl
  unfold State.repeatDue
  split
  · next state =>
    refine told.startScan ?_ _
    exact h.1.scan_none (by rw [state]; decide)
  · split
    · exact told.of_key (logKey_withCrp _ _)
    · exact told
  · exact told
  · exact told

theorem RecordRun.planTimerExpires (h : s.RecordRun) : RecordInv s.planTimerExpires := by
  unfold State.planTimerExpires
  split
  · next point _ =>
    split
    · exact RecordRun.repeatDue (RecordRun.of_same (t := s.setCrp { s.crp with
        plan := s.crp.plan.advance, raised := some point }) h ⟨rfl, rfl, rfl⟩ rfl) point _
    · exact h.2
  · exact h.2

/-! Return windows. -/

/-- The log's cursor moves on over the records a window takes (R150, R160). -/
theorem RecordInv.openWindow (h : RecordInv s) : RecordInv s.openWindow := by
  rw [recordInv_iff] at h ⊢
  obtain ⟨ring, numbered⟩ := h
  exact ⟨ring.afterWindow s.roomForRecords, numbered⟩

theorem RecordInv.overlayLineStart (h : RecordInv s) : RecordInv s.overlayLineStart := by
  have discarded (phase : OverlayPhase) : RecordInv (s.discardOverlay true phase) :=
    h.of_key (logKey_of_frame (by simp) (by simp))
  unfold State.overlayLineStart
  split
  · exact h
  · split
    · exact h
    · exact RecordInv.openWindow (s := s.beginBackFrame) (h.of_key (logKey_of_frame (by simp) (by simp)))
    · split
      · exact discarded _
      · exact h.of_key rfl
    · exact discarded _

/-! Commands. -/

theorem RecordInv.answered (h : RecordInv s) (tag code : Byte) (status : Status) (payload : List Byte) :
    RecordInv (s.addReply tag code status payload) := h.of_key (by simp)

theorem RecordInv.serve (h : RecordInv s) : RecordInv s.serve := h.of_key (by simp)

theorem RecordRun.startRun (h : s.RecordRun) (out : s.dctl ≠ .running) : RecordInv s.startRun := by
  have quiet : s.scanKey = none := h.1.scan_none_of_dctl out
  have key : ((s.leaveOff.setDctl .running).setSeng { s.leaveOff.seng with output := .blanking }).scanKey
      = none := by
    simpa [State.scanKey] using quiet
  have left : RecordRun ((s.leaveOff.setDctl .running).setSeng { s.leaveOff.seng with output := .blanking }) :=
    ⟨.of_running rfl key, h.2.of_key (by simp [State.logKey])⟩
  exact (RecordRun.takeActive left).of_key (logKey_markOpening _ _)

theorem RecordRun.startEffect (h : s.RecordRun) (tag : Byte) : RecordInv (startEffect tag s) := by
  unfold Machine.startEffect
  split
  · exact h.2.answered _ _ _ _
  · next standby =>
    split
    · exact h.2.answered _ _ _ _
    · split
      · exact h.2.answered _ _ _ _
      · have out : s.dctl ≠ .running := by rw [not_not.mp standby]; decide
        exact ((RecordRun.startRun h out).answered _ _ _ _).serve

theorem RecordRun.stopEffect (h : s.RecordRun) (tag : Byte) : RecordInv (stopEffect tag s) := by
  have off : RecordInv s.reachOff := h.2.of_key (by simp)
  unfold Machine.stopEffect
  split
  · exact h.2.answered _ _ _ _
  · exact (off.answered _ _ _ _).serve
  · exact (off.answered _ _ _ _).serve
  · split
    · exact ((RecordRun.forceStop h).answered _ _ _ _).serve
    · exact h.2.of_key (by simp)

/-- The scan that START started gives its number back and is started again with it (R131, log 52). -/
theorem RecordInv.commitAtOpening (h : RecordInv s) (marker : Half) {sc : Scan} (found : s.seng.scan = some sc)
    (k : Kept) : RecordInv (s.commitAtOpening marker sc k) := by
  refine RecordInv.startScan ?_ rfl _
  rw [recordInv_iff] at h ⊢
  obtain ⟨ring, numbered⟩ := h
  simp only [State.logKey, found] at ring numbered
  obtain ⟨own, next⟩ : sc.sequence = s.frl.next ∧ s.seng.sequence = sc.sequence + 1 := numbered
  refine ⟨ring, ?_⟩
  show s.seng.sequence - 1 = s.frl.next
  rw [next, own, BitVec.add_sub_cancel]

theorem RecordInv.commitEffect (h : RecordInv s) (tag : Byte) (marker : Half) :
    RecordInv (commitEffect tag marker s) := by
  unfold Machine.commitEffect
  split
  · exact h.answered _ _ _ _
  · split
    · exact h.answered _ _ _ _
    · split
      · unfold commitInRun
        split
        · next sc k now =>
          have found := ((State.openingNow_eq_some sc k).mp now).1
          exact ((h.commitAtOpening marker found k).answered _ _ _ _).serve
        · exact h.of_key (logKey_addReply _ _ _ _ _)
      · exact RecordInv.answered (h.of_key (logKey_of_frame (by simp) (by simp))) _ _ _ _

theorem RecordRun.resetCadenceEffect (h : s.RecordRun) (tag : Byte) : RecordInv (resetCadenceEffect tag s) := by
  have told : (s.withCrp (s.crp.invalidate false)).RecordRun := RecordRun.of_same h (sameRun_withCrp s _) (by simp)
  exact ((RecordRun.takeActive told).answered tag 0x20 .ok []).serve

theorem RecordInv.setCursor (h : RecordInv s) {cursor : Option Half}
    (at_next : ∀ c, cursor = some c → c = s.frl.next) :
    RecordInv (s.setFrl { s.frl with cursor := cursor }) := by
  rw [recordInv_iff] at h ⊢
  obtain ⟨ring, numbered⟩ := h
  exact ⟨ring.setCursor at_next, numbered⟩

/-- RECORD_STREAM takes the cursor off the log, or puts it on the next number (R149). -/
theorem RecordInv.recordStreamEffect (h : RecordInv s) (tag switch : Byte) :
    RecordInv (recordStreamEffect tag switch s) := by
  unfold Machine.recordStreamEffect
  split
  · exact h.answered _ _ _ _
  · split
    · exact (h.setCursor fun c none => by cases none).answered _ _ _ _
    · split
      · exact h.answered _ _ _ _
      · exact (h.setCursor fun c at_c => (Option.some.inj at_c).symm).answered _ _ _ _

/-- An empty log and no scan in flight: what a reset leaves. -/
theorem RecordInv.of_reset (frl : s.frl = Frl.initial) (seng : s.seng = Seng.initial) : RecordInv s :=
  reset_recordInv.of_key (logKey_of_frame frl seng)

theorem RecordInv.softResetEffect (h : RecordInv s) (tag : Byte) : RecordInv (softResetEffect tag s) := by
  unfold Machine.softResetEffect
  split
  · exact h.answered _ _ _ _
  · split
    · exact h.answered _ _ _ _
    · exact .of_reset rfl rfl

/-- A command that reaches neither the scheduler, the device state, the engine nor the log keeps the log. -/
theorem plainCommand_frl (tag : Byte) (c : Command) (plain : plainCommand c = true)
    (stream : ∀ switch, c ≠ .recordStream switch) : (commandEffect tag c s).frl = s.frl := by
  cases c with
  | start | stop | softReset | resetCadence | commit marker => cases plain
  | recordStream switch => exact absurd rfl (stream switch)
  | _ => simp [commandEffect]

theorem RecordRun.command (h : s.RecordRun) (tag : Byte) (c : Command) : RecordInv (commandEffect tag c s) := by
  have plain (c : Command) (hc : plainCommand c = true) (stream : ∀ switch, c ≠ .recordStream switch) :
      RecordInv (commandEffect tag c s) := by
    obtain ⟨-, -, -, -, -, -, -, seng, -⟩ := plainCommand_frame s tag c hc
    exact h.2.of_key (logKey_of_frame (plainCommand_frl tag c hc stream) seng)
  cases c with
  | start => exact RecordRun.startEffect h tag
  | stop => exact RecordRun.stopEffect h tag
  | softReset => exact h.2.softResetEffect tag
  | resetCadence => exact RecordRun.resetCadenceEffect h tag
  | commit marker => exact h.2.commitEffect tag marker
  | recordStream switch => exact h.2.recordStreamEffect tag switch
  | _ => exact plain _ rfl nofun

/-- At the end of LOADING the scheduler is OFF, and no scan is in flight. -/
theorem RecordRun.loadingEnds (h : s.RecordRun) : RecordInv s.loadingEnds := by
  unfold State.loadingEnds
  split
  · next due owed loading =>
    split
    · have out : s.dctl ≠ .running := by rw [loading]; exact Device.noConfusion
      have stood (p : Pru) : RecordRun (((s.setPru p).setDctl .standby).overlayAtLoadingEnd owed) :=
        ⟨h.1.standby out owed p, h.2.of_key (logKey_of_frame (by simp) (by simp))⟩
      exact (RecordRun.followLiveLock (stood _)).serve
    · exact h.2
  · exact h.2
  · exact h.2

end

/-- Every row keeps the record invariant. -/
theorem rowsLead_recordInv : RowsLead State.RecordRun RecordInv where
  dequeue _ _ h := RecordRun.of_same h (.of_frame rfl rfl rfl) rfl
  clock _ _ h := RecordRun.of_same h (.of_frame rfl rfl rfl) rfl
  liveLock _ _ h := RecordRun.of_same h (.of_frame rfl rfl rfl) rfl
  overlayLock _ _ h := RecordRun.of_same h (.of_frame rfl rfl rfl) rfl
  fprog _ _ h := RecordRun.of_same h (.of_frame rfl rfl rfl) rfl
  fprogFalls _ h :=
    RecordRun.of_same h (.of_frame (by simp) (by simp) (by simp)) (logKey_of_frame (by simp) (by simp))
  idle _ h := h.2
  serve _ h := h.serve
  assertReset _ _ := .of_reset rfl rfl
  releaseReset _ h := h.2.of_key rfl
  loadingEnds _ h := RecordRun.loadingEnds h
  followLiveLock _ _ h := RecordRun.followLiveLock h
  takeLfs _ _ h := RecordRun.takeLfs h
  takeLineStart s _ h := h.2.of_key (logKey_takeLineStart s)
  takeLineEnd s pixels _ h := h.2.of_key (logKey_takeLineEnd s pixels)
  takeBlanking s _ h := h.2.of_key (logKey_takeBlanking s)
  lineOverdue s _ h := h.2.of_key (logKey_lineOverdue s)
  maintenanceDue _ h := h.2.of_key (logKey_of_frame (by simp) (by simp))
  maintenanceEnds _ h := h.2.of_key (logKey_of_frame (by simp) (by simp))
  transferEnds s x _ h := h.2.of_key (logKey_transferEnds s x)
  minExpires _ h := RecordRun.minExpires h
  deadlineExpires _ h := RecordRun.deadlineExpires h
  freeRunExpires _ h := RecordRun.freeRunExpires h
  planTimerExpires _ h := RecordRun.planTimerExpires h
  outputTime _ h := RecordRun.outputTime h
  followOverlayLock _ _ h := h.2.of_key (logKey_of_frame (by simp) (by simp))
  overlayFrameStart _ _ h := h.2.of_key (logKey_of_frame (by simp) (by simp))
  overlayLineStart _ _ h := h.2.overlayLineStart
  overlayLineEnd _ _ _ h := h.2.of_key (logKey_of_frame (by simp) (by simp))
  packetBad s h := h.2.of_key (logKey_raise s _)
  refused _ tag code status _ h := h.2.answered tag code status []
  command _ tag c _ _ h := RecordRun.command h tag c
  fuseProgramEnd _ h := h.2.of_key (logKey_of_frame (by simp) (by simp))
  fuseLockEnd _ h := h.2.of_key (logKey_of_frame (by simp) (by simp))

/-- Adding a record to a full ring: the cursor moves on by one when it is on the record that leaves (R148, R150). -/
theorem Frl.add_cursor_of_full {f : Frl} {r oldest : FrameRecord} {rest : List FrameRecord}
    (ring : f.ring = oldest :: rest) (full : 32 ≤ f.ring.length) :
    (f.add r).cursor = f.cursor.map fun c => if oldest.sequence = c then c + 1 else c := by
  rw [Frl.add_of_full full]
  exact Frl.cursorAfterDrop_eq ring

/-- Settles O19: a scan takes the log's next number at its start and its record carries it at its end, where the oldest
record of a full ring leaves with the cursor that stood on it. -/
theorem recordsKept : Obligations.RecordsKept := by
  refine ⟨fun s t sched records taken => rowsLead_recordInv.step taken ⟨sched.runInv, records⟩,
    fun f r => ⟨Frl.add_of_room, fun oldest rest ring full => ⟨?_, ?_, fun there => ?_, fun elsewhere => ?_⟩⟩⟩
  · simp [Frl.add_of_full full, Frl.append, Frl.withoutOldest, ring]
  · rw [Frl.add_of_full full]
    rfl
  · simp [Frl.add_cursor_of_full ring full, there]
  · rw [Frl.add_cursor_of_full ring full]
    cases found : f.cursor with
    | none => rfl
    | some c =>
      have other : oldest.sequence ≠ c := by
        rintro rfl
        exact elsewhere found
      simp [other]

end Sys2Proof.Machine

namespace Sys2Proof.Machine

/-! ### Fields in bytes (00_scope.md "Byte layouts", R162) -/

@[simp] theorem toLe_length (k n : Nat) : (toLe k n).length = k := by
  induction k generalizing n with
  | zero => rfl
  | succ k ih => simp [toLe, ih]

theorem fromLe_toLe (k n : Nat) : fromLe (toLe k n) = n % 256 ^ k := by
  induction k generalizing n with
  | zero => simp [toLe, fromLe, Nat.mod_one]
  | succ k ih => rw [toLe, fromLe, ih, BitVec.toNat_ofNat, pow_succ' 256, Nat.mod_mul]

@[simp] theorem toLe_one (n : Nat) : toLe 1 n = [byte n] := rfl

@[simp] theorem byte_toNat (b : Byte) : byte b.toNat = b := by simp [byte]

theorem field_append_left {l r : List Byte} {start k : Nat} (within : start + k ≤ l.length) :
    field (l ++ r) start k = field l start k := by
  unfold field
  rw [List.drop_append_of_le_length (by omega), List.take_append_of_le_length (by simp; omega)]

theorem field_append_right (l r : List Byte) (start k : Nat) :
    field (l ++ r) (l.length + start) k = field r start k := by
  unfold field
  rw [List.drop_length_add_append]

/-- The bytes of a layout: the widths and the values of its fields, in order. -/
def bytesOf (layout : List (Nat × Nat)) : List Byte := layout.flatMap fun f => toLe f.1 f.2

@[simp] theorem bytesOf_nil : bytesOf [] = [] := rfl

@[simp] theorem bytesOf_cons (f : Nat × Nat) (rest : List (Nat × Nat)) :
    bytesOf (f :: rest) = toLe f.1 f.2 ++ bytesOf rest := rfl

/-- The width and the value of the field that starts at an offset. -/
def fieldAt : List (Nat × Nat) → Nat → Option (Nat × Nat)
  | [], _ => none
  | f :: rest, start => if start = 0 then some f else if f.1 ≤ start then fieldAt rest (start - f.1) else none

/-- A field of a layout is read back from its place. -/
theorem field_bytesOf {layout : List (Nat × Nat)} {start k n : Nat} (entry : fieldAt layout start = some (k, n))
    (fits : n < 256 ^ k) : field (bytesOf layout) start k = n := by
  induction layout generalizing start with
  | nil => cases entry
  | cons f rest ih =>
    rw [bytesOf_cons]
    unfold fieldAt at entry
    split at entry
    · next zero =>
      obtain rfl : f = (k, n) := Option.some.inj entry
      rw [zero, field_append_left (by simp)]
      simp [field, List.take_of_length_le, fromLe_toLe, Nat.mod_eq_of_lt fits]
    · split at entry
      · next past =>
        have rest_field := field_append_right (toLe f.1 f.2) (bytesOf rest) (start - f.1) k
        rw [toLe_length, Nat.add_sub_cancel' past] at rest_field
        exact rest_field.trans (ih entry)
      · cases entry

/-! ### Packets (R162) -/

theorem byteSum_append (l r : List Byte) : byteSum (l ++ r) = byteSum l + byteSum r := by
  induction l with
  | nil => simp [byteSum]
  | cons b l ih => rw [List.cons_append, byteSum, ih, byteSum, BitVec.add_assoc]

/-- The check byte makes the sum 0. -/
theorem byteSum_withCheck (bytes : List Byte) : byteSum (withCheck bytes) = 0 := by
  rw [withCheck, byteSum_append]
  simp [byteSum]

theorem padTo_eq (n : Nat) (bytes : List Byte) :
    padTo n bytes = bytes.take n ++ List.replicate (n - bytes.length) 0 := by
  induction n generalizing bytes with
  | zero => simp [padTo]
  | succ n ih =>
    cases bytes with
    | nil => simp [padTo, ih, List.replicate_succ]
    | cons b rest => simp [padTo, ih]

@[simp] theorem padTo_length (n : Nat) (bytes : List Byte) : (padTo n bytes).length = n := by
  rw [padTo_eq, List.length_append, List.length_take, List.length_replicate]
  omega

theorem packetOf_isPacket (bytes : List Byte) : isPacket (packetOf bytes) :=
  ⟨by simp [packetOf, withCheck], byteSum_withCheck _⟩

/-- Up to its check byte a packet is what it is made of, filled up with zeros. -/
theorem packetOf_take {bytes : List Byte} (fits : bytes.length ≤ 31) :
    (packetOf bytes).take 31 = bytes ++ List.replicate (31 - bytes.length) 0 := by
  rw [packetOf, withCheck, List.take_left' (padTo_length 31 bytes), padTo_eq, List.take_of_length_le fits]

theorem field_packetOf {bytes : List Byte} {start k : Nat} (fits : bytes.length ≤ 31)
    (within : start + k ≤ bytes.length) : field (packetOf bytes) start k = field bytes start k := by
  rw [packetOf, withCheck, field_append_left (by simp; omega), padTo_eq, List.take_of_length_le fits,
    field_append_left within]

/-- The bytes of a packet that no field uses are 0. -/
theorem packetOf_unused {bytes : List Byte} {n : Nat} (length : bytes.length = n) (fits : n ≤ 31) :
    ((packetOf bytes).drop n).take (31 - n) = List.replicate (31 - n) 0 := by
  subst length
  rw [List.take_drop, Nat.add_sub_cancel' fits, packetOf_take fits, List.drop_left]

/-! ### Source sets and highest levels (R163, R165) -/

theorem flagSet_testBit (flags : List Bool) (k : Nat) : (flagSet flags).testBit k = flags.getD k false := by
  induction flags generalizing k with
  | nil => simp [flagSet]
  | cons b rest ih =>
    have bits : flagSet (b :: rest) = Nat.bit b (flagSet rest) := by
      rw [flagSet, Nat.bit_val, add_comm]
      cases b <;> rfl
    rw [bits]
    cases k with
    | zero => simp
    | succ k => simp [Nat.testBit_bit_succ, ih]

/-- Bit n of a source set is set for the sources that meet its test, and no other bit is (R163). -/
theorem setOf_isSourceSet (v : Evu) (test : SourceState → Bool) {meets : SourceState → Prop}
    (same : ∀ x, test x = true ↔ meets x) : isSourceSet v meets (v.setOf test).toNat := by
  intro k
  have bit : (v.setOf test).toNat.testBit k = true ↔ ∃ h : k < 14, test v.sources[k] = true := by
    rw [Evu.setOf, BitVec.testBit_toNat, BitVec.getLsbD_ofNat, flagSet_testBit]
    by_cases h : k < 14
    · simp [h, show k < 16 by omega]
    · simp [h]
  rw [bit]
  exact exists_congr fun _ => same _

theorem foldl_max_level (sources : List SourceState) (top : Nat) :
    (sources.foldl (fun m x => max m x.level) top = top
        ∨ ∃ x ∈ sources, x.level = sources.foldl (fun m x => max m x.level) top)
      ∧ top ≤ sources.foldl (fun m x => max m x.level) top
      ∧ ∀ x ∈ sources, x.level ≤ sources.foldl (fun m x => max m x.level) top := by
  induction sources generalizing top with
  | nil => simp
  | cons y rest ih =>
    obtain ⟨reached, above, bounds⟩ := ih (max top y.level)
    rw [List.foldl_cons]
    refine ⟨?_, (le_max_left _ _).trans above, fun x mem => ?_⟩
    · rcases reached with stays | ⟨x, mem, level⟩
      · rcases max_choice top y.level with left | right
        · exact .inl (stays.trans left)
        · exact .inr ⟨y, List.mem_cons_self, (stays.trans right).symm⟩
      · exact .inr ⟨x, List.mem_cons_of_mem _ mem, level⟩
    · rcases List.mem_cons.mp mem with rfl | mem
      · exact (le_max_right _ _).trans above
      · exact bounds x mem

/-- The highest level is that of a source that meets the test, and no such source is above it (R165). -/
theorem highest_isHighest (v : Evu) (test : SourceState → Bool) {meets : SourceState → Prop}
    (same : ∀ x, test x = true ↔ meets x) : isHighest v meets (v.highest test) := by
  obtain ⟨reached, -, bounds⟩ := foldl_max_level (v.sources.toList.filter test) 0
  refine ⟨fun x mem met => bounds x (List.mem_filter.mpr ⟨mem, (same x).mpr met⟩), reached.imp_right ?_⟩
  rintro ⟨x, mem, level⟩
  obtain ⟨mem, met⟩ := List.mem_filter.mp mem
  exact ⟨x, mem, (same x).mp met, level⟩

theorem highest_le (v : Evu) (test : SourceState → Bool) {bound : Nat}
    (levels : ∀ x ∈ v.sources.toList, x.level ≤ bound) : v.highest test ≤ bound := by
  have highest : isHighest v (fun x => test x = true) (v.highest test) := highest_isHighest v test fun _ => Iff.rfl
  obtain ⟨-, zero | ⟨x, mem, -, level⟩⟩ := highest
  · rw [zero]
    exact Nat.zero_le bound
  · exact level ▸ levels x mem

end Sys2Proof.Machine

namespace Sys2Proof.Machine

/-! ### The layouts, as tables of widths and values (R91, R164 to R166) -/

@[simp] theorem wordOrZero_eq (x : Option Word) : wordOrZero x = (x.getD 0).toNat := by cases x <;> rfl

@[simp] theorem halfOrZero_eq (x : Option Half) : halfOrZero x = (x.getD 0).toNat := by cases x <;> rfl

theorem State.statusPayload_eq (s : State) : s.statusPayload = bytesOf
    [(1, s.dctl.code.toNat), (1, s.lrx.link.code.toNat), (1, s.ocap.link.code.toNat), (1, s.ssch.state.code.toNat),
      (1, s.capu.slots[0].state.code.toNat), (1, s.capu.slots[1].state.code.toNat),
      (1, s.capu.slots[2].state.code.toNat), (1, (slotCode s.capu.fill).toNat), (1, (slotCode s.capu.latest).toNat),
      (1, (slotCode s.pendingSlot).toNat), (1, (slotCode s.scanSource).toNat), (4, s.lrx.frameCounter.toNat),
      (3, s.crp.estimate.getD 0), (1, (boolCode s.crp.estimate.isSome).toNat), (1, s.crp.plan.multiplier),
      (2, s.crp.plan.spacing), (1, s.tbc.active.profile.val), (1, (boolCode s.tbc.commitPending.isSome).toNat),
      (1, (boolCode s.lfb.locked).toNat), (1, s.lfb.engine.code.toNat), (1, s.zsu.state.code.toNat)] := by
  simp [State.statusPayload]

theorem FrameRecord.body_eq (r : FrameRecord) : r.body = bytesOf
    [(2, r.sequence.toNat), (1, r.kind.code + 4 * r.cause.code + 32 * (r.multiplier - 1)), (1, r.presence),
      (4, r.startTime.toNat), (4, (r.interval.getD 0).toNat), (4, (r.frame.getD 0).toNat), (3, r.lag.getD 0),
      (1, r.overtaken.getD 0), (2, r.patched + 4096 * r.profile.val), (2, (r.marker.getD 0).toNat),
      (3, r.estimate.getD 0)] := by
  simp [FrameRecord.body, halfBytes]

theorem ProfileEntry.payload_eq (e : ProfileEntry) : e.payload = bytesOf
    [(1, e.state.code.toNat), (2, e.profile.width), (2, e.profile.lines), (2, e.profile.lineTime),
      (2, e.profile.minBlank), (2, e.profile.pmin), (2, e.profile.pmax), (1, e.profile.weight),
      (3, e.profile.stallLimit), (1, e.profile.maxMultiplier), (2, e.profile.lagThreshold), (2, e.profile.freeRun),
      (1, e.profile.lossAction.code.toNat), (2, e.profile.pminEff), (2, e.profile.pmaxEff)] := by
  simp [ProfileEntry.payload]

theorem Region.bytes_eq (r : Region) : r.bytes = bytesOf
    [(1, r.level), (2, r.sourceX), (2, r.sourceY), (2, r.width), (2, r.height), (2, r.destX), (2, r.destY), (1, r.zoom),
      (1, r.globalAlpha), (1, (boolCode r.flat).toNat)] := by
  simp [Region.bytes]

theorem Evu.payload_eq (v : Evu) : v.payload = bytesOf
    [(2, (v.setOf (·.pending)).toNat), (2, (v.setOf (·.noticed)).toNat), (1, v.highest (·.pending))] := rfl

theorem noticePacket_eq (v : Evu) (marker : Half) (time : Word) : noticePacket v marker time = packetOf (bytesOf
    [(1, 0xA2), (2, (v.setOf (·.pending)).toNat), (2, (v.setOf (·.qualifies v.noticeThreshold)).toNat),
      (1, v.highest (·.qualifies v.noticeThreshold)), (2, marker.toNat), (4, time.toNat)]) := rfl

theorem ZoneResult.bytes_eq (z : ZoneResult) : z.bytes = bytesOf
    [(1, z.zone), (3, z.maximum + 1024 * z.mean), (2, z.bright)] := rfl

end Sys2Proof.Machine

namespace Sys2Proof.Machine

/-! ### Reply payloads, field by field (R158, R164) -/

theorem statusPayload_fields (s : State) : s.statusPayload.length = 27
    ∧ s.statusPayload.take 11 =
      [s.dctl.code, s.lrx.link.code, s.ocap.link.code, s.ssch.state.code, s.capu.slots[0].state.code,
        s.capu.slots[1].state.code, s.capu.slots[2].state.code, slotCode s.capu.fill, slotCode s.capu.latest,
        slotCode s.pendingSlot, slotCode s.scanSource]
    ∧ field s.statusPayload 11 4 = s.lrx.frameCounter.toNat
    ∧ (∀ e, s.crp.estimate = some e → e < 16777216 → field s.statusPayload 15 3 = e)
    ∧ (s.crp.estimate = none → field s.statusPayload 15 3 = 0)
    ∧ s.statusPayload[18]? = some (if s.crp.estimate.isSome then 1 else 0)
    ∧ (s.crp.plan.multiplier < 256 → s.statusPayload[19]? = some (BitVec.ofNat 8 s.crp.plan.multiplier))
    ∧ (s.crp.plan.spacing < 65536 → field s.statusPayload 20 2 = s.crp.plan.spacing)
    ∧ s.statusPayload.drop 22 =
      [BitVec.ofNat 8 s.tbc.active.profile.val, if s.tbc.commitPending.isSome then 1 else 0,
        if s.lfb.locked then 1 else 0, s.lfb.engine.code, s.zsu.state.code] := by
  have estimate (fits : s.crp.estimate.getD 0 < 16777216) : field s.statusPayload 15 3 = s.crp.estimate.getD 0 := by
    rw [s.statusPayload_eq]
    exact field_bytesOf rfl fits
  refine ⟨rfl, rfl, ?_, fun e found fits => ?_, fun absent => ?_, rfl, fun _ => rfl, fun fits => ?_, rfl⟩
  · rw [s.statusPayload_eq]
    exact field_bytesOf rfl s.lrx.frameCounter.isLt
  · rw [found] at estimate
    exact estimate fits
  · rw [absent] at estimate
    exact estimate (by decide)
  · rw [s.statusPayload_eq]
    exact field_bytesOf rfl fits

theorem profilePayload_fields (e : ProfileEntry) : e.payload.length = 27
    ∧ field e.payload 0 1 = (match e.state with
      | .empty => 0
      | .valid => 1
      | .invalid => 2)
    ∧ (e.profile.width < 65536 → field e.payload 1 2 = e.profile.width)
    ∧ (e.profile.lines < 65536 → field e.payload 3 2 = e.profile.lines)
    ∧ (e.profile.lineTime < 65536 → field e.payload 5 2 = e.profile.lineTime)
    ∧ (e.profile.minBlank < 65536 → field e.payload 7 2 = e.profile.minBlank)
    ∧ (e.profile.pmin < 65536 → field e.payload 9 2 = e.profile.pmin)
    ∧ (e.profile.pmax < 65536 → field e.payload 11 2 = e.profile.pmax)
    ∧ (e.profile.weight < 256 → field e.payload 13 1 = e.profile.weight)
    ∧ (e.profile.stallLimit < 16777216 → field e.payload 14 3 = e.profile.stallLimit)
    ∧ (e.profile.maxMultiplier < 256 → field e.payload 17 1 = e.profile.maxMultiplier)
    ∧ (e.profile.lagThreshold < 65536 → field e.payload 18 2 = e.profile.lagThreshold)
    ∧ (e.profile.freeRun < 65536 → field e.payload 20 2 = e.profile.freeRun)
    ∧ field e.payload 22 1 = (match e.profile.lossAction with
      | .repeatLatest => 0
      | .fill => 1)
    ∧ (e.profile.pminEff < 65536 → field e.payload 23 2 = e.profile.pminEff)
    ∧ (e.profile.pmaxEff < 65536 → field e.payload 25 2 = e.profile.pmaxEff) := by
  rw [e.payload_eq]
  refine ⟨rfl, ?_, (field_bytesOf rfl ·), (field_bytesOf rfl ·), (field_bytesOf rfl ·),
    (field_bytesOf rfl ·), (field_bytesOf rfl ·), (field_bytesOf rfl ·), (field_bytesOf rfl ·),
    (field_bytesOf rfl ·), (field_bytesOf rfl ·), (field_bytesOf rfl ·), (field_bytesOf rfl ·),
    ?_, (field_bytesOf rfl ·), (field_bytesOf rfl ·)⟩
  · refine (field_bytesOf rfl e.state.code.isLt).trans ?_
    cases e.state <;> rfl
  · refine (field_bytesOf rfl e.profile.lossAction.code.isLt).trans ?_
    cases e.profile.lossAction <;> rfl

theorem regionBytes_fields (r : Region) : r.bytes.length = 16
    ∧ (r.level < 256 → field r.bytes 0 1 = r.level)
    ∧ (r.sourceX < 65536 → field r.bytes 1 2 = r.sourceX) ∧ (r.sourceY < 65536 → field r.bytes 3 2 = r.sourceY)
    ∧ (r.width < 65536 → field r.bytes 5 2 = r.width) ∧ (r.height < 65536 → field r.bytes 7 2 = r.height)
    ∧ (r.destX < 65536 → field r.bytes 9 2 = r.destX) ∧ (r.destY < 65536 → field r.bytes 11 2 = r.destY)
    ∧ (r.zoom < 256 → field r.bytes 13 1 = r.zoom) ∧ (r.globalAlpha < 256 → field r.bytes 14 1 = r.globalAlpha)
    ∧ field r.bytes 15 1 = if r.flat then 1 else 0 := by
  rw [r.bytes_eq]
  refine ⟨rfl, (field_bytesOf rfl ·), (field_bytesOf rfl ·), (field_bytesOf rfl ·),
    (field_bytesOf rfl ·), (field_bytesOf rfl ·), (field_bytesOf rfl ·), (field_bytesOf rfl ·),
    (field_bytesOf rfl ·), (field_bytesOf rfl ·), ?_⟩
  refine (field_bytesOf rfl (boolCode r.flat).isLt).trans ?_
  cases r.flat <;> rfl

theorem eventsPayload_fields (v : Evu) : v.payload.length = 5
    ∧ isSourceSet v (fun x => x.pending = true) (field v.payload 0 2)
    ∧ isSourceSet v (fun x => x.noticed = true) (field v.payload 2 2)
    ∧ ((∀ x ∈ v.sources.toList, x.level ≤ 7) → isHighest v (fun x => x.pending = true) (field v.payload 4 1)) := by
  rw [v.payload_eq]
  refine ⟨rfl, ?_, ?_, fun levels => ?_⟩
  · rw [field_bytesOf rfl (v.setOf (·.pending)).isLt]
    exact setOf_isSourceSet v _ fun _ => Iff.rfl
  · rw [field_bytesOf rfl (v.setOf (·.noticed)).isLt]
    exact setOf_isSourceSet v _ fun _ => Iff.rfl
  · have small := highest_le v (·.pending) levels
    rw [field_bytesOf (n := v.highest (·.pending)) rfl (by rw [pow_one]; omega)]
    exact highest_isHighest v _ fun _ => Iff.rfl

/-! ### Records (R147, R165) -/

/-- The presence marks fit their byte, bit by bit (R165, offset 3). -/
theorem presence_getLsbD (r : FrameRecord) (k : Nat) (within : k < 6) :
    (byte r.presence).getLsbD k = [r.interval.isSome, r.frame.isSome, r.lag.isSome, r.overtaken.isSome,
      r.marker.isSome, r.estimate.isSome].getD k false := by
  rw [byte, BitVec.getLsbD_ofNat, FrameRecord.presence, flagSet_testBit]
  simp [show k < 8 by omega]

theorem Kind.code_le (k : Kind) : k.code ≤ 3 := by cases k <;> decide

theorem Cause.code_le (c : Cause) : c.code ≤ 4 := by cases c <;> decide

theorem recordBody_fields (r : FrameRecord) (one : 1 ≤ r.multiplier) (multiplier : r.multiplier ≤ 8)
    (patched : r.patched < 4096) (lag : r.lag.getD 0 < 16777216) (overtaken : r.overtaken.getD 0 < 256)
    (estimate : r.estimate.getD 0 < 16777216) : r.body.length = 27
    ∧ field r.body 0 2 = r.sequence.toNat
    ∧ field r.body 2 1 = r.kind.code + 4 * r.cause.code + 32 * (r.multiplier - 1)
    ∧ field r.body 4 4 = r.startTime.toNat
    ∧ field r.body 8 4 = (r.interval.getD 0).toNat
    ∧ field r.body 12 4 = (r.frame.getD 0).toNat
    ∧ field r.body 16 3 = r.lag.getD 0
    ∧ field r.body 19 1 = r.overtaken.getD 0
    ∧ field r.body 20 2 = r.patched + 4096 * r.profile.val
    ∧ field r.body 22 2 = (r.marker.getD 0).toNat
    ∧ field r.body 24 3 = r.estimate.getD 0
    ∧ ∀ b : Byte, r.body[3]? = some b →
        b.getLsbD 0 = r.interval.isSome ∧ b.getLsbD 1 = r.frame.isSome ∧ b.getLsbD 2 = r.lag.isSome
          ∧ b.getLsbD 3 = r.overtaken.isSome ∧ b.getLsbD 4 = r.marker.isSome ∧ b.getLsbD 5 = r.estimate.isSome := by
  have kind := r.kind.code_le
  have cause := r.cause.code_le
  have profile := r.profile.isLt
  rw [r.body_eq]
  refine ⟨rfl, field_bytesOf rfl r.sequence.isLt, field_bytesOf rfl (by omega),
    field_bytesOf rfl r.startTime.isLt, field_bytesOf rfl (r.interval.getD 0).isLt,
    field_bytesOf rfl (r.frame.getD 0).isLt, field_bytesOf rfl lag,
    field_bytesOf rfl overtaken, field_bytesOf rfl (by omega),
    field_bytesOf rfl (r.marker.getD 0).isLt, field_bytesOf rfl estimate, fun b at_3 => ?_⟩
  obtain rfl : byte r.presence = b := Option.some.inj at_3
  exact ⟨presence_getLsbD r 0 (by decide), presence_getLsbD r 1 (by decide), presence_getLsbD r 2 (by decide),
    presence_getLsbD r 3 (by decide), presence_getLsbD r 4 (by decide), presence_getLsbD r 5 (by decide)⟩

theorem recordPacket_take (r : FrameRecord) : r.packet.take 31 = 0xA4 :: r.body ++ [0, 0, 0] := by
  have length : (0xA4 :: r.body).length = 28 := by rw [r.body_eq]; rfl
  rw [FrameRecord.packet, packetOf_take (by omega), length]
  rfl

/-! ### Replies and notices (R162, R165, R169) -/

theorem replyPacket_take (r : Reply) :
    r.packet.take 31 = [0xA1, r.tag, r.code, r.status.code] ++ padTo 27 r.payload := by
  rw [Reply.packet, packetOf_take (by simp)]
  simp

theorem replyPacket_fields (r : Reply) : isPacket r.packet
    ∧ r.packet.take 4 = [0xA1, r.tag, r.code, r.status.code]
    ∧ (r.payload.length ≤ 27 →
        (r.packet.drop 4).take 27 = r.payload ++ List.replicate (27 - r.payload.length) 0) := by
  refine ⟨packetOf_isPacket _, ?_, fun short => ?_⟩
  · calc r.packet.take 4 = (r.packet.take 31).take 4 := by rw [List.take_take]; rfl
      _ = _ := by rw [replyPacket_take]; rfl
  · calc (r.packet.drop 4).take 27 = (r.packet.take 31).drop 4 := List.take_drop
      _ = padTo 27 r.payload := by rw [replyPacket_take]; rfl
      _ = _ := by rw [padTo_eq, List.take_of_length_le short]

theorem SourceState.qualifies_iff (threshold : Nat) (x : SourceState) : x.qualifies threshold = true ↔
    x.pending = true ∧ x.noticed = false ∧ x.route ≠ .attention ∧ threshold < x.level := by
  simp [SourceState.qualifies, and_assoc]

theorem noticePacket_fields (v : Evu) (marker : Half) (time : Word) :
    let p := noticePacket v marker time
    let newly : SourceState → Prop := fun x =>
      x.pending = true ∧ x.noticed = false ∧ x.route ≠ .attention ∧ v.noticeThreshold < x.level
    isPacket p ∧ field p 0 1 = 0xA2
      ∧ isSourceSet v (fun x => x.pending = true) (field p 1 2) ∧ isSourceSet v newly (field p 3 2)
      ∧ ((∀ x ∈ v.sources.toList, x.level ≤ 7) → isHighest v newly (field p 5 1))
      ∧ field p 6 2 = marker.toNat ∧ field p 8 4 = time.toNat ∧ (p.drop 12).take 19 = List.replicate 19 0 := by
  intro p newly
  have whole : p = packetOf _ := noticePacket_eq v marker time
  have pending : field p 1 2 = (v.setOf (·.pending)).toNat := by
    rw [whole, field_packetOf (by simp) (by simp)]
    exact field_bytesOf rfl (v.setOf _).isLt
  have noticed : field p 3 2 = (v.setOf (·.qualifies v.noticeThreshold)).toNat := by
    rw [whole, field_packetOf (by simp) (by simp)]
    exact field_bytesOf rfl (v.setOf _).isLt
  refine ⟨packetOf_isPacket _, ?_, ?_, ?_, fun levels => ?_, ?_, ?_, ?_⟩
  · rw [whole, field_packetOf (by simp) (by simp)]
    exact field_bytesOf rfl (by decide)
  · rw [pending]
    exact setOf_isSourceSet v _ fun _ => Iff.rfl
  · rw [noticed]
    exact setOf_isSourceSet v _ (SourceState.qualifies_iff _)
  · have small := highest_le v (·.qualifies v.noticeThreshold) levels
    have highest : field p 5 1 = v.highest (·.qualifies v.noticeThreshold) := by
      rw [whole, field_packetOf (by simp) (by simp)]
      exact field_bytesOf rfl (by rw [pow_one]; omega)
    rw [highest]
    exact highest_isHighest v _ (SourceState.qualifies_iff _)
  · rw [whole, field_packetOf (by simp) (by simp)]
    exact field_bytesOf rfl marker.isLt
  · rw [whole, field_packetOf (by simp) (by simp)]
    exact field_bytesOf rfl time.isLt
  · rw [whole]
    exact packetOf_unused (n := 12) rfl (by decide)

/-! ### The scan header (R91, R166) -/

/-- The interval a scan header shows (R91). -/
def shownInterval (interval : Option Word) : Nat :=
  match interval with
  | some i => min i.toNat 65535
  | none => 65535

theorem shownInterval_lt (interval : Option Word) : shownInterval interval < 65536 := by
  unfold shownInterval
  split <;> omega

theorem scanHeader_eq (k : Kind) (sequence : Half) (interval : Option Word) (profile : Fin 4) :
    scanHeader k sequence interval profile = withCheck (bytesOf [(1, 0xB5), (1, k.headerCode.toNat),
      (2, sequence.toNat), (2, shownInterval interval), (1, profile.val)]) := by
  have mark : byte 0xB5 = 0xB5 := rfl
  cases interval <;> simp [scanHeader, halfBytes, shownInterval, mark]

theorem scanHeader_fields (k : Kind) (sequence : Half) (interval : Option Word) (profile : Fin 4) :
    let p := scanHeader k sequence interval profile
    p.length = 8 ∧ byteSum p = 0 ∧ field p 0 1 = 0xB5
      ∧ field p 1 1 = (match k with
        | .live => 0
        | .deferred => 0
        | .repeated => 1
        | .fill => 2)
      ∧ field p 2 2 = sequence.toNat
      ∧ (interval = none → field p 4 2 = 65535)
      ∧ (∀ i, interval = some i → field p 4 2 = min i.toNat 65535)
      ∧ field p 6 1 = profile.val := by
  intro p
  have whole : p = bytesOf _ ++ _ := scanHeader_eq k sequence interval profile
  have shown : field p 4 2 = shownInterval interval := by
    rw [whole, field_append_left (by simp)]
    exact field_bytesOf rfl (shownInterval_lt interval)
  refine ⟨by simp [whole], byteSum_withCheck _, ?_, ?_, ?_, fun absent => ?_, fun i found => ?_, ?_⟩
  · rw [whole, field_append_left (by simp)]
    exact field_bytesOf rfl (by decide)
  · rw [whole, field_append_left (by simp)]
    refine (field_bytesOf rfl k.headerCode.isLt).trans ?_
    cases k <;> rfl
  · rw [whole, field_append_left (by simp)]
    exact field_bytesOf rfl sequence.isLt
  · rw [shown, absent]
    rfl
  · rw [shown, found]
    rfl
  · rw [whole, field_append_left (by simp)]
    exact field_bytesOf rfl (by have := profile.isLt; omega)

/-! ### Statistics packets (R143, R165) -/

/-- The zone results packet `place` of a set holds (R143). -/
def HeldSet.resultsAt (h : HeldSet) (place : Nat) : List ZoneResult := (h.results.drop (4 * (place - 1))).take 4

theorem HeldSet.resultsAt_length (h : HeldSet) (place : Nat) :
    (h.resultsAt place).length = min 4 (h.results.length - 4 * (place - 1)) := by simp [HeldSet.resultsAt]

theorem HeldSet.resultsAt_getElem? (h : HeldSet) (place : Nat) {k : Nat} (within : k < 4) :
    (h.resultsAt place)[k]? = h.results[4 * (place - 1) + k]? := by
  rw [HeldSet.resultsAt, List.getElem?_take_of_lt within, List.getElem?_drop]

/-- The fields before the zone results (R165). -/
def HeldSet.header (h : HeldSet) (place : Nat) : List (Nat × Nat) :=
  [(1, 0xA3), (2, h.sequence.toNat), (1, h.first), (1, h.last), (1, place + 16 * ((h.results.length + 3) / 4)),
    (1, (if h.overrun then 1 else 0) + 2 * (h.resultsAt place).length)]

theorem HeldSet.packet_eq (h : HeldSet) (place : Nat) : h.packet place =
    packetOf (bytesOf (h.header place) ++ (h.resultsAt place).flatMap ZoneResult.bytes) := rfl

theorem HeldSet.header_length (h : HeldSet) (place : Nat) : (bytesOf (h.header place)).length = 7 := rfl

theorem zoneBytes_length (results : List ZoneResult) :
    (results.flatMap ZoneResult.bytes).length = 6 * results.length := by
  induction results with
  | nil => rfl
  | cons z rest ih =>
    have length : z.bytes.length = 6 := rfl
    rw [List.flatMap_cons, List.length_append, ih, length, List.length_cons]
    omega

theorem HeldSet.bytes_length (h : HeldSet) (place : Nat) :
    (bytesOf (h.header place) ++ (h.resultsAt place).flatMap ZoneResult.bytes).length
      = 7 + 6 * (h.resultsAt place).length := by
  rw [List.length_append, h.header_length, zoneBytes_length]

theorem HeldSet.bytes_fit (h : HeldSet) (place : Nat) : 7 + 6 * (h.resultsAt place).length ≤ 31 := by
  rw [h.resultsAt_length]
  omega

/-- Each zone result takes six bytes. -/
theorem field_zoneBytes {results : List ZoneResult} {k : Nat} {z : ZoneResult} (found : results[k]? = some z)
    {start width : Nat} (within : start + width ≤ 6) :
    field (results.flatMap ZoneResult.bytes) (6 * k + start) width = field z.bytes start width := by
  induction results generalizing k with
  | nil => cases found
  | cons y rest ih =>
    rw [List.flatMap_cons]
    cases k with
    | zero =>
      obtain rfl : y = z := by simpa using found
      rw [Nat.mul_zero, Nat.zero_add, field_append_left (by rw [y.bytes_eq]; simpa using within)]
    | succ k =>
      have past := field_append_right y.bytes (rest.flatMap ZoneResult.bytes) (6 * k + start) width
      have length : y.bytes.length = 6 := rfl
      rw [show 6 * (k + 1) + start = y.bytes.length + (6 * k + start) by omega, past]
      exact ih (by simpa using found)

/-- A field before the zone results. -/
theorem HeldSet.field_header (h : HeldSet) {place start k n : Nat} (within : start + k ≤ 7)
    (entry : fieldAt (h.header place) start = some (k, n)) (fits : n < 256 ^ k) :
    field (h.packet place) start k = n := by
  have small := h.bytes_fit place
  rw [h.packet_eq, field_packetOf (by rwa [h.bytes_length]) (by rw [h.bytes_length]; omega),
    field_append_left (by rwa [h.header_length])]
  exact field_bytesOf entry fits

/-- A field of the packet's k-th zone result. -/
theorem HeldSet.field_result (h : HeldSet) {place k : Nat} {z : ZoneResult} (found : (h.resultsAt place)[k]? = some z)
    (start : Nat) {width n : Nat} (within : start + width ≤ 6)
    (entry : fieldAt [(1, z.zone), (3, z.maximum + 1024 * z.mean), (2, z.bright)] start = some (width, n))
    (fits : n < 256 ^ width) : field (h.packet place) (7 + start + 6 * k) width = n := by
  have small := h.bytes_fit place
  obtain ⟨held, -⟩ := List.getElem?_eq_some_iff.mp found
  rw [h.packet_eq, field_packetOf (by rwa [h.bytes_length]) (by rw [h.bytes_length]; omega),
    show 7 + start + 6 * k = 7 + (6 * k + start) by omega, ← h.header_length place, field_append_right,
    field_zoneBytes found within, z.bytes_eq]
  exact field_bytesOf entry fits

theorem statsPacket_fields (h : HeldSet) (place : Nat) (first : 1 ≤ place) (last : place ≤ 12)
    (few : h.results.length ≤ 48) :
    let p := h.packet place
    let count := min 4 (h.results.length - 4 * (place - 1))
    isPacket p ∧ field p 0 1 = 0xA3 ∧ field p 1 2 = h.sequence.toNat
      ∧ (h.first < 48 → field p 3 1 = h.first) ∧ (h.last < 48 → field p 4 1 = h.last)
      ∧ field p 5 1 = place + 16 * ((h.results.length + 3) / 4)
      ∧ field p 6 1 = (if h.overrun then 1 else 0) + 2 * count
      ∧ (∀ k z, k < 4 → h.results[4 * (place - 1) + k]? = some z →
          z.zone < 48 → z.maximum < 1024 → z.mean < 1024 → z.bright < 65536 →
          field p (7 + 6 * k) 1 = z.zone ∧ field p (8 + 6 * k) 3 = z.maximum + 1024 * z.mean
            ∧ field p (11 + 6 * k) 2 = z.bright)
      ∧ (p.drop (7 + 6 * count)).take (24 - 6 * count) = List.replicate (24 - 6 * count) 0 := by
  intro p count
  have results : (h.resultsAt place).length = count := h.resultsAt_length place
  have four : count ≤ 4 := Nat.min_le_left _ _
  refine ⟨packetOf_isPacket _, h.field_header (by decide) rfl (by decide),
    h.field_header (by decide) rfl h.sequence.isLt,
    fun low => h.field_header (by decide) rfl (by rw [pow_one]; omega),
    fun high => h.field_header (by decide) rfl (by rw [pow_one]; omega),
    h.field_header (by decide) rfl (by rw [pow_one]; omega), ?_, fun k z within found => ?_, ?_⟩
  · rw [← results]
    exact h.field_header (by decide) rfl (by rw [pow_one]; split <;> omega)
  · rw [← h.resultsAt_getElem? place within] at found
    intro zone maximum mean bright
    exact ⟨h.field_result found 0 (by decide) rfl (by rw [pow_one]; omega),
      h.field_result found 1 (by decide) rfl (by omega), h.field_result found 4 (by decide) rfl bright⟩
  · have small := h.bytes_fit place
    rw [show 24 - 6 * count = 31 - (7 + 6 * count) by omega, show p = _ from h.packet_eq place, ← results]
    exact packetOf_unused (h.bytes_length place) small

/-! ### The codes and the layouts together (R156, R158, R164) -/

/-- Settles O7: each payload is its table of fields, and a field of a table is read back from its place. -/
theorem payloadLayouts : Obligations.PayloadLayouts := by
  refine ⟨⟨rfl, fun _ _ => rfl, rfl, fun _ _ => rfl⟩, fun _ => ⟨rfl, rfl⟩, statusPayload_fields, recordBody_fields,
    ?_, replyPacket_fields, fun r => ⟨packetOf_isPacket _, recordPacket_take r⟩, noticePacket_fields,
    statsPacket_fields, scanHeader_fields, profilePayload_fields, regionBytes_fields, eventsPayload_fields⟩
  exact ⟨rfl, rfl, rfl, rfl, rfl, rfl, rfl, rfl, fun _ _ _ _ => rfl, fun _ _ => rfl, rfl, rfl⟩

end Sys2Proof.Machine

namespace Sys2Proof.Machine

open State

/-! ### OVERLAY_LINE_START (R114 to R116, R159) -/

section
variable {s : State}

/-- OVERLAY_LINE_START taken with the link LOCKED, by phase (R114). -/
theorem State.overlayLineStart_of_locked (locked : s.ocap.link = .locked) :
    s.overlayLineStart =
      match s.ocap.phase with
      | .closed => s
      | .blanking => s.beginBackFrame.openWindow
      | .arriving =>
        if s.ocap.lineOpen then s.discardOverlay true .closed
        else { s with ocap := { s.ocap with lineOpen := true } }
      | .counted => s.discardOverlay true .closed := by
  unfold State.overlayLineStart
  rw [locked]
  cases s.ocap.phase <;> rfl

/-- A heard OVERLAY_LINE_START acts on the state `dt` later, and the port is served. -/
theorem exec_overlayLineStart_of (h : s.hearsOverlay) (dt : Nat) :
    exec (.overlayLineStart dt) s = .next (s.after dt).overlayLineStart.serve := by
  obtain ⟨_, lineStart, _⟩ := overlay_arrivals_of_awake h.1 dt []
  exact lineStart

end

/-- Settles O21, by the phase the line start finds. -/
theorem overlayLineStart : Obligations.OverlayLineStart := by
  intro dt s h
  rw [exec_overlayLineStart_of h, State.overlayLineStart_of_locked (s := s.after dt) h.2, State.after_ocap]
  refine ⟨fun closed => ?_, fun blanking => ?_, fun arriving line => ?_, fun excess => ?_⟩
  · rw [closed]
  · rw [blanking]
    rfl
  · rw [arriving]
    simp only [line]
    rfl
  · obtain ⟨arriving, line⟩ | counted := excess
    · rw [arriving]
      simp only [line, if_true]
    · rw [counted]

end Sys2Proof.Machine

namespace Sys2Proof.Machine

open State

/-! ### The overlay link taken and lost (R113, R161) -/

section
variable (s : State)

/-- The overlay frame in flight discarded as a loss discards it, by its phase (R113). -/
def State.overlayFrameLost : State :=
  match s.ocap.phase with
  | .closed => s
  | .blanking => s.discardOverlay false .closed
  | .arriving => s.discardOverlay true .closed
  | .counted => if s.ocap.back = BackState.filling then s.discardOverlay true .closed else s

/-- What a loss leaves of OCAP and of its frame: the frame discarded, the link DOWN, the phase CLOSED (R113). -/
def State.overlayLinkLost : State :=
  { s.overlayFrameLost with
    ocap := { s.overlayFrameLost.ocap with link := .down, phase := .closed, lineOpen := false } }

theorem State.overlayFrameLost_frame : s.overlayFrameLost.rct = s.rct ∧ s.overlayFrameLost.free = s.free := by
  unfold State.overlayFrameLost
  cases s.ocap.phase with
  | closed => exact ⟨rfl, rfl⟩
  | blanking => simp
  | arriving => simp
  | counted => dsimp only; split <;> simp

/-- A loss is OCAP's part and then RCT's. -/
theorem State.overlayLossTaken_eq : s.overlayLossTaken = s.overlayLinkLost.returnLost s.windowInProgress := rfl

/-- A return window is in progress while the active lines of its frame arrive (R159, log 16). -/
theorem State.windowInProgress_iff : s.windowInProgress = true ↔
    s.rct.sending = true ∧ s.ocap.linesSeen < 540 ∧ (s.ocap.phase = .arriving ∨ s.ocap.phase = .closed) := by
  simp only [State.windowInProgress, Bool.and_eq_true, Bool.or_eq_true, decide_eq_true_eq, beq_iff_eq, and_assoc]
  rfl

/-- With no window in progress the lane keeps what was sent (R161). -/
theorem State.overlayLossTaken_of_no_window (h : s.windowInProgress = false) :
    s.overlayLossTaken = { s.overlayLinkLost with rct := { queue := [], lane := s.rct.lane } } := by
  obtain ⟨rct, _⟩ := s.overlayFrameLost_frame
  rw [State.overlayLossTaken_eq, h, ← rct]
  rfl

/-- A window in progress keeps the packets that had gone, and their number is a free value (R161, log 16). -/
theorem State.overlayLossTaken_of_window (h : s.windowInProgress = true) :
    s.overlayLossTaken = { s.overlayLinkLost with
      rct := { queue := [], lane := s.rct.lane.take (Config.packetsSent s.free) }, free := s.free + 1 } := by
  obtain ⟨rct, free⟩ := s.overlayFrameLost_frame
  rw [State.overlayLossTaken_eq, h, ← rct, ← free]
  rfl

/-- Whether or not a window is in progress, the lane keeps the first packets sent. -/
theorem State.overlayLossTaken_keeps_first_packets : ∃ k free, s.overlayLossTaken =
    { s.overlayLinkLost with rct := { queue := [], lane := s.rct.lane.take k }, free := free } := by
  cases h : s.windowInProgress with
  | true => exact ⟨_, _, s.overlayLossTaken_of_window h⟩
  | false =>
    refine ⟨s.rct.lane.length, s.overlayLinkLost.free, ?_⟩
    rw [s.overlayLossTaken_of_no_window h, List.take_length]

end

section
variable {s : State}

/-- OVERLAY_LOCK and OVERLAY_LOSS outside LOADING: the link follows its lock condition (R112, log 5). -/
theorem exec_overlayLinks_of_awake (awake : s.awake) (dt : Nat) :
    exec (.overlayLock dt) s = .next ((s.after dt).setOverlayLock true).followOverlayLock
      ∧ exec (.overlayLoss dt) s = .next ((s.after dt).setOverlayLock false).followOverlayLock.serve :=
  ⟨congrArg Host.Outcome.next (arrivalOutsideLoading_of (s := s.setOverlayLock true) awake dt _),
    congrArg Host.Outcome.next (arrivalOutsideLoading_of (s := s.setOverlayLock false) awake dt _)⟩

theorem State.setOverlayLock_followed_up (locked : s.ocap.link = .locked) :
    (s.setOverlayLock true).followOverlayLock = s.setOverlayLock true :=
  State.followOverlayLock_of_agree _ ⟨fun _ => rfl, fun _ => locked⟩

theorem State.setOverlayLock_followed_down (down : s.ocap.link = .down) :
    (s.setOverlayLock false).followOverlayLock = s.setOverlayLock false := by
  refine State.followOverlayLock_of_agree _ ⟨fun locked => ?_, fun lock => Bool.noConfusion lock⟩
  cases down.symm.trans locked

end

/-- Settles O23: the arrival by whether its lock condition agrees with the link, and the loss by its window. -/
theorem overlayLinks : Obligations.OverlayLinks := by
  refine ⟨fun dt s awake => ?_, fun s => ⟨fun ended => ?_, fun going => ?_⟩⟩
  · obtain ⟨lock, loss⟩ := exec_overlayLinks_of_awake awake dt
    rw [lock, loss]
    refine ⟨fun down => ⟨?_, ?_⟩, fun locked => ⟨?_, ?_⟩⟩
    · rw [State.followOverlayLock_of_lock (s := (s.after dt).setOverlayLock true) down rfl]
      rfl
    · rw [State.setOverlayLock_followed_down (s := s.after dt) down]
      rfl
    · rw [State.setOverlayLock_followed_up (s := s.after dt) locked]
      rfl
    · intro u v
      rw [State.followOverlayLock_of_loss (s := (s.after dt).setOverlayLock false) locked rfl]
      obtain ⟨k, free, kept⟩ := u.overlayLossTaken_keeps_first_packets
      exact ⟨rfl, k, free, congrArg (fun t => Host.Outcome.next t.serve) kept⟩
  · exact s.overlayLossTaken_of_no_window (Bool.eq_false_iff.mpr (mt s.windowInProgress_iff.mp ended))
  · exact ⟨_, s.overlayLossTaken_of_window (s.windowInProgress_iff.mpr going)⟩

end Sys2Proof.Machine

namespace Sys2Proof.Machine

/-! ### The tone curves (R107, R108) -/

/-- A weighted sum of two numbers lies between the whole weight of the smaller and of the larger. -/
theorem weighted_between (low high : Nat) {f n : Nat} (h : f ≤ n) :
    min low high * n ≤ low * (n - f) + high * f ∧ low * (n - f) + high * f ≤ max low high * n := by
  have split (m : Nat) : m * n = m * (n - f) + m * f := by rw [← Nat.mul_add, Nat.sub_add_cancel h]
  rw [split, split]
  exact ⟨Nat.add_le_add (Nat.mul_le_mul_right _ (Nat.min_le_left _ _)) (Nat.mul_le_mul_right _ (Nat.min_le_right _ _)),
    Nat.add_le_add (Nat.mul_le_mul_right _ (Nat.le_max_left _ _)) (Nat.mul_le_mul_right _ (Nat.le_max_right _ _))⟩

/-- The value between two points of a curve is never outside them (R107). -/
theorem interpolate_between (low high : Nat) {f : Nat} (h : f ≤ 16) :
    min low high ≤ interpolate low high f ∧ interpolate low high f ≤ max low high := by
  obtain ⟨least, greatest⟩ := weighted_between low high h
  unfold interpolate
  omega

/-- Between two points 64 apart each step of the code adds 4. -/
theorem interpolate_add_64 (n : Nat) {f : Nat} (h : f ≤ 16) : interpolate n (n + 64) f = n + 4 * f := by
  have whole : n * (16 - f) + n * f = n * 16 := by rw [← Nat.mul_add, Nat.sub_add_cancel h]
  unfold interpolate
  rw [Nat.add_mul]
  omega

/-- A code is mapped from the two points around it (R107). -/
theorem Curve.apply_toNat (curve : Curve) {x : BitVec 10} {i f : Nat} (hi : i < 64) (hf : f < 16)
    (hx : x.toNat = 16 * i + f) :
    (curve.apply x).toNat = min ((interpolate curve[i].toNat curve[i + 1].toNat f + 2) / 4) 1023 := by
  obtain rfl : i = x.toNat / 16 := by omega
  obtain rfl : f = x.toNat % 16 := by omega
  exact Nat.mod_eq_of_lt ((Nat.min_le_right _ _).trans_lt (by decide))

/-- A point of a curve as its list holds it. -/
theorem Curve.toNat_getElem_of_toList (curve : Curve) {k n : Nat} (hk : k < 65) (small : n < 4096)
    (found : curve.toList[k]? = some (BitVec.ofNat 12 n)) : curve[k].toNat = n := by
  have point : curve[k] = BitVec.ofNat 12 n := by simpa [hk] using found
  rw [point]
  exact Nat.mod_eq_of_lt small

theorem Curve.identity_toNat {k : Nat} (hk : k < 65) : Curve.identity[k].toNat = min (64 * k) 4095 := by
  have point : Curve.identity[k] = BitVec.ofNat 12 (min (64 * k) 4095) := Curve.identity_point ⟨k, hk⟩
  rw [point]
  exact Nat.mod_eq_of_lt (by omega)

/-- The identity curve maps each code to itself; its last segment ends at 4095 and not at 4096 (R108). -/
theorem Curve.identity_apply (x : BitVec 10) : Curve.identity.apply x = x := by
  refine BitVec.eq_of_toNat_eq ?_
  have range := x.isLt
  obtain ⟨i, f, hf, hx⟩ : ∃ i f, f < 16 ∧ x.toNat = 16 * i + f :=
    ⟨x.toNat / 16, x.toNat % 16, Nat.mod_lt _ (by decide), (Nat.div_add_mod _ 16).symm⟩
  have hi : i < 64 := by omega
  rw [Curve.apply_toNat _ hi hf hx, Curve.identity_toNat, Curve.identity_toNat, hx]
  by_cases last : i = 63
  · subst last
    change min ((interpolate 4032 4095 f + 2) / 4) 1023 = _
    unfold interpolate
    omega
  · have low : min (64 * i) 4095 = 64 * i := by omega
    have high : min (64 * (i + 1)) 4095 = 64 * i + 64 := by omega
    rw [low, high, interpolate_add_64 _ hf.le]
    omega

/-- Settles O59: the two points around a code bound the value between them, and the identity curve returns the code. -/
theorem toneMap : Obligations.ToneMap := by
  refine ⟨fun _ _ => ⟨rfl, rfl, rfl⟩, ?_, Curve.identity_apply⟩
  intro curve x i f low high hi hf hx lowPoint highPoint lowSmall highSmall y12
  have bounds : min low high ≤ y12 ∧ y12 ≤ max low high := interpolate_between low high hf.le
  refine ⟨bounds.1, bounds.2, ?_⟩
  have code : (BitVec.ofNat 10 x).toNat = 16 * i + f := by rw [BitVec.toNat_ofNat, Nat.mod_eq_of_lt] <;> omega
  rw [curve.apply_toNat hi hf code, curve.toNat_getElem_of_toList (by omega) lowSmall lowPoint,
    curve.toNat_getElem_of_toList (by omega) highSmall highPoint]
  change min ((y12 + 2) / 4) 1023 = _
  split <;> omega

end Sys2Proof.Machine

namespace Sys2Proof.Machine

/-! ### Runs of points (R109) -/

section
variable (curve : Curve)

/-- The points outside a run stay (R109). -/
theorem setPoints_outside (first : Nat) (points : List Half) {j : Nat} (hj : j < 65)
    (outside : j < first ∨ first + points.length ≤ j) : (setPoints curve first points)[j] = curve[j] := by
  induction points generalizing curve first with
  | nil => rfl
  | cons v rest ih =>
    rw [List.length_cons] at outside
    rw [setPoints, ih _ _ (by omega)]
    split
    · exact Vector.getElem_set_ne _ _ (by omega)
    · rfl

/-- A point of a run is stored at its place, lowered to 4095 (R109). -/
theorem setPoints_inside (first : Nat) (points : List Half) {j k : Nat} (hj : j < 65) (hk : k < points.length)
    (place : j = first + k) : (setPoints curve first points)[j].toNat = min points[k].toNat 4095 := by
  induction points generalizing curve first k with
  | nil => cases hk
  | cons v rest ih =>
    cases k with
    | zero =>
      obtain rfl : j = first := place
      rw [setPoints, setPoints_outside _ _ _ hj (.inl j.lt_succ_self), dif_pos hj, Vector.getElem_set_self]
      exact Nat.mod_eq_of_lt ((Nat.min_le_right _ _).trans_lt (by decide))
    | succ k => exact ih _ _ (Nat.lt_of_succ_lt_succ hk) (by omega)

end

theorem regionInRange_iff (r : RegionRequest) : regionInRange r = true ↔
    r.index.toNat ≤ 7 ∧ r.level.toNat ≤ 7
      ∧ (r.sourceX.toNat ≤ 959 ∧ r.sourceY.toNat ≤ 539 ∧ 1 ≤ r.width.toNat ∧ r.width.toNat ≤ 960
        ∧ 1 ≤ r.height.toNat ∧ r.height.toNat ≤ 540
        ∧ r.sourceX.toNat + r.width.toNat ≤ 960 ∧ r.sourceY.toNat + r.height.toNat ≤ 540)
      ∧ r.destX.toNat ≤ 3839 ∧ r.destY.toNat ≤ 2159
      ∧ (r.zoom.toNat = 1 ∨ r.zoom.toNat = 2 ∨ r.zoom.toNat = 4) ∧ r.alphaMode.toNat ≤ 1 := by
  simp only [regionInRange, Bool.and_eq_true, Bool.or_eq_true, decide_eq_true_eq, beq_iff_eq, and_assoc, or_assoc]

/-! ### The commands that write the shadow bank (R109, R111, R118, R132) -/

section
variable (s : State) (tag : Byte)

/-- WRITE_REGION, with the index it stores at (R118). -/
theorem writeRegionEffect_eq (r : RegionRequest) : writeRegionEffect tag r s =
    if h : regionInRange r = true then
      if s.tbc.commitPending.isSome then s.addReply tag 0x32 .commitPending []
      else
        (s.setShadow { s.tbc.shadow with
          regions := s.tbc.shadow.regions.set r.index.toNat (regionOf r)
            (Nat.lt_succ_of_le ((regionInRange_iff r).mp h).1) }).addReply tag 0x32 .ok []
    else s.addReply tag 0x32 .badValue [] := by
  unfold writeRegionEffect
  by_cases range : regionInRange r = true
  · have place : (Fin.ofNat 8 r.index.toNat).val = r.index.toNat :=
      Nat.mod_eq_of_lt (Nat.lt_succ_of_le ((regionInRange_iff r).mp range).1)
    simp only [range, place]
    rfl
  · rw [dif_neg range, if_pos (by simpa using range)]

/-- WRITE_TONE_POINTS answers CLAMPED when some point of the run is above 4095 (R109). -/
theorem writeTonePointsEffect_eq (channel first : Byte) (points : List Half) :
    writeTonePointsEffect tag channel first points s =
      if 2 < channel.toNat ∨ 65 < first.toNat + points.length then s.addReply tag 0x30 .badValue []
      else if s.tbc.commitPending.isSome then s.addReply tag 0x30 .commitPending []
      else
        (s.setShadow (s.tbc.shadow.setCurve channel.toNat
          (setPoints (s.tbc.shadow.curve channel.toNat) first.toNat points))).addReply tag 0x30
            (if ∃ v ∈ points, 4095 < v.toNat then .clamped else .ok) [] := by
  unfold writeTonePointsEffect
  simp only [List.any_eq_true, decide_eq_true_eq]

end

/-- Settles O9: each command is its effect on the state `dt` later, and a run of points stores its own places alone. -/
theorem shadowWrites : Obligations.ShadowWrites := by
  refine ⟨fun dt tag s taken => ?_, fun b curve => ⟨⟨rfl, rfl, rfl⟩, rfl, rfl, rfl⟩, fun curve first points _ =>
    ⟨fun k hk inside => setPoints_inside curve first points inside hk rfl,
      fun j hj outside => setPoints_outside curve first points hj outside⟩⟩
  have row (effect : State → State) : commandSlot dt effect s = .next (effect (s.after dt)) := commandSlot_of taken dt _
  refine ⟨fun red green blue => row _, fun req => ?_, fun channel first points => ?_, row _⟩
  · refine (row _).trans (congrArg _ ?_)
    rw [writeRegionEffect_eq]
    by_cases range : regionInRange req = true
    · rw [dif_pos range, dif_pos ((regionInRange_iff req).mp range)]
      rfl
    · rw [dif_neg range, dif_neg (mt (regionInRange_iff req).mpr range)]
      rfl
  · exact (row _).trans (congrArg _ (writeTonePointsEffect_eq _ tag channel first points))

end Sys2Proof.Machine

namespace Sys2Proof.Machine

/-! ### The banks along the acts (R126, R129 to R132)

In every act at most one scan start or one reaching of OFF takes the pending commit, and nothing else moves a bank while
it is pending: `State.Settles`. A reset is the one other way out: `State.BankStep`. -/

/-- The banks once the pending commit, if there is one, is taken (R129 steps 1 to 4). -/
def Tbc.committed (b : Tbc) : Tbc :=
  match b.commitPending with
  | some marker => { active := b.shadow, shadow := b.shadow, commitPending := none, lastMarker := marker }
  | none => b

theorem Tbc.committed_of_pending {b : Tbc} {marker : Half} (pending : b.commitPending = some marker) : b.committed =
    { active := b.shadow, shadow := b.shadow, commitPending := none, lastMarker := marker } := by
  unfold Tbc.committed
  rw [pending]

/-- From `s` to `t` TBC stays as it was, or takes its pending commit. -/
inductive State.Settles (s t : State) : Prop
  | kept (banks : t.tbc = s.tbc)
  | taken (banks : t.tbc = s.tbc.committed)

/-- From `s` to `t` TBC stays, takes its pending commit, or is reset with the device left in LOADING (R176, R177). -/
inductive State.BankStep (s t : State) : Prop
  | settled (settles : s.Settles t)
  | reset (banks : t.tbc = Tbc.initial) (loading : t.dctl.isLoading = true)

namespace State.Settles

section
variable {s t u : State}

theorem refl (s : State) : Settles s s := .kept rfl

theorem after_kept (h : Settles u t) (banks : u.tbc = s.tbc) : Settles s t := by
  cases h with
  | kept same => exact .kept (same.trans banks)
  | taken committed => exact .taken (committed.trans (congrArg _ banks))

theorem then_kept (h : Settles s t) (banks : u.tbc = t.tbc) : Settles s u := by
  cases h with
  | kept same => exact .kept (banks.trans same)
  | taken committed => exact .taken (banks.trans committed)

theorem answered (h : Settles s t) (tag code : Byte) (status : Status) (payload : List Byte) :
    Settles s (t.addReply tag code status payload) := h.then_kept (by simp)

theorem served (h : Settles s t) : Settles s t.serve := h.then_kept (by simp)

end

variable (s : State)

/-! Scan starts and timers. -/

/-- A scan start takes the pending commit (R130). -/
theorem startScan (r : StartReason) : Settles s (s.startScan r) := by
  refine .taken (Eq.trans (s.startScan_tbc r) (s.commitAtStart_tbc.trans ?_))
  unfold Tbc.committed
  cases s.tbc.commitPending <;> rfl

theorem takeOpen : Settles s s.takeOpen := by
  unfold State.takeOpen
  split <;> split
  · exact startScan s _
  · exact refl s
  · exact startScan s _
  · exact refl s

theorem takeMin : Settles s s.takeMin := by
  unfold State.takeMin
  split
  · exact startScan s _
  · exact (takeOpen _).after_kept rfl

theorem takeActive : Settles s s.takeActive := by
  unfold State.takeActive
  split
  · split
    · exact takeMin s
    · exact refl s
  · exact takeOpen s
  · exact refl s
  · exact refl s

theorem minExpires : Settles s s.minExpires := by
  unfold State.minExpires
  split
  · exact (takeActive _).after_kept rfl
  · exact refl s

theorem deadlineExpires : Settles s s.deadlineExpires := by
  unfold State.deadlineExpires
  split
  · exact (takeActive _).after_kept rfl
  · exact refl s

theorem freeRunExpires : Settles s s.freeRunExpires := by
  unfold State.freeRunExpires
  split
  · exact (takeActive _).after_kept rfl
  · exact refl s

/-- A plan point starts a scan in OPEN; elsewhere it only tells SSCH and CRP (R76, R77). -/
theorem repeatDue (point : Word) (remaining : Nat) : Settles s (s.repeatDue point remaining) := by
  unfold State.repeatDue
  split
  · exact (startScan _ _).after_kept rfl
  · split
    · exact .kept (by simp)
    · exact .kept rfl
  · exact .kept rfl
  · exact .kept rfl

theorem planTimerExpires : Settles s s.planTimerExpires := by
  unfold State.planTimerExpires
  split
  · split
    · exact (repeatDue _ _ _).after_kept rfl
    · exact refl s
  · exact refl s

/-! Scan ends and OFF. -/

/-- At OFF the pending commit is taken (R131). -/
theorem reachOff : Settles s s.reachOff := by
  rw [State.reachOff_eq]
  unfold State.offReached
  dsimp only
  split
  · exact .kept rfl
  · next marker pending => exact .taken (Tbc.committed_of_pending pending).symm

theorem afterScanEnd : Settles s s.afterScanEnd := by
  unfold State.afterScanEnd
  split
  · exact reachOff s
  · exact (takeActive _).after_kept rfl

theorem scanEnds (cut : Bool) (sc : Scan) : Settles s (s.engineScanEnd cut sc).afterScanEnd :=
  (afterScanEnd _).after_kept (by simp)

theorem outputTime : Settles s s.outputTime := by
  unfold State.outputTime
  split
  · exact refl s
  · split
    · exact refl s
    · split
      · split
        · exact .kept (by simp)
        · exact scanEnds s false _
      · exact refl s

theorem forceStop : Settles s s.forceStop := by
  unfold State.forceStop
  split
  · split
    · split
      · exact (scanEnds s.drawn false _).after_kept rfl
      · exact (scanEnds s.drawn true _).after_kept rfl
    · exact scanEnds s true _
  · exact refl s

/-! The live link and frame starts. -/

theorem followLiveLock : Settles s s.followLiveLock := by
  unfold State.followLiveLock
  split
  · exact (takeActive _).after_kept (by simp)
  · exact (takeActive _).after_kept (by simp)
  · exact refl s
  · exact refl s

/-- An LFS starts a scan in OPEN; elsewhere it only tells SSCH and CRP (R50, R73, R74). -/
theorem reportLfs (frame : Word) : Settles s (s.reportLfs frame) := by
  unfold State.reportLfs
  split
  · exact startScan s _
  · exact .kept (by simp)
  · exact .kept (by simp)
  · exact .kept (by simp)

theorem takeLfs : Settles s s.takeLfs := by
  have numbered : s.cutArriving.numbered.tbc = s.tbc := by simp [State.numbered]
  have reported := (reportLfs s.cutArriving.numbered s.cutArriving.numbered.lrx.frameCounter).after_kept numbered
  rw [State.takeLfs_eq]
  exact reported.then_kept (by simp)

theorem loadingEnds : Settles s s.loadingEnds := by
  unfold State.loadingEnds
  split
  · split
    · exact ((followLiveLock _).after_kept (by simp)).served
    · exact refl s
  · exact refl s
  · exact refl s

/-! Commands. -/

theorem startEffect (tag : Byte) : Settles s (startEffect tag s) := by
  have started : Settles s s.startRun := ((takeActive _).after_kept (by simp)).then_kept rfl
  unfold Machine.startEffect
  split
  · exact (refl s).answered _ _ _ _
  · split
    · exact (refl s).answered _ _ _ _
    · split
      · exact (refl s).answered _ _ _ _
      · exact (started.answered _ _ _ _).served

theorem stopEffect (tag : Byte) : Settles s (stopEffect tag s) := by
  unfold Machine.stopEffect
  split
  · exact (refl s).answered _ _ _ _
  · exact ((reachOff s).answered _ _ _ _).served
  · exact ((reachOff s).answered _ _ _ _).served
  · split
    · exact ((forceStop s).answered _ _ _ _).served
    · exact .kept rfl

theorem resetCadenceEffect (tag : Byte) : Settles s (resetCadenceEffect tag s) :=
  (((takeActive _).after_kept (by simp)).answered _ _ _ _).served

end State.Settles

namespace State.BankStep

variable {s t : State}

theorem served (h : BankStep s t) : BankStep s t.serve := by
  cases h with
  | settled settles => exact .settled settles.served
  | reset banks loading => exact .reset (by simpa using banks) (by simpa using loading)

/-- An accepted SOFT_RESET resets the banks; a refused one leaves them (R177). -/
theorem softResetEffect (s : State) (tag : Byte) : BankStep s (softResetEffect tag s) := by
  unfold Machine.softResetEffect
  split
  · exact .settled ((Settles.refl s).answered _ _ _ _)
  · split
    · exact .settled ((Settles.refl s).answered _ _ _ _)
    · exact .reset rfl rfl

/-- While a commit is pending the commands that write the shadow bank, and COMMIT, are refused (R126, R128, R132). -/
theorem command (pending : s.tbc.commitPending.isSome = true) (tag : Byte) (c : Command) :
    BankStep s (commandEffect tag c s) := by
  cases c with
  | start => exact .settled (.startEffect s tag)
  | stop => exact .settled (.stopEffect s tag)
  | resetCadence => exact .settled (.resetCadenceEffect s tag)
  | softReset => exact .softResetEffect s tag
  | writeTonePoints channel first points | writeRegion r | setFill red green blue | selectProfile index
  | commit marker | discardShadow =>
    refine .settled (.kept ?_)
    simp only [commandEffect, writeTonePointsEffect, writeRegionEffect, setFillEffect, selectProfileEffect,
      commitEffect, discardShadowEffect, pending, if_true]
    (repeat' split) <;> rfl
  | _ => exact .settled (.kept (by simp [commandEffect]))

end State.BankStep

/-- What an act does to the banks while a commit is pending. -/
theorem Act.bankStep {s t : State} (act : Act s t) (pending : s.tbc.commitPending.isSome = true) :
    s.BankStep t := by
  induction act with
  | serve _ ih => exact ih.served
  | loadingEnds => exact .settled (.loadingEnds s)
  | followLiveLock => exact .settled (.followLiveLock s)
  | takeLfs => exact .settled (.takeLfs s)
  | minExpires => exact .settled (.minExpires s)
  | deadlineExpires => exact .settled (.deadlineExpires s)
  | freeRunExpires => exact .settled (.freeRunExpires s)
  | planTimerExpires => exact .settled (.planTimerExpires s)
  | outputTime => exact .settled (.outputTime s)
  | command tag c _ => exact .command pending tag c
  | _ => exact .settled (.kept (by simp))

/-- The banks of `s`, with its commit still pending, lead to what a step from `s` can make of them. -/
theorem bankStep_actsLead {s : State} (pending : s.tbc.commitPending.isSome = true) :
    ActsLead (fun u => u.tbc = s.tbc) s.BankStep where
  dequeue _ _ banks := banks
  after _ _ _ banks := banks
  setPins _ _ _ banks := banks
  fprogFalls u _ banks := by simpa using banks
  held _ _ banks := .settled (.kept banks)
  assertReset _ _ := .reset rfl rfl
  releaseReset _ _ banks := .settled (.kept banks)
  act u t _ banks act := by
    cases act.bankStep (banks ▸ pending) with
    | settled settles => exact .settled (settles.after_kept banks)
    | reset cleared loading => exact .reset cleared loading

/-- Settles O11: what every act and every reset makes of the banks while the commit is pending. -/
theorem shadowFrozen : Obligations.ShadowFrozen := by
  intro s t marker pending taken
  cases (bankStep_actsLead (Option.isSome_of_eq_some pending)).step taken rfl with
  | settled settles =>
    cases settles with
    | kept banks => exact .inl banks
    | taken banks => exact .inr (.inl (banks.trans (Tbc.committed_of_pending pending)))
  | reset banks loading => exact .inr (.inr ⟨banks, loading⟩)

end Sys2Proof.Machine

namespace Sys2Proof.Machine

/-! ### SELECT_PROFILE (R127, R154) -/

/-- The payload of a control packet is as long as its header says, up to the 28 bytes there are, and a length its
command does not accept is BAD_LENGTH (R154 step 5, R162). -/
theorem readPacket_badLength {bytes : List Byte} {tag code len : Byte} (packet : isControlPacket bytes tag code len) :
    ∃ payload : List Byte, payload.length = min len.toNat 28
      ∧ (readPayload code.toNat payload = .wrongLength → readPacket bytes = .badLength tag code) := by
  obtain ⟨whole, header, sum⟩ := packet
  have parts : bytes = 0xC1 :: tag :: code :: len :: bytes.drop 4 :=
    (List.take_append_drop 4 bytes).symm.trans (congrArg (· ++ bytes.drop 4) header)
  refine ⟨(bytes.drop 4).take len.toNat, by simp [whole], fun wrong => ?_⟩
  generalize bytes.drop 4 = body at parts wrong
  subst parts
  simp only [readPacket, whole, sum, wrong, ne_eq, not_true_eq_false, if_false]

theorem readPayload_selectProfile_wrongLength {payload : List Byte} (wrong : payload.length ≠ 1) :
    readPayload 0x35 payload = .wrongLength := by
  match payload with
  | [] => rfl
  | [_] => exact absurd rfl wrong
  | _ :: _ :: _ => rfl

/-- A SELECT_PROFILE packet of another length than 1 is BAD_LENGTH (R127, R154 step 5). -/
theorem readPacket_selectProfile_badLength {bytes : List Byte} {tag len : Byte}
    (packet : isControlPacket bytes tag 0x35 len) (wrong : len ≠ 1) : readPacket bytes = .badLength tag 0x35 := by
  obtain ⟨payload, length, decided⟩ := readPacket_badLength packet
  have other : len.toNat ≠ 1 := fun one => wrong (BitVec.eq_of_toNat_eq one)
  exact decided (readPayload_selectProfile_wrongLength (by omega))

/-- SELECT_PROFILE, with the index it stores (R127). -/
theorem selectProfileEffect_eq (s : State) (tag index : Byte) : selectProfileEffect tag index s =
    if h : index.toNat ≤ 3 then
      if s.tbc.commitPending.isSome then s.addReply tag 0x35 .commitPending []
      else (s.setShadow { s.tbc.shadow with profile := ⟨index.toNat, by omega⟩ }).addReply tag 0x35 .ok []
    else s.addReply tag 0x35 .badValue [] := by
  unfold selectProfileEffect
  by_cases named : index.toNat ≤ 3
  · rw [dif_pos named, if_neg (by omega)]
    have place : entryIndex index = ⟨index.toNat, by omega⟩ := Fin.ext (entryIndex_of_le named)
    rw [place]
  · rw [dif_neg named, if_pos (by omega)]

/-- Settles O8: a packet of another length is decided by its bytes, and the command that is taken has its effect. -/
theorem selectProfile : Obligations.SelectProfile := by
  intro dt tag s taken
  refine ⟨fun bytes len packet wrong => ?_, fun index => ?_⟩
  · refine (execControlPacket_of taken.1 dt bytes).trans (congrArg _ ?_)
    rw [readPacket_selectProfile_badLength packet wrong]
    exact withPlace_of taken.2 dt _
  · exact (commandSlot_of taken dt _).trans (congrArg _ (selectProfileEffect_eq _ tag index))

end Sys2Proof.Machine

namespace Sys2Proof.Machine

/-! ### Zones and their pixels (R134, R135, R139) -/

section
variable {parts size x : Nat}

/-- A part begins at or below a coordinate exactly when it is not past this quotient (R135). -/
theorem partStart_le_iff (hp : 0 < parts) (hx : x < size) (k : Nat) :
    k * size / parts ≤ x ↔ k ≤ ((x + 1) * parts - 1) / size := by
  have some_part : 0 < (x + 1) * parts := Nat.mul_pos (by omega) hp
  rw [← Nat.lt_succ_iff, Nat.div_lt_iff_lt_mul hp, Nat.le_div_iff_mul_le (by omega), Nat.succ_eq_add_one]
  omega

/-- `partOf` counts the parts that begin at or below a coordinate (R135). -/
theorem partOf_eq_div (hp : 0 < parts) (hx : x < size) :
    partOf parts size x = ((x + 1) * parts - 1) / size := by
  have few : ((x + 1) * parts - 1) / size < parts := by
    have within : (x + 1) * parts ≤ size * parts := Nat.mul_le_mul_right parts hx
    have some_part : 0 < (x + 1) * parts := Nat.mul_pos (by omega) hp
    rw [Nat.div_lt_iff_lt_mul (by omega), Nat.mul_comm parts]
    omega
  unfold partOf
  simp only [partStart_le_iff hp hx]
  generalize ((x + 1) * parts - 1) / size = q at few ⊢
  obtain ⟨rest, rfl⟩ := Nat.exists_eq_add_of_le few
  have before : (List.range (q + 1)).filter (fun k => decide (k ≤ q)) = List.range (q + 1) :=
    List.filter_eq_self.mpr fun k hk => by simpa [Nat.lt_succ_iff] using hk
  have past : ((List.range rest).map (q + 1 + ·)).filter (fun k => decide (k ≤ q)) = [] := by
    simp only [List.filter_eq_nil_iff, List.mem_map, decide_eq_true_eq]
    rintro k ⟨i, -, rfl⟩
    omega
  rw [List.range_add, List.filter_append, before, past, List.append_nil, List.length_range, Nat.add_sub_cancel]

/-- A coordinate lies between the boundaries of its own part, and of no other (R135). -/
theorem between_bounds_iff (hp : 0 < parts) (hx : x < size) (k : Nat) :
    k * size / parts ≤ x ∧ x + 1 ≤ (k + 1) * size / parts ↔ k = partOf parts size x := by
  have next : x + 1 ≤ (k + 1) * size / parts ↔ ¬ (k + 1) * size / parts ≤ x := by omega
  rw [next, partStart_le_iff hp hx, partStart_le_iff hp hx, partOf_eq_div hp hx]
  omega

theorem partOf_lt (hp : 0 < parts) : partOf parts size x < parts := by
  have few := List.length_filter_le (fun k => decide (k * size / parts ≤ x)) (List.range parts)
  rw [List.length_range] at few
  unfold partOf
  omega

end

theorem zoneAt_lt (width lines x y : Nat) : zoneAt width lines x y < 48 := by
  have row : partOf 6 lines y < 6 := partOf_lt (by decide)
  have column : partOf 8 width x < 8 := partOf_lt (by decide)
  unfold zoneAt
  omega

/-- A pixel touches the accumulators of its own zone, and those only when the configured range holds it (R139). -/
theorem takePixel_getElem (cfg : StatsConfig) (width lines y : Nat) (accs : Vector ZoneAcc 48) (p : GamePixel)
    (x : Nat) (k : Fin 48) :
    (takePixel cfg width lines y accs (p, x))[k] =
      if k.val = zoneAt width lines x y ∧ cfg.first ≤ zoneAt width lines x y ∧ zoneAt width lines x y ≤ cfg.last
      then accs[k].take cfg.threshold (luma p) else accs[k] := by
  unfold takePixel
  rw [dif_pos (zoneAt_lt width lines x y)]
  by_cases range : cfg.first ≤ zoneAt width lines x y ∧ zoneAt width lines x y ≤ cfg.last
  · simp only [range, and_self, if_true, and_true, Fin.getElem_fin, Vector.getElem_set, eq_comm (a := k.val)]
    split
    · next same => simp only [same]
    · rfl
  · rw [if_neg range, if_neg fun h => range h.2]

section
variable {z : Zsu} (width lines y : Nat)

theorem Zsu.takeLine_of_measuring (measuring : z.state = .measuring) (pixels : List GamePixel) :
    z.takeLine width lines y pixels =
      { z with accumulators := pixels.zipIdx.foldl (takePixel z.config width lines y) z.accumulators } := by
  unfold Zsu.takeLine
  rw [measuring]

theorem Zsu.takeLine_of_not_measuring (idle : z.state ≠ .measuring) (pixels : List GamePixel) :
    z.takeLine width lines y pixels = z := by
  unfold Zsu.takeLine
  split
  · next measuring => exact absurd measuring idle
  · rfl
  · rfl

/-- While a scan is measured the last pixel of a line is taken after those before it, at the column they reach
(R139). -/
theorem Zsu.takeLine_append (measuring : z.state = .measuring) (pixels : List GamePixel) (p : GamePixel) :
    z.takeLine width lines y (pixels ++ [p]) =
      { z.takeLine width lines y pixels with
        accumulators := takePixel z.config width lines y (z.takeLine width lines y pixels).accumulators
          (p, pixels.length) } := by
  simp [Zsu.takeLine_of_measuring width lines y measuring, List.zipIdx_append]

end

/-- Settles O18: each coordinate has its own part of the grid, and a line is taken pixel by pixel. -/
theorem zoneGrid : Obligations.ZoneGrid := by
  refine ⟨fun width lines x y _ _ hx hy => ?_, fun z width lines y => ?_⟩
  · have row := between_bounds_iff (parts := 6) (by decide) hy
    have column := between_bounds_iff (parts := 8) (by decide) hx
    obtain ⟨above, below⟩ := (row _).mpr rfl
    obtain ⟨left, right⟩ := (column _).mpr rfl
    exact ⟨partOf 6 lines y, partOf 8 width x, partOf_lt (by decide), partOf_lt (by decide), rfl, above, below, left,
      right, fun r' c' hr hr' hc hc' => ⟨(row r').mp ⟨hr, hr'⟩, (column c').mp ⟨hc, hc'⟩⟩⟩
  · by_cases measuring : z.state = .measuring
    · refine ⟨Zsu.takeLine_of_measuring width lines y measuring [], fun pixels p => ?_⟩
      dsimp only
      rw [Zsu.takeLine_append width lines y measuring]
      exact ⟨fun idle => absurd measuring idle, rfl, fun _ k => takePixel_getElem ..⟩
    · have same := Zsu.takeLine_of_not_measuring width lines y measuring
      refine ⟨same [], fun pixels p => ⟨fun _ => same _, ?_, fun h => absurd h measuring⟩⟩
      rw [same, same]

end Sys2Proof.Machine

namespace Sys2Proof.Machine

/-! ### A posted set (R140, R141, R144) -/

/-- The items whose places lie in a range are the run of the list there. -/
theorem filter_zipIdx_range {α : Type} (l : List α) {first last : Nat} (ordered : first ≤ last)
    (within : last < l.length) :
    (l.zipIdx.filter fun a => decide (first ≤ a.2 ∧ a.2 ≤ last))
      = ((l.drop first).take (last + 1 - first)).zipIdx first := by
  have below : (l.take first).zipIdx.filter (fun a => decide (first ≤ a.2 ∧ a.2 ≤ last)) = [] := by
    simp only [List.filter_eq_nil_iff, decide_eq_true_eq, not_and]
    intro a ha
    have := List.snd_lt_of_mem_zipIdx ha
    simp only [List.length_take] at this
    omega
  have inside : (((l.drop first).take (last + 1 - first)).zipIdx first).filter
      (fun a => decide (first ≤ a.2 ∧ a.2 ≤ last)) = ((l.drop first).take (last + 1 - first)).zipIdx first := by
    simp only [List.filter_eq_self, decide_eq_true_eq]
    intro a ha
    have above := List.le_snd_of_mem_zipIdx ha
    have := List.snd_lt_of_mem_zipIdx ha
    simp only [List.length_take, List.length_drop] at this
    omega
  have beyond : (((l.drop first).drop (last + 1 - first)).zipIdx (last + 1)).filter
      (fun a => decide (first ≤ a.2 ∧ a.2 ≤ last)) = [] := by
    simp only [List.filter_eq_nil_iff, decide_eq_true_eq, not_and]
    intro a ha
    have := List.le_snd_of_mem_zipIdx ha
    omega
  have parts : l.zipIdx = (l.take first).zipIdx ++ ((l.drop first).take (last + 1 - first)).zipIdx first
      ++ ((l.drop first).drop (last + 1 - first)).zipIdx (last + 1) := by
    conv_lhs => rw [← List.take_append_drop first l, ← List.take_append_drop (last + 1 - first) (l.drop first)]
    rw [List.zipIdx_append, List.zipIdx_append, List.append_assoc]
    simp only [List.length_take, List.length_drop]
    congr 3 <;> omega
  rw [parts, List.filter_append, List.filter_append, below, inside, beyond, List.nil_append, List.append_nil]

section
variable {z : Zsu} (ordered : z.config.first ≤ z.config.last) (within : z.config.last ≤ 47)
include ordered within

/-- The results of the configured range are those of its run of accumulators, each under its own number (R140). -/
theorem Zsu.results_eq : z.results =
    (((z.accumulators.toList.drop z.config.first).take (z.config.last + 1 - z.config.first)).zipIdx
      z.config.first).map fun a => a.1.result a.2 := by
  rw [Zsu.results, filter_zipIdx_range _ ordered (by simp only [Vector.length_toList]; omega)]

theorem Zsu.results_length : z.results.length = z.config.last + 1 - z.config.first := by
  simp only [Zsu.results_eq ordered within, List.length_map, List.length_zipIdx, List.length_take, List.length_drop,
    Vector.length_toList]
  omega

theorem Zsu.results_getElem {k : Nat} (hk : k < z.results.length) (hz : z.config.first + k < 48) :
    z.results[k] = z.accumulators[z.config.first + k].result (z.config.first + k) := by
  simp [Zsu.results_eq ordered within]

end

section
variable {s : State} (measuring : s.zsu.state = .measuring) (q : Half)
include measuring

/-- The end of a measured scan posts its set, and overruns one still held (R140, R144). -/
theorem State.statsScanEnd_of_measured : s.statsScanEnd false q =
    { s with
      zsu := s.zsu.complete q
      evu := if s.zsu.held.isSome = true then (s.evu.raise .statsReady).raise .statsOverrun
        else s.evu.raise .statsReady } := by
  unfold State.statsScanEnd
  rw [measuring]
  cases s.zsu.held <;> rfl

/-- A cut-short end gives the measurement up (R141). -/
theorem State.statsScanEnd_of_cut : s.statsScanEnd true q =
    { s with zsu := { s.zsu with state := .armed, accumulators := s.zsu.cleared } } := by
  unfold State.statsScanEnd
  rw [measuring]
  rfl

end

/-- Settles O20, from the two ends of a measured scan and the run of accumulators its results come from. -/
theorem statsSetPosted : Obligations.StatsSetPosted := fun q _ measuring =>
  ⟨State.statsScanEnd_of_measured measuring q, State.statsScanEnd_of_cut measuring q, fun ordered within =>
    ⟨Zsu.results_length ordered within, fun _ hk hz => Zsu.results_getElem ordered within hk hz⟩⟩

end Sys2Proof.Machine

namespace Sys2Proof.Machine

/-! ### What a return window takes (R143, R150, R159, R160, R169) -/

theorem Evu.noticeDue_iff (v : Evu) : v.noticeDue = true ↔
    ∃ i : Fin 14, v.sources[i].pending = true ∧ v.sources[i].noticed = false
      ∧ v.sources[i].route ≠ .attention ∧ v.noticeThreshold < v.sources[i].level := by
  simp only [← SourceState.qualifies_iff, Evu.noticeDue, List.any_eq_true, Vector.mem_toList_iff,
    Vector.mem_iff_getElem]
  constructor
  · rintro ⟨_, ⟨i, hi, rfl⟩, meets⟩
    exact ⟨⟨i, hi⟩, meets⟩
  · rintro ⟨i, meets⟩
    exact ⟨_, ⟨i, i.isLt, rfl⟩, meets⟩

/-- A source that qualifies becomes noticed, and any other stays (R169). -/
theorem Evu.markNoticed_source (v : Evu) (i : Fin 14) : v.markNoticed.sources[i] =
    if v.sources[i].pending = true ∧ v.sources[i].noticed = false ∧ v.sources[i].route ≠ .attention
        ∧ v.noticeThreshold < v.sources[i].level then { v.sources[i] with noticed := true }
    else v.sources[i] := by
  simp only [← SourceState.qualifies_iff]
  simp [Evu.markNoticed]

theorem Zsu.packets_length (z : Zsu) (room : Nat) : (z.packets room).length = z.packetsFor room := by
  unfold Zsu.packets Zsu.packetsFor
  split <;> simp [*]

theorem Zsu.packetsFor_le (z : Zsu) (room : Nat) : z.packetsFor room ≤ room := by
  unfold Zsu.packetsFor
  split
  · exact Nat.zero_le _
  · exact Nat.min_le_left _ _

/-- A window leaves ZSU as it was but for the held set (R143). -/
theorem Zsu.afterWindow_held (z : Zsu) (room : Nat) :
    z.afterWindow room = { z with held := (z.afterWindow room).held } := by
  unfold Zsu.afterWindow
  split
  · rfl
  · split <;> rfl

/-- With no set held a window takes no packet of it (R143). -/
theorem Zsu.window_of_empty {z : Zsu} (empty : z.held = none) (room : Nat) :
    z.packets room = [] ∧ z.afterWindow room = z := by
  unfold Zsu.packets Zsu.afterWindow
  simp only [empty, and_self]

/-- A window takes the packets of a held set from its send position, as far as it has room, and the send position moves
past them (R143). -/
theorem Zsu.window_of_held {z : Zsu} {h : HeldSet} (held : z.held = some h) (room : Nat) :
    z.packetsFor room = min room (h.packetCount + 1 - h.position)
      ∧ z.packets room = (List.range (z.packetsFor room)).map (fun k => h.packet (h.position + k))
      ∧ z.afterWindow room = { z with
          held := if h.packetCount < h.position + z.packetsFor room then none
            else some { h with position := h.position + z.packetsFor room } } := by
  unfold Zsu.packets Zsu.afterWindow
  simp only [held, true_and]
  refine ⟨?_, (apply_ite (fun x => { z with held := x }) _ _ _).symm⟩
  unfold Zsu.packetsFor
  rw [held]

theorem Frl.taken_eq_take (f : Frl) (room : Nat) : f.taken room = f.waiting.take (f.taken room).length := by
  simp [Frl.taken]

theorem Frl.taken_length (f : Frl) (room : Nat) : (f.taken room).length = min room f.waiting.length :=
  List.length_take

theorem Frl.waiting_of_off {f : Frl} (off : f.cursor = none) : f.waiting = [] := by
  unfold Frl.waiting
  rw [off]

theorem Frl.waiting_of_cursor {f : Frl} {c : Half} (found : f.cursor = some c) :
    f.waiting = f.ring.drop (f.ring.length - (f.next - c).toNat) := by
  unfold Frl.waiting
  rw [found]

/-- The records waiting are the newest of the ring, numbered from the cursor on (R146, R150). -/
theorem Frl.Consecutive.waiting {f : Frl} (h : f.Consecutive) {c : Half} (found : f.cursor = some c) :
    ∃ before, f.ring = before ++ f.waiting ∧ f.waiting.length = (f.next - c).toNat
      ∧ ∀ k, (hk : k < f.waiting.length) → f.waiting[k].sequence = c + BitVec.ofNat 16 k := by
  obtain ⟨-, run, cursor⟩ := h
  have bound := cursor c found
  have waiting := Frl.waiting_of_cursor found
  have length : f.waiting.length = (f.next - c).toNat := by
    rw [waiting, List.length_drop]
    omega
  refine ⟨f.ring.take (f.ring.length - (f.next - c).toNat), ?_, length, fun k hk => ?_⟩
  · rw [waiting, List.take_append_drop]
  · rw [length] at hk
    have up := run (f.ring.length - (f.next - c).toNat + k) (by omega)
    have left : f.ring.length - (f.ring.length - (f.next - c).toNat + k) = (f.next - c).toNat - k := by omega
    rw [left] at up
    simp only [waiting, List.getElem_drop]
    bv_omega

section
variable (s : State)

theorem State.windowNotice_eq : s.windowNotice =
    if ∃ i : Fin 14, s.evu.sources[i].pending = true ∧ s.evu.sources[i].noticed = false
        ∧ s.evu.sources[i].route ≠ .attention ∧ s.evu.noticeThreshold < s.evu.sources[i].level
      then [noticePacket s.evu s.tbc.lastMarker s.pacingTime] else [] := by
  simp only [State.windowNotice, Evu.noticeDue_iff]

theorem State.windowNotice_length_le : s.windowNotice.length ≤ 1 := by
  unfold State.windowNotice
  split <;> simp

variable {s} (few : s.rct.queue.length ≤ 16)
include few

/-- With at most sixteen replies queued a window takes them all (R157, R160). -/
theorem State.windowReplies_of_few : s.windowReplies = s.rct.queue.map Reply.packet := by
  rw [State.windowReplies, List.take_of_length_le (few.trans (by decide))]

/-- The reply queue, the lane and the mark of a window that opens (R160, log 16). -/
theorem State.openWindow_rct :
    s.openWindow.rct =
      { queue := [], sending := true
        lane := s.rct.queue.map Reply.packet ++ s.windowNotice ++ s.zsu.packets s.roomForStats
          ++ (s.frl.taken s.roomForRecords).map FrameRecord.packet } := by
  rw [← State.windowReplies_of_few few, ← State.windowPackets]
  have emptied : s.rct.queue.drop Config.windowPlaces = [] := List.drop_of_length_le (few.trans (by decide))
  simp [State.openWindow, emptied]

theorem State.roomForStats_eq : s.roomForStats = 24 - s.rct.queue.length - s.windowNotice.length := by
  rw [State.roomForStats, State.windowReplies_of_few few, List.length_map]
  rfl

/-- The replies and the notice have their places, and what follows takes the room they leave (R160). -/
theorem State.windowPackets_fit : s.windowPackets.length ≤ 24 := by
  have notice := s.windowNotice_length_le
  have stats := s.zsu.packetsFor_le s.roomForStats
  have records := s.frl.taken_length s.roomForRecords
  have room := State.roomForStats_eq few
  rw [State.roomForRecords] at records
  simp only [State.windowPackets, State.windowReplies_of_few few, State.roomForRecords, List.length_append,
    List.length_map, s.zsu.packets_length, records]
  omega

end

/-- Settles O22, source by source: the replies, the notice, the held set and the records. -/
theorem windowFill : Obligations.WindowFill := by
  intro s few
  refine ⟨s.zsu.packets s.roomForStats, (s.frl.taken s.roomForRecords).map FrameRecord.packet, ?_⟩
  dsimp only
  rw [← State.windowNotice_eq, ← State.roomForStats_eq few, List.length_map, s.zsu.packets_length]
  exact ⟨State.openWindow_rct few, State.windowPackets_fit few, fun h held _ => Zsu.window_of_held held _,
    Zsu.afterWindow_held _ _, fun empty => Zsu.window_of_empty empty _, Frl.taken_length _ _,
    congrArg _ (Frl.taken_eq_take _ _), rfl, s.evu.markNoticed_source, Frl.waiting_of_off,
    fun c found inv => (recordInv_iff.mp inv).1.waiting found, rfl, rfl⟩

end Sys2Proof.Machine

namespace Sys2Proof.Machine

/-! ### The commands of the statistics and of the record stream (R137, R138, R142, R149) -/

section
variable (s : State) (tag : Byte)

theorem statsInRange_iff (r : StatsRequest) : statsInRange r = true ↔
    r.first.toNat ≤ 47 ∧ r.last.toNat ≤ 47 ∧ r.first.toNat ≤ r.last.toNat ∧ r.mode.toNat ≤ 1
      ∧ r.trigger.toNat ≤ 1 ∧ r.threshold.toNat ≤ 1023 := by
  simp only [statsInRange, Bool.and_eq_true, decide_eq_true_eq, and_assoc]

theorem statsInRange_eq_false_iff (r : StatsRequest) : statsInRange r = false ↔
    47 < r.first.toNat ∨ 47 < r.last.toNat ∨ r.last.toNat < r.first.toNat ∨ 1 < r.mode.toNat
      ∨ 1 < r.trigger.toNat ∨ 1023 < r.threshold.toNat := by
  rw [← Bool.not_eq_true, statsInRange_iff]
  omega

theorem StatsState.ne_disabled_iff {x : StatsState} : x ≠ .disabled ↔ x = .armed ∨ x = .measuring := by
  cases x <;> decide

/-- STATS_CONFIG: the ranges before the state (R137). -/
theorem statsConfigEffect_eq (r : StatsRequest) : statsConfigEffect tag r s =
    if 47 < r.first.toNat ∨ 47 < r.last.toNat ∨ r.last.toNat < r.first.toNat ∨ 1 < r.mode.toNat
        ∨ 1 < r.trigger.toNat ∨ 1023 < r.threshold.toNat then s.addReply tag 0x40 .badValue []
    else if s.zsu.state = .armed ∨ s.zsu.state = .measuring then s.addReply tag 0x40 .wrongState []
    else (s.setZsu { s.zsu with config := statsOf r }).addReply tag 0x40 .ok [] := by
  unfold statsConfigEffect
  simp only [Bool.not_eq_true', statsInRange_eq_false_iff, StatsState.ne_disabled_iff]

/-- STATS_START is taken in DISABLED alone (R138). -/
theorem statsStartEffect_eq : statsStartEffect tag s =
    match s.zsu.state with
    | .disabled => (s.setZsu { s.zsu with state := .armed }).addReply tag 0x41 .ok []
    | .armed => s.addReply tag 0x41 .wrongState []
    | .measuring => s.addReply tag 0x41 .wrongState [] := by
  unfold statsStartEffect
  cases s.zsu.state <;> rfl

/-- RECORD_STREAM, by the switch it sets (R149). -/
theorem recordStreamEffect_eq (switch : Byte) : recordStreamEffect tag switch s =
    if 1 < switch.toNat then s.addReply tag 0x50 .badValue []
    else if switch = 0 then (s.setFrl { s.frl with cursor := none }).addReply tag 0x50 .ok []
    else
      match s.frl.cursor with
      | some _ => s.addReply tag 0x50 .ok []
      | none => (s.setFrl { s.frl with cursor := some s.frl.next }).addReply tag 0x50 .ok [] := by
  have off : switch.toNat = 0 ↔ switch = 0 := BitVec.toNat_inj (y := 0)
  unfold recordStreamEffect
  simp only [off]
  cases s.frl.cursor <;> rfl

end

/-- Settles O17: each command is its effect on the state `dt` later. -/
theorem statsAndStreamCommands : Obligations.StatsAndStreamCommands := by
  intro dt tag s taken
  have row (effect : State → State) : commandSlot dt effect s = .next (effect (s.after dt)) := commandSlot_of taken dt _
  refine ⟨fun r => ?_, ?_, ?_, fun switch => ?_⟩
  · exact (row _).trans (congrArg _ (statsConfigEffect_eq _ tag r))
  · refine (row _).trans (congrArg _ ((statsStartEffect_eq _ tag).trans ?_))
    rw [State.after_zsu]
    cases s.zsu.state <;> rfl
  · refine (row _).trans (congrArg _ ?_)
    unfold statsStopEffect
    rw [State.after_zsu]
    cases s.zsu.state <;> rfl
  · refine (row _).trans (congrArg _ ((recordStreamEffect_eq _ tag switch).trans ?_))
    rw [State.after_frl]
    cases s.frl.cursor <;> rfl

end Sys2Proof.Machine

namespace Sys2Proof.Machine

/-! ### A command's code and payload read back (R154, R162, R163) -/

/-- The two bytes of a 16-bit field read back as the field. -/
theorem half_bytes (h : Half) : half (byte h.toNat) (byte (h.toNat / 256)) = h := by
  have value : fromLe [byte h.toNat, byte (h.toNat / 256)] = h.toNat % 65536 := fromLe_toLe 2 h.toNat
  rw [half, value, Nat.mod_eq_of_lt h.isLt, BitVec.ofNat_toNat, BitVec.setWidth_eq]

theorem toLe_four (n : Nat) :
    toLe 4 n = [byte n, byte (n / 256), byte (n / 256 / 256), byte (n / 256 / 256 / 256)] := rfl

/-- The four bytes of a 32-bit field read back as the field. -/
theorem word32_bytes (w : Word) :
    word32 (byte w.toNat) (byte (w.toNat / 256)) (byte (w.toNat / 256 / 256)) (byte (w.toNat / 256 / 256 / 256))
      = w := by
  have value : fromLe (toLe 4 w.toNat) = w.toNat % 2 ^ 32 := fromLe_toLe 4 w.toNat
  rw [word32, ← toLe_four, value, Nat.mod_eq_of_lt w.isLt, BitVec.ofNat_toNat, BitVec.setWidth_eq]

theorem halfBytes_eq (h : Half) : halfBytes h = [byte h.toNat, byte (h.toNat / 256)] := rfl

theorem flatMap_halfBytes_length (points : List Half) : (points.flatMap halfBytes).length = 2 * points.length := by
  induction points with
  | nil => rfl
  | cons h rest ih =>
    rw [List.flatMap_cons, List.length_append, ih, halfBytes, toLe_length, List.length_cons]
    omega

/-- A run of tone points is read back from its bytes (R109). -/
theorem pointsOf_halfBytes (points : List Half) : pointsOf (points.flatMap halfBytes) = some points := by
  induction points with
  | nil => rfl
  | cons h rest ih =>
    rw [List.flatMap_cons, halfBytes_eq, List.cons_append, List.cons_append, List.nil_append, pointsOf, ih, half_bytes]
    rfl

theorem wellFormed_writeTonePoints_iff {channel first : Byte} {points : List Half} :
    (Command.writeTonePoints channel first points).wellFormed = true ↔
      1 ≤ points.length ∧ points.length ≤ 12 := by
  simp [Command.wellFormed]

theorem readToneRequest_payload (channel first : Byte) {points : List Half}
    (bounds : 1 ≤ points.length ∧ points.length ≤ 12) :
    readToneRequest (channel :: first :: points.flatMap halfBytes)
      = .command (.writeTonePoints channel first points) := by
  rw [readToneRequest, pointsOf_halfBytes]
  exact if_pos bounds

/-- A well-formed command's code and payload spell the command: a run of tone points by its own reader, and every other
payload by its bytes one by one (R163). -/
theorem readPayload_payload {c : Command} (wf : c.wellFormed = true) :
    readPayload c.code.toNat c.payload = .command c := by
  cases c with
  | writeTonePoints channel first points =>
    exact readToneRequest_payload channel first (wellFormed_writeTonePoints_iff.mp wf)
  | writeProfile r =>
    simp [Command.code, Command.payload, readPayload, readProfileRequest, halfBytes_eq, half_bytes, toLe_four,
      word32_bytes]
  | writeRegion r => simp [Command.code, Command.payload, readPayload, readRegionRequest, halfBytes_eq, half_bytes]
  | _ => simp [Command.code, Command.payload, readPayload, noPayload, halfBytes_eq, half_bytes]

theorem payload_length_writeTonePoints (channel first : Byte) (points : List Half) :
    (Command.writeTonePoints channel first points).payload.length = 2 + 2 * points.length := by
  rw [Command.payload, List.length_cons, List.length_cons, flatMap_halfBytes_length]
  omega

/-- The payload of a well-formed command fits a packet (R162). -/
theorem payload_length_le {c : Command} (wf : c.wellFormed = true) : c.payload.length ≤ 27 := by
  cases c with
  | writeTonePoints channel first points =>
    have bounds := wellFormed_writeTonePoints_iff.mp wf
    rw [payload_length_writeTonePoints]
    omega
  | _ => exact Nat.le_of_ble_eq_true rfl

/-! ### A command's packet (R154, R162) -/

/-- The header of a command's packet, its payload filled up with zeros, and its check byte. -/
theorem packet_eq (tag : Byte) (c : Command) : ∃ check : Byte, c.packet tag =
    [0xC1, tag, c.code, BitVec.ofNat 8 c.payload.length] ++ (padTo 27 c.payload ++ [check]) :=
  ⟨_, List.append_assoc _ _ _⟩

theorem packet_length (tag : Byte) (c : Command) : (c.packet tag).length = 32 := by
  obtain ⟨check, parts⟩ := packet_eq tag c
  rw [parts]
  simp

theorem packet_byteSum (tag : Byte) (c : Command) : byteSum (c.packet tag) = 0 := byteSum_withCheck _

/-- The first bytes of a payload stand after the header. -/
theorem packet_take (tag : Byte) (c : Command) {n : Nat} (within : n ≤ c.payload.length) (fits : n ≤ 27) :
    (c.packet tag).take (4 + n) = [0xC1, tag, c.code, BitVec.ofNat 8 c.payload.length] ++ c.payload.take n := by
  obtain ⟨check, parts⟩ := packet_eq tag c
  rw [parts]
  refine (List.take_length_add_append (l₁ := [0xC1, tag, c.code, BitVec.ofNat 8 c.payload.length]) n).trans
    (congrArg _ ?_)
  rw [padTo_eq, List.append_assoc, List.take_append_of_le_length (by simp; omega), List.take_take, min_eq_left fits]

/-- A command's packet is read back as the command with its tag (R154). -/
theorem readPacket_packet (tag : Byte) {c : Command} (wf : c.wellFormed = true) :
    readPacket (c.packet tag) = .dispatched tag c := by
  have fits := payload_length_le wf
  have whole := packet_length tag c
  have sum := packet_byteSum tag c
  have length : (BitVec.ofNat 8 c.payload.length).toNat = c.payload.length := by
    rw [BitVec.toNat_ofNat]
    exact Nat.mod_eq_of_lt (by omega)
  obtain ⟨check, parts⟩ := packet_eq tag c
  have body : (padTo 27 c.payload ++ [check]).take c.payload.length = c.payload := by
    rw [padTo_eq, List.take_of_length_le fits, List.append_assoc, List.take_left']
    rfl
  rw [parts] at whole sum ⊢
  simp only [List.cons_append, List.nil_append] at whole sum ⊢
  simp only [readPacket, whole, sum, length, body, readPayload_payload wf, ne_eq, not_true_eq_false, if_false,
    Nat.not_lt.mpr fits]

end Sys2Proof.Machine

namespace Sys2Proof.Machine

/-! ### Where a payload's fields lie (R163) -/

/-- A field of a layout lies inside its bytes. -/
theorem fieldAt_within {layout : List (Nat × Nat)} {start k n : Nat} (entry : fieldAt layout start = some (k, n)) :
    start + k ≤ (bytesOf layout).length := by
  induction layout generalizing start with
  | nil => cases entry
  | cons f rest ih =>
    rw [bytesOf_cons, List.length_append, toLe_length]
    unfold fieldAt at entry
    split at entry
    · next zero =>
      obtain rfl : f = (k, n) := Option.some.inj entry
      omega
    · split at entry
      · next past =>
        have := ih entry
        omega
      · cases entry

/-- The field k places on in a run of fields of one width. -/
theorem fieldAt_run {α : Type} (width : Nat) (positive : 0 < width) (value : α → Nat) (l : List α) {k : Nat}
    (hk : k < l.length) : fieldAt (l.map fun x => (width, value x)) (width * k) = some (width, value l[k]) := by
  induction l generalizing k with
  | nil => cases hk
  | cons x rest ih =>
    rw [List.map_cons, fieldAt]
    cases k with
    | zero => exact if_pos (Nat.mul_zero width)
    | succ k =>
      have past : width ≤ width * (k + 1) := Nat.le_mul_of_pos_right width k.succ_pos
      rw [if_neg (by omega), if_pos past, Nat.mul_succ, Nat.add_sub_cancel]
      exact ih (Nat.lt_of_succ_lt_succ hk)

section
variable (tag : Byte) {c : Command}

/-- What a payload begins with stands after the header. -/
theorem packet_header {first : List Byte} (begins : c.payload.take first.length = first) (fits : first.length ≤ 27) :
    (c.packet tag).take (4 + first.length) = [0xC1, tag, c.code, BitVec.ofNat 8 c.payload.length] ++ first := by
  have within : first.length ≤ c.payload.length := by
    rw [← begins, List.length_take]
    exact min_le_right _ _
  rw [packet_take tag c within fits, begins]

/-- A field of a payload lies four bytes on in the packet, as far as the packet reaches. -/
theorem field_packet {start k : Nat} (within : start + k ≤ c.payload.length) (fits : start + k ≤ 27) :
    field (c.packet tag) (start + 4) k = field c.payload start k := by
  obtain ⟨check, parts⟩ := packet_eq tag c
  have cut : start + k ≤ (c.payload.take 27).length := by
    rw [List.length_take]
    omega
  rw [parts, Nat.add_comm start 4]
  calc
    _ = field (padTo 27 c.payload ++ [check]) start k :=
      field_append_right [0xC1, tag, c.code, BitVec.ofNat 8 c.payload.length] _ start k
    _ = field (c.payload.take 27) start k := by
      rw [padTo_eq, List.append_assoc, field_append_left cut]
    _ = field (c.payload.take 27 ++ c.payload.drop 27) start k := (field_append_left cut).symm
    _ = field c.payload start k := by rw [List.take_append_drop]

/-- A field of a payload's layout is read back from the packet. -/
theorem field_packet_of_layout {layout : List (Nat × Nat)} {start k n : Nat} (payload : c.payload = bytesOf layout)
    (entry : fieldAt layout start = some (k, n)) (fits : start + k ≤ 27) (value : n < 256 ^ k) :
    field (c.packet tag) (start + 4) k = n := by
  have within := fieldAt_within entry
  rw [← payload] at within
  rw [field_packet tag within fits, payload]
  exact field_bytesOf entry value

end

/-! The payloads with fields of more than one byte, as layouts. -/

theorem writeProfile_payload (r : ProfileRequest) : (Command.writeProfile r).payload = bytesOf
    [(1, r.index.toNat), (2, r.width.toNat), (2, r.lines.toNat), (2, r.lineTime.toNat), (1, r.minBlank.toNat),
      (2, r.pmin.toNat), (2, r.pmax.toNat), (1, r.weight.toNat), (4, r.stallLimit.toNat), (1, r.maxMultiplier.toNat),
      (2, r.lagThreshold.toNat), (2, r.freeRun.toNat), (1, r.lossAction.toNat)] := by
  simp [Command.payload, halfBytes]

theorem writeRegion_payload (r : RegionRequest) : (Command.writeRegion r).payload = bytesOf
    [(1, r.index.toNat), (1, r.level.toNat), (2, r.sourceX.toNat), (2, r.sourceY.toNat), (2, r.width.toNat),
      (2, r.height.toNat), (2, r.destX.toNat), (2, r.destY.toNat), (1, r.zoom.toNat), (1, r.globalAlpha.toNat),
      (1, r.alphaMode.toNat)] := by
  simp [Command.payload, halfBytes]

theorem writeTonePoints_payload (channel first : Byte) (points : List Half) :
    (Command.writeTonePoints channel first points).payload =
      bytesOf ((1, channel.toNat) :: (1, first.toNat) :: points.map fun p => (2, p.toNat)) := by
  rw [bytesOf_cons, bytesOf_cons, toLe_one, toLe_one, byte_toNat, byte_toNat, bytesOf, List.flatMap_map]
  rfl

theorem setFill_payload (red green blue : Half) : (Command.setFill red green blue).payload =
    bytesOf [(2, red.toNat), (2, green.toNat), (2, blue.toNat)] := rfl

theorem halfBytes_bytesOf (h : Half) : halfBytes h = bytesOf [(2, h.toNat)] := rfl

theorem statsConfig_payload (r : StatsRequest) : (Command.statsConfig r).payload = bytesOf
    [(1, r.first.toNat), (1, r.last.toNat), (1, r.mode.toNat), (1, r.trigger.toNat), (2, r.threshold.toNat)] := by
  simp [Command.payload, halfBytes]

theorem fuseProgram_payload (word : Byte) (value : Half) : (Command.fuseProgram word value).payload =
    bytesOf [(1, word.toNat), (2, value.toNat)] := by
  simp [Command.payload, halfBytes]

/-- Each point of a run lies two bytes after the one before it (R109). -/
theorem field_packet_tonePoint (tag channel first : Byte) (points : List Half) {k : Nat} (hk : k < points.length)
    (fits : k < 12) :
    field ((Command.writeTonePoints channel first points).packet tag) (6 + 2 * k) 2 = points[k].toNat := by
  have place : 6 + 2 * k = (2 * k + 1 + 1) + 4 := by omega
  have entry := fieldAt_run 2 (by decide) BitVec.toNat points hk
  rw [place]
  refine field_packet_of_layout tag (writeTonePoints_payload channel first points) ?_ (by omega) points[k].isLt
  simpa [fieldAt] using entry

/-- Settles O2: a packet is read back through its code and payload, and a field lies where the payload's layout has
it. -/
theorem packetRoundTrip : Obligations.PacketRoundTrip := by
  refine ⟨fun tag c wf => ⟨packet_length tag c, packet_byteSum tag c, readPacket_packet tag wf⟩, fun tag c => ?_⟩
  cases c with
  | writeProfile r =>
    refine ⟨packet_header tag rfl (by simp), ?_, ?_, ?_, ?_, ?_, ?_, ?_, ?_, ?_, ?_, ?_, ?_⟩
    all_goals exact field_packet_of_layout tag (writeProfile_payload r) rfl (by decide) (BitVec.isLt _)
  | writeTonePoints channel first points =>
    refine ⟨?_, fun k hk fits => field_packet_tonePoint tag channel first points hk fits⟩
    rw [← payload_length_writeTonePoints channel first points]
    exact packet_header tag (first := [channel, first]) rfl (by simp)
  | writeRegion r =>
    refine ⟨packet_header tag rfl (by simp), ?_, ?_, ?_, ?_, ?_, ?_, ?_, ?_, ?_⟩
    all_goals exact field_packet_of_layout tag (writeRegion_payload r) rfl (by decide) (BitVec.isLt _)
  | setFill red green blue =>
    refine ⟨packet_header tag rfl (by simp), ?_, ?_, ?_⟩
    all_goals exact field_packet_of_layout tag (setFill_payload red green blue) rfl (by decide) (BitVec.isLt _)
  | statsConfig r =>
    refine ⟨packet_header tag rfl (by simp), ?_⟩
    exact field_packet_of_layout tag (statsConfig_payload r) rfl (by decide) (BitVec.isLt _)
  | fuseProgram word value =>
    refine ⟨packet_header tag rfl (by simp), ?_⟩
    exact field_packet_of_layout tag (fuseProgram_payload word value) rfl (by decide) (BitVec.isLt _)
  | commit field | fetchRecord field | clearEvents field =>
    refine ⟨packet_header tag rfl (by simp), ?_⟩
    exact field_packet_of_layout tag (halfBytes_bytesOf field) rfl (by decide) (BitVec.isLt _)
  | _ => exact packet_header tag rfl (by simp)

end Sys2Proof.Machine

namespace Sys2Proof.Machine

/-! ### What a slot's bytes decide (R154, R163) -/

section
variable {code : Nat} {payload : List Byte}

theorem noPayload_wrongLength (c : Command) (wrong : payload.length ∉ [0]) : noPayload c payload = .wrongLength := by
  cases payload with
  | nil => exact absurd (List.mem_singleton_self 0) wrong
  | cons => rfl

theorem readProfileRequest_wrongLength (wrong : payload.length ∉ [23]) :
    readProfileRequest payload = .wrongLength := by
  unfold readProfileRequest
  split
  · exact absurd (List.mem_singleton_self _) wrong
  · rfl

theorem readRegionRequest_wrongLength (wrong : payload.length ∉ [17]) :
    readRegionRequest payload = .wrongLength := by
  unfold readRegionRequest
  split
  · exact absurd (List.mem_singleton_self _) wrong
  · rfl

/-- A run of points is read from two bytes for each point (R109). -/
theorem pointsOf_length {bytes : List Byte} {points : List Half} (read : pointsOf bytes = some points) :
    bytes.length = 2 * points.length := by
  induction bytes using pointsOf.induct generalizing points with
  | case1 => cases read; rfl
  | case2 => cases read
  | case3 lo hi rest ih =>
    obtain ⟨more, read_rest, rfl⟩ := Option.map_eq_some_iff.mp read
    have := ih read_rest
    simp only [List.length_cons]
    omega

theorem readToneRequest_wrongLength (wrong : payload.length ∉ [4, 6, 8, 10, 12, 14, 16, 18, 20, 22, 24, 26]) :
    readToneRequest payload = .wrongLength := by
  unfold readToneRequest
  split
  · split
    · next points read =>
      have length := pointsOf_length read
      simp only [List.length_cons, List.mem_cons, List.not_mem_nil, or_false, not_or] at wrong
      exact if_neg (by omega)
    · rfl
  · rfl

/-- A code that names no command reads as none, whatever the payload (R154 step 4). -/
theorem readPayload_noCommand (unknown : acceptedLengths code = none) (payload : List Byte) :
    readPayload code payload = .noCommand := by
  unfold readPayload
  split
  case h_28 => rfl
  all_goals cases unknown

/-- A payload of a length its command does not accept reads as a wrong length (R154 step 5). -/
theorem readPayload_wrongLength {lengths : List Nat} (accepted : acceptedLengths code = some lengths)
    (wrong : payload.length ∉ lengths) : readPayload code payload = .wrongLength := by
  unfold readPayload
  split
  case h_28 => exact absurd accepted (by simp_all [acceptedLengths])
  all_goals cases accepted
  case h_1 | h_2 | h_3 | h_4 | h_7 | h_15 | h_17 | h_18 | h_24 | h_27 => exact noPayload_wrongLength _ wrong
  case h_5 => exact readProfileRequest_wrongLength wrong
  case h_8 => exact readToneRequest_wrongLength wrong
  case h_10 => exact readRegionRequest_wrongLength wrong
  all_goals
    split
    · exact absurd (List.mem_singleton_self _) wrong
    · rfl

end

end Sys2Proof.Machine

namespace Sys2Proof.Machine

/-! ### A slot's packet read and decided (R153, R154) -/

/-- No command accepts a payload longer than 26 bytes (R163). -/
theorem acceptedLengths_le {code : Nat} {lengths : List Nat} (accepted : acceptedLengths code = some lengths) :
    ∀ n ∈ lengths, n ≤ 26 := by
  unfold acceptedLengths at accepted
  repeat' split at accepted
  all_goals cases accepted <;> decide

section
variable {bytes : List Byte} {tag code len : Byte}

theorem exists_header_of_whole (whole : bytes.length = 32) :
    ∃ kind tag code len body, bytes = kind :: tag :: code :: len :: body := by
  match bytes with
  | kind :: tag :: code :: len :: body => exact ⟨kind, tag, code, len, body, rfl⟩
  | [] | [_] | [_, _] | [_, _, _] => cases whole

/-- A slot that is no control packet is ignored (R154 step 1). -/
theorem readPacket_ignored (whole : bytes.length = 32) (other : bytes.head? ≠ some 0xC1) :
    readPacket bytes = .ignored := by
  obtain ⟨kind, tag, code, len, body, rfl⟩ := exists_header_of_whole whole
  have unlike : kind ≠ 0xC1 := fun same => other (congrArg some same)
  simp only [readPacket, whole, unlike, ne_eq, not_true_eq_false, not_false_eq_true, if_true, if_false]

/-- A control packet whose bytes do not sum to 0 fails its check (R154 step 2). -/
theorem readPacket_badCheck (whole : bytes.length = 32) (control : bytes.head? = some 0xC1)
    (sum : byteSum bytes ≠ 0) : readPacket bytes = .badCheck := by
  obtain ⟨kind, tag, code, len, body, rfl⟩ := exists_header_of_whole whole
  obtain rfl : kind = 0xC1 := Option.some.inj control
  simp only [readPacket, whole, sum, ne_eq, not_true_eq_false, not_false_eq_true, if_true, if_false]

/-- How a whole control packet is read, by what its code and the payload its length gives spell (R154 steps 4 and 5). -/
theorem readPacket_of_packet (packet : isControlPacket bytes tag code len) :
    ∃ payload : List Byte, payload.length = min len.toNat 28
      ∧ (readPayload code.toNat payload = .noCommand → readPacket bytes = .badCommand tag code)
      ∧ (readPayload code.toNat payload = .wrongLength → readPacket bytes = .badLength tag code)
      ∧ ∀ c, readPayload code.toNat payload = .command c →
          readPacket bytes = if 27 < len.toNat then .badLength tag code else .dispatched tag c := by
  obtain ⟨whole, header, sum⟩ := packet
  have parts : bytes = 0xC1 :: tag :: code :: len :: bytes.drop 4 :=
    (List.take_append_drop 4 bytes).symm.trans (congrArg (· ++ bytes.drop 4) header)
  refine ⟨(bytes.drop 4).take len.toNat, by simp [whole], ?_⟩
  generalize bytes.drop 4 = body at parts
  subst parts
  refine ⟨fun read => ?_, fun read => ?_, fun c read => ?_⟩ <;>
    simp only [readPacket, whole, sum, read, ne_eq, not_true_eq_false, if_false]

theorem readPacket_badCommand (packet : isControlPacket bytes tag code len)
    (unknown : acceptedLengths code.toNat = none) : readPacket bytes = .badCommand tag code := by
  obtain ⟨payload, -, noCommand, -⟩ := readPacket_of_packet packet
  exact noCommand (readPayload_noCommand unknown payload)

theorem readPacket_wrongLength (packet : isControlPacket bytes tag code len) {lengths : List Nat}
    (accepted : acceptedLengths code.toNat = some lengths) (wrong : len.toNat ∉ lengths) :
    readPacket bytes = .badLength tag code := by
  obtain ⟨payload, length, -, wrongLength, -⟩ := readPacket_of_packet packet
  refine wrongLength (readPayload_wrongLength accepted fun mem => ?_)
  have short := acceptedLengths_le accepted _ mem
  have same : payload.length = len.toNat := by omega
  exact wrong (same ▸ mem)

/-- Whatever a whole control packet carries, it needs a reply place (R154 step 3). -/
theorem decidePacket_of_packet (packet : isControlPacket bytes tag code len) :
    ∃ act : State → State, ∀ t : State, t.decidePacket (readPacket bytes) = t.withPlace act := by
  obtain ⟨payload, -, noCommand, wrongLength, command⟩ := readPacket_of_packet packet
  cases read : readPayload code.toNat payload with
  | noCommand => exact ⟨_, fun t => congrArg t.decidePacket (noCommand read)⟩
  | wrongLength => exact ⟨_, fun t => congrArg t.decidePacket (wrongLength read)⟩
  | command c =>
    by_cases long : 27 < len.toNat
    · exact ⟨_, fun t => congrArg t.decidePacket ((command c read).trans (if_pos long))⟩
    · exact ⟨_, fun t => congrArg t.decidePacket ((command c read).trans (if_neg long))⟩

end

/-- Settles O4: the places by what the fuses and a SOFT_RESET owe, and a slot that is taken by how its bytes read. -/
theorem packetDecided : Obligations.PacketDecided := by
  refine ⟨fun s => ?_, fun dt bytes s taken whole => ⟨fun other => ?_, fun control sum => ?_, fun tag code len packet =>
    ⟨fun full => ?_, fun room unknown => ?_, fun room lengths accepted wrong => ?_⟩⟩⟩
  · exact (s.placesInUse_eq).trans (Nat.add_assoc _ _ _).symm
  all_goals refine (execControlPacket_of taken dt bytes).trans (congrArg _ ?_)
  · rw [readPacket_ignored whole other]
    rfl
  · rw [readPacket_badCheck whole control sum]
    rfl
  · obtain ⟨act, decided⟩ := decidePacket_of_packet packet
    rw [decided]
    exact withPlace_full (Nat.not_lt.mpr full) dt act
  · rw [readPacket_badCommand packet unknown]
    exact withPlace_of room dt _
  · rw [readPacket_wrongLength packet accepted wrong]
    exact withPlace_of room dt _

end Sys2Proof.Machine

namespace Sys2Proof.Machine

/-! ### A command's row and its packet (R153 to R155, R176) -/

section
variable {s : State} {dt : Nat} {tag : Byte} {c : Command}

theorem State.fprogLevel_same (s : State) : s.fprogLevel s.pins.fprog = s := by
  unfold State.fprogLevel
  cases level : s.pins.fprog with
  | true => exact congrArg (State.setFprog · s) level.symm
  | false =>
    rw [Bool.not_false, Bool.or_true, if_pos rfl]
    exact congrArg (State.setFprog · s) level.symm

/-- A command's row, with the FPROG line as it stands, is a slot with the command's effect (R155). -/
theorem exec_toInstr : exec (c.toInstr dt tag s.pins.fprog) s = commandSlot dt (commandEffect tag c) s := by
  cases c with
  | fuseProgram word value => exact congrArg (commandSlot dt (fuseProgramEffect tag word value)) s.fprogLevel_same
  | fuseLock => exact congrArg (commandSlot dt (fuseLockEffect tag)) s.fprogLevel_same
  | _ => rfl

/-- A command's packet is a slot with the command's effect (R154). -/
theorem execControlPacket_packet (wf : c.wellFormed = true) :
    execControlPacket dt (c.packet tag) s = commandSlot dt (commandEffect tag c) s := by
  unfold execControlPacket
  rw [readPacket_packet tag wf]
  rfl

/-- A slot that is not taken, or finds no reply place (R153, R154 step 3, R176). -/
theorem commandSlot_of_not_taken (untaken : ¬ s.takesCommand) (effect : State → State) : commandSlot dt effect s =
    .next (if s.pins.reset then s
      else if s.dctl.isLoading = true ∨ s.ocap.link = .down ∨ s.ocap.phase ≠ .blanking then s.after dt
      else (s.after dt).raise .controlPacketBad) := by
  refine congrArg Host.Outcome.next ?_
  by_cases held : s.pins.reset = true
  · rw [if_pos held]
    exact arrival_held held dt _
  rw [if_neg held]
  have released : s.pins.reset = false := by simpa using held
  by_cases loading : s.dctl.isLoading = true
  · rw [if_pos (.inl loading)]
    exact arrivalOutsideLoading_in_loading released loading dt _
  have up : s.awake := ⟨released, by simpa using loading⟩
  rw [arrivalOutsideLoading_of up]
  by_cases closed : s.ocap.link = .down ∨ s.ocap.phase ≠ .blanking
  · have missed : (s.after dt).slotTaken = false := by
      rcases closed with down | other <;> simp [State.slotTaken, *]
    rw [missed, if_pos (Or.inr closed)]
    rfl
  · obtain ⟨link, blanking⟩ := not_or.mp closed
    have locked : s.ocap.link = .locked := by
      cases state : s.ocap.link with
      | down => exact absurd state link
      | locked => rfl
    have slot : s.takesSlots := ⟨⟨up, locked⟩, not_not.mp blanking⟩
    rw [if_neg (not_or.mpr ⟨loading, closed⟩), if_pos (slotTaken_of slot dt)]
    exact withPlace_full (fun room => untaken ⟨slot, room⟩) dt effect

end

/-- Settles O3: both are a slot with the command's effect. -/
theorem packetIsItsRow : Obligations.PacketIsItsRow :=
  fun _ _ _ _ wf => (execControlPacket_packet wf).trans exec_toInstr.symm

/-- Settles O5: the row is a slot, and the slot is not taken. -/
theorem commandsNotTaken : Obligations.CommandsNotTaken :=
  fun _ _ _ _ untaken => exec_toInstr.trans (commandSlot_of_not_taken untaken _)

end Sys2Proof.Machine

namespace Sys2Proof.Machine

/-! ### FUSE_PROGRAM and FUSE_LOCK (R174, R175) -/

section
variable (s : State) (tag : Byte)

theorem Engine.isIdle_eq_false_iff (e : Engine) : e.isIdle = false ↔ e ≠ .idle := by
  rw [← Bool.not_eq_true, e.isIdle_iff]

/-- FUSE_PROGRAM, with the word it begins on (R174). -/
theorem fuseProgramEffect_eq (word : Byte) (value : Half) : fuseProgramEffect tag word value s =
    if h : word.toNat ≤ 6 then
      if s.lfb.engine ≠ .idle then s.addReply tag 0x71 .fuseBusy []
      else if s.lfb.locked then s.addReply tag 0x71 .fuseLocked []
      else if s.pins.fprog = false then s.addReply tag 0x71 .fuseDisabled []
      else s.setLfb { s.lfb with
        engine := .programming tag ⟨word.toNat, by omega⟩ value (s.clock + 1500000) }
    else s.addReply tag 0x71 .badValue [] := by
  unfold fuseProgramEffect
  simp only [Bool.not_eq_true', Engine.isIdle_eq_false_iff]
  by_cases named : word.toNat ≤ 6
  · have place : wordIndex word = ⟨word.toNat, by omega⟩ := Fin.ext (wordIndex_of_le (by omega))
    rw [dif_pos named, if_neg (by omega), place]
    rfl
  · rw [dif_neg named, if_pos (by omega)]

/-- The lock check fails for a word of W0 to W6 that is 0 or a ceiling below the floor (R175). -/
theorem lockable_eq_false_iff (w : Vector Half 8) :
    lockable w = false ↔ (∃ k : Fin 7, w[k.val] = 0) ∨ w[1].toNat < w[0].toNat := by
  have zero_word : (∃ k : Fin 7, w[k.val] = 0) ↔
      w[0] = 0 ∨ w[1] = 0 ∨ w[2] = 0 ∨ w[3] = 0 ∨ w[4] = 0 ∨ w[5] = 0 ∨ w[6] = 0 := by
    simp [Fin.exists_fin_succ]
  rw [zero_word]
  simp only [lockable, Bool.and_eq_false_iff, bne_eq_false_iff_eq, decide_eq_false_iff_not, Nat.not_le, or_assoc]

/-- FUSE_LOCK, with its checks in the rules' words (R175). -/
theorem fuseLockEffect_eq : fuseLockEffect tag s =
    if s.dctl ≠ .standby then s.addReply tag 0x72 .wrongState []
    else if s.lfb.engine ≠ .idle then s.addReply tag 0x72 .fuseBusy []
    else if s.lfb.locked then s.addReply tag 0x72 .fuseLocked []
    else if s.pins.fprog = false then s.addReply tag 0x72 .fuseDisabled []
    else if (∃ k : Fin 7, s.lfb.words[k.val] = 0) ∨ s.lfb.words[1].toNat < s.lfb.words[0].toNat then
      s.addReply tag 0x72 .badLimits []
    else s.setLfb { s.lfb with engine := .locking tag (s.clock + 1500000) } := by
  unfold fuseLockEffect
  simp only [Bool.not_eq_true', Engine.isIdle_eq_false_iff, lockable_eq_false_iff]
  rfl

end

/-! ### The FPROG line that comes with a command (R174, R175, log 4) -/

section
variable {s : State} {dt : Nat}

/-- The line comes high, stays low, or falls with no operation in flight: only its level changes. -/
theorem State.fprogLevel_of_quiet {level : Bool}
    (quiet : ¬ (s.pins.fprog = true ∧ level = false ∧ s.lfb.engine ≠ .idle)) :
    s.fprogLevel level = s.setFprog level := by
  unfold State.fprogLevel
  split
  · rfl
  · next falls =>
    obtain ⟨⟨low, -⟩, high⟩ : (level = false ∧ s.pins.reset = false) ∧ s.pins.fprog = true := by simpa using falls
    have idle : s.lfb.engine = .idle := not_not.mp fun busy => quiet ⟨high, low, busy⟩
    exact State.fprogFalls_of_idle idle

/-- The line falls: any operation in flight is interrupted. -/
theorem State.fprogLevel_of_fall (released : s.pins.reset = false) (high : s.pins.fprog = true) :
    s.fprogLevel false = (s.setFprog false).fprogFalls := by
  simp [State.fprogLevel, released, high]

/-- Nothing of a fall depends on the time. -/
theorem State.fprogFalls_after (s : State) (dt : Nat) : (s.after dt).fprogFalls = s.fprogFalls.after dt := by
  cases engine : s.lfb.engine with
  | idle => rw [State.fprogFalls_of_idle engine, State.fprogFalls_of_idle (s := s.after dt) engine]
  | programming tag word value due =>
    rw [State.fprogFalls_of_programming engine, State.fprogFalls_of_programming (s := s.after dt) engine]
    rfl
  | locking tag due =>
    rw [State.fprogFalls_of_locking engine, State.fprogFalls_of_locking (s := s.after dt) engine]
    rfl

/-- A slot `dt` later is a slot at once on the state `dt` later. -/
theorem commandSlot_after (released : s.pins.reset = false) (effect : State → State) :
    commandSlot dt effect s = commandSlot 0 effect (s.after dt) := by
  unfold commandSlot arrivalOutsideLoading
  rw [arrival_of released, arrival_of (s := s.after dt) released, State.after_zero]

/-- A command that brings the line's fall is the fall and then the command at once, with the line low. -/
theorem commandSlot_of_fall (released : s.pins.reset = false) (high : s.pins.fprog = true) (effect : State → State) :
    commandSlot dt effect (s.fprogLevel false)
      = commandSlot 0 effect (((s.setFprog false).fprogFalls.after dt).fprogLevel false) := by
  have pins : (s.setFprog false).fprogFalls.pins = { s.pins with fprog := false } := by simp [State.setFprog]
  have stays := ((s.setFprog false).fprogFalls.after dt).fprogLevel_same
  rw [State.after_pins, pins] at stays
  rw [State.fprogLevel_of_fall released high, stays]
  exact commandSlot_after (by rw [pins]; exact released) effect

end

/-- Settles O26: with no operation to interrupt the command is decided with the new level; a fall that comes with it
leaves what FPROG_FALL at that instant leaves. -/
theorem fuseCommands : Obligations.FuseCommands := by
  refine ⟨fun dt tag fprog s taken quiet => ?_, fun dt tag s released high => ?_⟩
  · have row (effect : State → State) : commandSlot dt effect (s.fprogLevel fprog)
        = .next (effect ((s.setFprog fprog).after dt)) := by
      rw [State.fprogLevel_of_quiet quiet]
      exact commandSlot_of (s := s.setFprog fprog) taken dt effect
    exact ⟨fun word value => (row _).trans (congrArg _ (fuseProgramEffect_eq _ tag word value)),
      (row _).trans (congrArg _ (fuseLockEffect_eq _ tag))⟩
  · refine ⟨(s.setFprog false).fprogFalls.after dt, ?_, fun word value => ?_, ?_⟩
    · exact congrArg _ ((arrival_of (s := s.setFprog false) released dt _).trans (State.fprogFalls_after _ dt))
    · exact commandSlot_of_fall released high _
    · exact commandSlot_of_fall released high _

end Sys2Proof.Machine

namespace Sys2Proof.Machine

/-! ### What a step does to the pending sources (R168, R169, R171, R172, R176, R177)

Only CLEAR_EVENTS and a reset put a pending flag out. A raise sets one; a notice and the event commands that configure
leave them all; every other operation leaves EVU as it is or raises. -/

theorem EventSource.number_surjective : Function.Surjective EventSource.number :=
  fun i => ⟨EventSource.ofNat i.val, by revert i; decide⟩

/-- Sources whose pending flags stay as they are stay pending. -/
theorem Evu.keptIn_of_pending_eq {v w : Evu} (same : ∀ i : Fin 14, w.sources[i].pending = v.sources[i].pending) :
    v.KeptIn w := fun e pending => (same e.number).trans pending

/-- A notice notes its sources; they stay pending (R169). -/
theorem Evu.keptIn_markNoticed (v : Evu) : v.KeptIn v.markNoticed := by
  refine keptIn_of_pending_eq fun i => ?_
  rw [v.markNoticed_source i]
  split <;> rfl

/-- A clear puts out both flags of the sources its set names, and leaves the others (R172). -/
theorem Evu.clear_source (v : Evu) (set : Half) (i : Fin 14) : (v.clear set).sources[i] =
    if set.getLsbD i then { v.sources[i] with pending := false, noticed := false } else v.sources[i] := by
  simp [Evu.clear]

/-- Every event source pending in `s` is pending in `t`. -/
def State.KeepsPending (s t : State) : Prop := s.evu.KeptIn t.evu

namespace State.KeepsPending

section
variable {s t u : State}

theorem refl (s : State) : KeepsPending s s := Evu.KeptIn.refl _

theorem trans (h : KeepsPending s t) (h' : KeepsPending t u) : KeepsPending s u := Evu.KeptIn.trans h h'

theorem of_evu (same : t.evu = s.evu) : KeepsPending s t := fun _ pending => same ▸ pending

theorem after_evu (h : KeepsPending u t) (same : u.evu = s.evu) : KeepsPending s t := (of_evu same).trans h

theorem then_evu (h : KeepsPending s t) (same : u.evu = t.evu) : KeepsPending s u := h.trans (of_evu same)

theorem raise (h : KeepsPending s t) (e : EventSource) : KeepsPending s (t.raise e) := h.trans (keptIn_raise t e)

theorem answered (h : KeepsPending s t) (tag code : Byte) (status : Status) (payload : List Byte) :
    KeepsPending s (t.addReply tag code status payload) := h.then_evu (by simp)

theorem served (h : KeepsPending s t) : KeepsPending s t.serve := h.then_evu (by simp)

end

variable (s : State)

/-! Scan starts and timers. -/

theorem startScan (r : StartReason) : KeepsPending s (s.startScan r) := keptIn_startScan s r

theorem takeActive : KeepsPending s s.takeActive := keptIn_takeActive s

theorem cadenceLfs (frame time : Word) : KeepsPending s (s.cadenceLfs frame time) := keptIn_cadenceLfs s frame time

theorem minExpires : KeepsPending s s.minExpires := by
  unfold State.minExpires
  split
  · exact after_evu (takeActive _) rfl
  · exact refl s

theorem deadlineExpires : KeepsPending s s.deadlineExpires := by
  unfold State.deadlineExpires
  split
  · exact after_evu (takeActive _) rfl
  · exact refl s

theorem freeRunExpires : KeepsPending s s.freeRunExpires := by
  unfold State.freeRunExpires
  split
  · exact after_evu (takeActive _) rfl
  · exact refl s

theorem repeatDue (point : Word) (remaining : Nat) : KeepsPending s (s.repeatDue point remaining) := by
  unfold State.repeatDue
  split
  · exact after_evu (startScan _ _) rfl
  · split
    · exact of_evu (by simp)
    · exact of_evu rfl
  · exact of_evu rfl
  · exact of_evu rfl

theorem planTimerExpires : KeepsPending s s.planTimerExpires := by
  unfold State.planTimerExpires
  split
  · split
    · exact after_evu (repeatDue _ _ _) rfl
    · exact refl s
  · exact refl s

/-! Commits, scan ends and OFF. -/

theorem takeCommit (marker : Half) : KeepsPending s (s.takeCommit marker) := ((refl s).then_evu rfl).raise _

theorem commitWithoutScan (marker : Half) : KeepsPending s (s.commitWithoutScan marker) := by
  unfold State.commitWithoutScan
  split
  · exact (takeCommit s marker).then_evu (by simp)
  · exact takeCommit s marker

theorem commitAtOff : KeepsPending s s.commitAtOff := by
  unfold State.commitAtOff
  split
  · exact commitWithoutScan s _
  · exact refl s

theorem reachOff : KeepsPending s s.reachOff := ((commitAtOff _).after_evu (by simp)).then_evu rfl

theorem afterScanEnd : KeepsPending s s.afterScanEnd := by
  unfold State.afterScanEnd
  split
  · exact reachOff s
  · exact after_evu (takeActive _) rfl

/-- A measured scan's end raises STATS_READY, and STATS_OVERRUN over a set still held (R140, R144). -/
theorem statsScanEnd (cut : Bool) (sequence : Half) : KeepsPending s (s.statsScanEnd cut sequence) := by
  have ready : KeepsPending s ((s.setZsu (s.zsu.complete sequence)).raise .statsReady) := keptIn_raise (s.setZsu _) _
  unfold State.statsScanEnd
  split
  · split
    · exact of_evu rfl
    · dsimp only
      split
      · exact ready.raise _
      · exact ready
  · exact refl s
  · exact refl s

theorem scanEnds (cut : Bool) (sc : Scan) : KeepsPending s (s.engineScanEnd cut sc).afterScanEnd := by
  have posted := (statsScanEnd ((s.setFrl (s.frl.add sc.record)).setCapu (s.capu.releaseSource sc.scanSource)) cut
    sc.sequence).after_evu (s := s) rfl
  have ended : KeepsPending s (s.engineScanEnd cut sc) := posted.then_evu (by simp [State.engineScanEnd])
  exact ended.trans (afterScanEnd _)

/-- The first patched line of a scan raises LINES_PATCHED (R98). -/
theorem emitLine (sc : Scan) (made : Produced) (fromPipeline : Bool) :
    KeepsPending s (s.emitLine sc made fromPipeline) := by
  unfold State.emitLine
  dsimp only
  split
  · exact raise (of_evu (by simp)) _
  · exact of_evu (by simp)

theorem outputLine (sc : Scan) : KeepsPending s (s.outputLine sc) := by
  unfold State.outputLine
  split
  · exact emitLine s sc _ true
  · split
    · have patching : KeepsPending s s.switchToPatching.serve := of_evu (by simp)
      dsimp only
      split
      · exact patching.trans (emitLine _ _ _ false)
      · exact patching
    · exact emitLine s sc _ false

theorem outputTime : KeepsPending s s.outputTime := by
  unfold State.outputTime
  split
  · exact refl s
  · split
    · exact refl s
    · split
      · split
        · exact outputLine s _
        · exact scanEnds s false _
      · exact refl s

theorem forceStop : KeepsPending s s.forceStop := by
  unfold State.forceStop
  split
  · split
    · split
      · exact after_evu (scanEnds s.drawn false _) rfl
      · exact after_evu (scanEnds s.drawn true _) rfl
    · exact scanEnds s true _
  · exact refl s

/-! The live link and the live frame. -/

theorem malformed (frame : Word) (k : Nat) : KeepsPending s (s.malformed frame k) := by
  unfold KeepsPending
  rw [State.malformed_evu]
  exact s.evu.keptIn_raise _

theorem cutArriving : KeepsPending s s.cutArriving := by
  unfold State.cutArriving
  split
  · exact malformed s _ _
  · exact refl s
  · exact refl s

theorem followLiveLock : KeepsPending s s.followLiveLock := by
  have lock : KeepsPending s s.lockTaken := by
    have raised : KeepsPending s ((s.setLrx { s.lrx with link := .locked }).raise .liveLock) := raise (of_evu rfl) _
    exact raised.trans (after_evu (takeActive _) rfl)
  have loss : KeepsPending s s.lossTaken := by
    have cut : KeepsPending s (s.cutArriving.setLrx { s.cutArriving.lrx with link := .down, check := .closed }) :=
      then_evu (cutArriving s) rfl
    exact (cut.raise .liveLoss).trans (after_evu (takeActive _) rfl)
  unfold State.followLiveLock
  split
  · exact lock
  · exact loss
  · exact refl s
  · exact refl s

theorem cadenceInScan (frame : Word) : KeepsPending s (s.cadenceInScan frame) := by
  unfold State.cadenceInScan
  split
  · split
    · unfold State.lfsBeforeStart
      dsimp only
      split
      · exact raise (of_evu rfl) _
      · exact of_evu rfl
    · exact after_evu (cadenceLfs s.drawn _ _) rfl
  · exact cadenceLfs s _ _

theorem reportLfs (frame : Word) : KeepsPending s (s.reportLfs frame) := by
  unfold State.reportLfs
  split
  · exact startScan s _
  · exact (cadenceLfs s frame s.pacingTime).then_evu (by simp)
  · exact (cadenceInScan s frame).then_evu (by simp)
  · exact cadenceLfs s _ _

theorem takeLfs : KeepsPending s s.takeLfs := by
  have numbered : KeepsPending s s.cutArriving.numbered := (cutArriving s).then_evu (by simp [State.numbered])
  have reported := numbered.trans (reportLfs _ s.cutArriving.numbered.lrx.frameCounter)
  rw [State.takeLfs_eq]
  exact reported.then_evu (by simp)

theorem takeLineStart : KeepsPending s s.takeLineStart := by
  unfold State.takeLineStart
  split
  · exact refl s
  · unfold State.arrivingLineStart
    split
    · exact malformed s _ _
    · split
      · exact of_evu rfl
      · exact malformed s _ _
  · exact malformed s _ _

theorem captureLine (frame : Word) (line : Nat) (pixels : List GamePixel) :
    KeepsPending s (s.captureLine frame line pixels) := by
  unfold State.captureLine
  split
  · exact refl s
  · split
    · exact of_evu rfl
    · exact raise (of_evu (by simp)) _

theorem takeLineEnd (pixels : List GamePixel) : KeepsPending s (s.takeLineEnd pixels) := by
  unfold State.takeLineEnd
  split
  · exact refl s
  · exact refl s
  · next f _ =>
    split
    · split
      · exact (captureLine s f.frame f.linesSeen pixels).then_evu (by simp [State.handOn])
      · exact malformed s _ _
    · exact refl s

theorem takeBlanking : KeepsPending s s.takeBlanking := by
  unfold State.takeBlanking
  split
  · exact refl s
  · exact malformed s _ _
  · exact of_evu (by simp)

theorem lineOverdue : KeepsPending s s.lineOverdue := by
  unfold State.lineOverdue
  split
  · exact refl s
  · exact refl s
  · split
    · exact malformed s _ _
    · exact refl s

/-! The overlay link and the overlay frame. -/

theorem discardOverlay (begun : Bool) (phase : OverlayPhase) : KeepsPending s (s.discardOverlay begun phase) := by
  unfold State.discardOverlay
  cases begun
  · exact raise (of_evu rfl) _
  · exact raise (of_evu rfl) _

theorem followOverlayLock : KeepsPending s s.followOverlayLock := by
  have loss : KeepsPending s s.overlayLossTaken := by
    unfold State.overlayLossTaken
    cases s.ocap.phase with
    | closed => exact of_evu (by simp)
    | blanking => exact (discardOverlay s false .closed).then_evu (by simp)
    | arriving => exact (discardOverlay s true .closed).then_evu (by simp)
    | counted =>
      dsimp only
      split
      · exact (discardOverlay s true .closed).then_evu (by simp)
      · exact of_evu (by simp)
  unfold State.followOverlayLock
  split
  · exact of_evu rfl
  · exact loss
  · exact refl s
  · exact refl s

theorem overlayFrameStart : KeepsPending s s.overlayFrameStart := by
  unfold State.overlayFrameStart
  split
  · exact refl s
  · split
    · exact of_evu rfl
    · exact discardOverlay s _ _
    · exact discardOverlay s _ _
    · exact of_evu rfl

theorem openWindow : KeepsPending s s.openWindow := s.evu.keptIn_markNoticed

theorem overlayLineStart : KeepsPending s s.overlayLineStart := by
  unfold State.overlayLineStart
  split
  · exact refl s
  · split
    · exact refl s
    · exact after_evu (openWindow _) rfl
    · split
      · exact discardOverlay s _ _
      · exact of_evu rfl
    · exact discardOverlay s _ _

theorem overlayLineEnd (pixels : List OverlayPixel) : KeepsPending s (s.overlayLineEnd pixels) := by
  have passes : KeepsPending s (s.overlayLinePasses pixels) := by
    unfold State.overlayLinePasses
    split
    · exact after_evu (discardOverlay _ _ _) rfl
    · exact of_evu rfl
  unfold State.overlayLineEnd
  split
  · exact refl s
  · split
    · exact refl s
    · exact refl s
    · exact refl s
    · split
      · split
        · exact passes
        · exact discardOverlay s _ _
      · exact refl s

/-! The fuses and the end of LOADING. -/

theorem fuseProgramEnd : KeepsPending s s.fuseProgramEnd := by
  unfold State.fuseProgramEnd
  split
  · split
    · exact s.evu.keptIn_raise .fuseDone
    · exact refl s
  · exact refl s
  · exact refl s

theorem takeLockedLimits : KeepsPending s s.takeLockedLimits := by
  rw [s.takeLockedLimits_eq]
  unfold KeepsPending
  dsimp only
  split
  · exact Evu.KeptIn.refl _
  · exact Evu.keptIn_raise _ _

theorem fuseLockEnd : KeepsPending s s.fuseLockEnd := by
  unfold State.fuseLockEnd
  split
  · split
    · have limits : KeepsPending s
          (s.setLfb { s.lfb with words := s.lfb.words.set 7 0xFFFF, locked := true }).takeLockedLimits :=
        after_evu (takeLockedLimits _) rfl
      exact limits.trans (Evu.keptIn_raise _ .fuseDone)
    · exact refl s
  · exact refl s
  · exact refl s

theorem fprogFalls : KeepsPending s s.fprogFalls := by
  unfold State.fprogFalls
  split
  · exact s.evu.keptIn_raise .fuseDone
  · exact s.evu.keptIn_raise .fuseDone
  · exact refl s

theorem fprogLevel (level : Bool) : KeepsPending s (s.fprogLevel level) := by
  unfold State.fprogLevel
  split
  · exact of_evu rfl
  · exact after_evu (fprogFalls _) rfl

theorem overlayAtLoadingEnd (owed : Option Byte) : KeepsPending s (s.overlayAtLoadingEnd owed) := by
  unfold State.overlayAtLoadingEnd
  split
  · split
    · exact then_evu (after_evu (followOverlayLock s.drawn) rfl) (by simp)
    · exact after_evu (followOverlayLock _) (by simp)
  · exact after_evu (followOverlayLock _) (by simp)

theorem loadingEnds : KeepsPending s s.loadingEnds := by
  unfold State.loadingEnds
  split
  · next due owed _ =>
    split
    · have standby : KeepsPending s
          ((s.setPru { s.pru with limits := limitsAtLoading s.lfb.words }).setDctl .standby) := of_evu rfl
      exact ((standby.trans (overlayAtLoadingEnd _ owed)).trans (followLiveLock _)).served
    · exact refl s
  · exact refl s
  · exact refl s

/-! Commands. -/

theorem startEffect (tag : Byte) : KeepsPending s (startEffect tag s) := by
  have opening : KeepsPending s
      ((s.leaveOff.setDctl .running).setSeng { s.leaveOff.seng with output := .blanking }).takeActive :=
    after_evu (takeActive _) (by simp)
  have started : KeepsPending s s.startRun := opening.then_evu (by simp [State.startRun])
  unfold Machine.startEffect
  split
  · exact (refl s).answered _ _ _ _
  · split
    · exact (refl s).answered _ _ _ _
    · split
      · exact (refl s).answered _ _ _ _
      · exact (started.answered _ _ _ _).served

theorem stopEffect (tag : Byte) : KeepsPending s (stopEffect tag s) := by
  unfold Machine.stopEffect
  split
  · exact (refl s).answered _ _ _ _
  · exact ((reachOff s).answered _ _ _ _).served
  · exact ((reachOff s).answered _ _ _ _).served
  · split
    · exact ((forceStop s).answered _ _ _ _).served
    · exact of_evu rfl

theorem writeProfileEffect (tag : Byte) (r : ProfileRequest) : KeepsPending s (writeProfileEffect tag r s) := by
  unfold Machine.writeProfileEffect State.answerProfile
  split
  · exact (refl s).answered _ _ _ _
  · split
    · exact s.evu.keptIn_raise .panelLimitClamped
    · exact of_evu rfl

theorem resetCadenceEffect (tag : Byte) : KeepsPending s (resetCadenceEffect tag s) := by
  have invalidated : KeepsPending s (s.withCrp (s.crp.invalidate false)).takeActive := after_evu (takeActive _) rfl
  exact (invalidated.answered _ _ _ _).served

theorem commitEffect (tag : Byte) (marker : Half) : KeepsPending s (commitEffect tag marker s) := by
  have opening (sc : Scan) (k : Kept) : KeepsPending s (s.commitAtOpening marker sc k) :=
    after_evu (startScan _ _) (by simp)
  unfold Machine.commitEffect
  split
  · exact (refl s).answered _ _ _ _
  · split
    · exact (refl s).answered _ _ _ _
    · split
      · unfold commitInRun
        split
        · exact ((opening _ _).answered _ _ _ _).served
        · exact of_evu rfl
      · exact (commitWithoutScan s marker).answered _ _ _ _

/-- EVENT_CONFIG writes a level and a route, and leaves the flags (R171). -/
theorem eventConfigEffect (tag source level route : Byte) :
    KeepsPending s (eventConfigEffect tag source level route s) := by
  unfold Machine.eventConfigEffect
  split
  · split
    · exact (refl s).answered _ _ _ _
    · refine answered (Evu.keptIn_of_pending_eq fun i => ?_) _ _ _ _
      simp only [State.setEvu, Fin.getElem_fin, Vector.getElem_set]
      split
      · next same => simp only [same]
      · rfl
  · exact (refl s).answered _ _ _ _

theorem setThresholdsEffect (tag notice attention : Byte) :
    KeepsPending s (setThresholdsEffect tag notice attention s) := by
  unfold Machine.setThresholdsEffect
  split
  · exact (refl s).answered _ _ _ _
  · exact Evu.keptIn_of_pending_eq fun _ => rfl

end State.KeepsPending

/-! ### The rows (R168, R172) -/

/-- The row is CLEAR_EVENTS with this set, or the packet that dispatches it. -/
inductive OrdersClear (set : Half) : Instr → Prop
  | row (dt : Nat) (tag : Byte) : OrdersClear set (.clearEvents dt tag set)
  | packet (dt : Nat) {bytes : List Byte} {tag : Byte} (reads : readPacket bytes = .dispatched tag (.clearEvents set)) :
      OrdersClear set (.controlPacket dt bytes)

/-- What a row makes of the pending sources between `s` and `t`. -/
inductive PendingStep (i : Instr) (s t : State) : Prop
  | kept (keeps : s.KeepsPending t)
  | cleared (set : Half) (ordered : OrdersClear set i) (evu : t.evu = s.evu.clear set)
  | reset (loading : t.dctl.isLoading = true)

section
variable {i : Instr} {s t u : State} {dt : Nat} {act : State → State}

theorem PendingStep.of_source (h : PendingStep i u t) (same : u.evu = s.evu) : PendingStep i s t := by
  cases h with
  | kept keeps => exact .kept (keeps.after_evu same)
  | cleared set ordered evu => exact .cleared set ordered (same ▸ evu)
  | reset loading => exact .reset loading

/-! Arrivals that clear nothing. -/

namespace State.KeepsPending

theorem elapse (s : State) (dt : Nat) : KeepsPending s (s.elapse dt) := of_evu (by simp)

theorem arrival (keeps : ∀ u, KeepsPending u (act u)) (dt : Nat) (s : State) : KeepsPending s (arrival dt act s) :=
  arrival_cases (refl s) ((elapse s dt).trans (keeps _))

theorem arrivalOutsideLoading (keeps : ∀ u, KeepsPending u (act u)) (dt : Nat) (s : State) :
    KeepsPending s (arrivalOutsideLoading dt act s) :=
  arrivalOutsideLoading_cases (refl s) (elapse s dt) fun _ => (elapse s dt).trans (keeps _)

theorem whenLocked (keeps : ∀ u, KeepsPending u (act u)) (s : State) : KeepsPending s (s.whenLocked act) :=
  whenLocked_cases (refl s) (keeps s)

theorem commandSlot (keeps : ∀ u, KeepsPending u (act u)) (h : commandSlot dt act s = .next t) : KeepsPending s t :=
  commandSlot_cases h (refl s) (elapse s dt) ((elapse s dt).raise _) fun _ => (elapse s dt).trans (keeps _)

theorem transferEnd (h : execTransferEnd dt s = .next t) : KeepsPending s t := by
  unfold execTransferEnd at h
  split at h
  · cases h; exact refl s
  · unfold State.transferEnds at h
    split at h
    · cases h; exact elapse s dt
    · split at h
      · cases h; exact of_evu (by simp)
      · cases h

end State.KeepsPending

namespace PendingStep

/-- An accepted SOFT_RESET leaves the device in LOADING; a refused one leaves EVU (R177). -/
theorem softResetEffect (s : State) (tag : Byte) : PendingStep i s (softResetEffect tag s) := by
  unfold Machine.softResetEffect
  split
  · exact .kept ((State.KeepsPending.refl s).answered _ _ _ _)
  · split
    · exact .kept ((State.KeepsPending.refl s).answered _ _ _ _)
    · exact .reset rfl

/-- A CLEAR_EVENTS clears its set, or is refused (R172). -/
theorem clearEventsEffect {set : Half} (ordered : OrdersClear set i) (s : State) (tag : Byte) :
    PendingStep i s (clearEventsEffect tag set s) := by
  unfold Machine.clearEventsEffect
  split
  · exact .kept ((State.KeepsPending.refl s).answered _ _ _ _)
  · exact .cleared set ordered rfl

theorem commandEffect {c : Command} (ordered : ∀ set, c = .clearEvents set → OrdersClear set i) (s : State)
    (tag : Byte) : PendingStep i s (commandEffect tag c s) := by
  cases c with
  | softReset => exact .softResetEffect s tag
  | clearEvents set => exact .clearEventsEffect (ordered set rfl) s tag
  | start => exact .kept (.startEffect s tag)
  | stop => exact .kept (.stopEffect s tag)
  | writeProfile r => exact .kept (.writeProfileEffect s tag r)
  | resetCadence => exact .kept (.resetCadenceEffect s tag)
  | commit marker => exact .kept (.commitEffect s tag marker)
  | eventConfig source level route => exact .kept (.eventConfigEffect s tag source level route)
  | setThresholds notice attention => exact .kept (.setThresholdsEffect s tag notice attention)
  | _ => exact .kept (.of_evu (by simp [Machine.commandEffect]))

theorem commandSlot {tag : Byte} {c : Command} (ordered : ∀ set, c = .clearEvents set → OrdersClear set i)
    (h : commandSlot dt (Machine.commandEffect tag c) s = .next t) : PendingStep i s t :=
  commandSlot_cases h (.kept (.refl s)) (.kept (.elapse s dt)) (.kept ((State.KeepsPending.elapse s dt).raise _))
    fun _ => (commandEffect ordered _ tag).of_source (by simp)

theorem decidePacket {reading : PacketReading}
    (ordered : ∀ tag set, reading = .dispatched tag (.clearEvents set) → OrdersClear set i) (s : State) :
    PendingStep i s (s.decidePacket reading) := by
  have bad : PendingStep i s (s.raise .controlPacketBad) := .kept ((State.KeepsPending.refl s).raise _)
  cases reading with
  | notWhole => exact .kept (.refl s)
  | ignored => exact .kept (.refl s)
  | badCheck => exact bad
  | badCommand tag code => exact withPlace_cases bad (.kept ((State.KeepsPending.refl s).answered _ _ _ _))
  | badLength tag code => exact withPlace_cases bad (.kept ((State.KeepsPending.refl s).answered _ _ _ _))
  | dispatched tag c =>
    exact withPlace_cases bad (commandEffect (fun set same => ordered tag set (congrArg _ same)) s tag)

theorem controlPacket {bytes : List Byte} (h : execControlPacket dt bytes s = .next t) :
    PendingStep (.controlPacket dt bytes) s t := by
  cases h
  refine arrivalOutsideLoading_cases (.kept (.refl s)) (.kept (.elapse s dt)) fun _ => ?_
  split
  · exact (decidePacket (fun _ _ reads => .packet dt reads) _).of_source (by simp)
  · exact .kept (.elapse s dt)

theorem resetRelease (h : execResetRelease dt s = .next t) : PendingStep i s t := by
  unfold execResetRelease at h
  split at h
  · cases h; exact .reset rfl
  · cases h; exact .kept (.elapse s dt)

/-- What each row makes of the pending sources. -/
theorem exec (taken : exec i s = .next t) : PendingStep i s t := by
  cases i with
  | resetAssert dt => cases taken; exact .reset rfl
  | resetRelease dt => exact .resetRelease taken
  | loadingEnd dt => cases taken; exact .kept (.arrival .loadingEnds dt s)
  | lockArrival dt | lossArrival dt =>
    cases taken
    exact .kept (.after_evu (.arrivalOutsideLoading (fun u => .served (.followLiveLock u)) dt _) rfl)
  | lfs dt => cases taken; exact .kept (.arrivalOutsideLoading (.whenLocked fun u => .served (.takeLfs u)) dt s)
  | lineStart dt =>
    cases taken
    exact .kept (.arrivalOutsideLoading (.whenLocked fun u => .served (.takeLineStart u)) dt s)
  | lineEnd dt pixels =>
    cases taken
    exact .kept (.arrivalOutsideLoading (.whenLocked fun u => .served (.takeLineEnd u pixels)) dt s)
  | blankingStart dt =>
    cases taken
    exact .kept (.arrivalOutsideLoading (.whenLocked fun u => .served (.takeBlanking u)) dt s)
  | lineOverdueExpiry dt =>
    cases taken
    exact .kept (.arrivalOutsideLoading (.whenLocked fun u => .served (.lineOverdue u)) dt s)
  | maintenanceDue dt | maintenanceEnd dt => cases taken; exact .kept (.arrival (fun u => .of_evu (by simp)) dt s)
  | transferEnd dt => exact .kept (.transferEnd taken)
  | minExpiry dt => cases taken; exact .kept (.arrival (fun u => .served (.minExpires u)) dt s)
  | deadlineExpiry dt => cases taken; exact .kept (.arrival (fun u => .served (.deadlineExpires u)) dt s)
  | freeRunExpiry dt => cases taken; exact .kept (.arrival (fun u => .served (.freeRunExpires u)) dt s)
  | planTimerExpiry dt => cases taken; exact .kept (.arrival (fun u => .served (.planTimerExpires u)) dt s)
  | outputTime dt => cases taken; exact .kept (.arrival (fun u => .served (.outputTime u)) dt s)
  | overlayLock dt => cases taken; exact .kept (.after_evu (.arrivalOutsideLoading .followOverlayLock dt _) rfl)
  | overlayLoss dt =>
    cases taken
    exact .kept (.after_evu (.arrivalOutsideLoading (fun u => .served (.followOverlayLock u)) dt _) rfl)
  | overlayFrameStart dt =>
    cases taken
    exact .kept (.arrivalOutsideLoading (fun u => .served (.overlayFrameStart u)) dt s)
  | overlayLineStart dt =>
    cases taken
    exact .kept (.arrivalOutsideLoading (fun u => .served (.overlayLineStart u)) dt s)
  | overlayLineEnd dt pixels =>
    cases taken
    exact .kept (.arrivalOutsideLoading (fun u => .served (.overlayLineEnd u pixels)) dt s)
  | controlPacket dt bytes => exact .controlPacket taken
  | start dt tag => exact .kept (.commandSlot (fun u => .startEffect u tag) taken)
  | stop dt tag => exact .kept (.commandSlot (fun u => .stopEffect u tag) taken)
  | softReset dt tag => exact .commandSlot (c := .softReset) (fun _ other => by cases other) taken
  | writeProfile dt tag r => exact .kept (.commandSlot (fun u => .writeProfileEffect u tag r) taken)
  | resetCadence dt tag => exact .kept (.commandSlot (fun u => .resetCadenceEffect u tag) taken)
  | commit dt tag marker => exact .kept (.commandSlot (fun u => .commitEffect u tag marker) taken)
  | eventConfig dt tag source level route =>
    exact .kept (.commandSlot (fun u => .eventConfigEffect u tag source level route) taken)
  | setThresholds dt tag notice attention =>
    exact .kept (.commandSlot (fun u => .setThresholdsEffect u tag notice attention) taken)
  | clearEvents dt tag set =>
    exact .commandSlot (c := .clearEvents set) (fun _ same => by cases same; exact .row dt tag) taken
  | fuseProgram dt tag word value fprog | fuseLock dt tag fprog =>
    exact .kept (.trans (.fprogLevel s fprog) (.commandSlot (fun u => .of_evu (by simp)) taken))
  | fuseProgramEnd dt => cases taken; exact .kept (.arrival .fuseProgramEnd dt s)
  | fuseLockEnd dt => cases taken; exact .kept (.arrival .fuseLockEnd dt s)
  | fprogFall dt => cases taken; exact .kept (.after_evu (.arrival .fprogFalls dt _) rfl)
  | _ => exact .kept (.commandSlot (fun u => .of_evu (by simp)) taken)

theorem of_step {rest : List Instr} (front : s.pending = i :: rest) (taken : step s = .next t) :
    PendingStep i s t := by
  unfold step at taken
  rw [front] at taken
  exact (exec taken).of_source rfl

end PendingStep

end

/-- Settles O16: by what the row makes of the pending sources. -/
theorem pendingStays : Obligations.PendingStays := by
  intro s t c rest i front taken pending
  cases PendingStep.of_step front taken with
  | kept keeps =>
    obtain ⟨e, rfl⟩ := EventSource.number_surjective i
    exact .inl (keeps e pending)
  | cleared set ordered evu =>
    by_cases named : set.getLsbD i = true
    · cases ordered with
      | row dt tag => exact .inr (.inl ⟨dt, tag, set, rfl, named⟩)
      | packet dt reads => exact .inr (.inr (.inl ⟨dt, _, _, set, rfl, reads, named⟩))
    · left
      rw [evu, Evu.clear_source, if_neg named]
      exact pending
  | reset loading => exact .inr (.inr (.inr loading))

end Sys2Proof.Machine

namespace Sys2Proof.Machine

/-! ### The event commands and the attention line (R170 to R172) -/

section
variable (s : State) (tag : Byte)

/-- The code of a route, in the words of R171. -/
theorem routeOf_eq (route : Byte) :
    routeOf route = if route = 0 then .notice else if route = 1 then .attention else .both := by
  simp only [routeOf, BitVec.toNat_eq]
  rfl

theorem eventConfigEffect_eq (source level route : Byte) : eventConfigEffect tag source level route s =
    if h : source.toNat < 14 then
      if 7 < level.toNat ∨ 2 < route.toNat then s.addReply tag 0x60 .badValue []
      else
        { s with
          evu := { s.evu with
            sources := s.evu.sources.set source.toNat
              { s.evu.sources[source.toNat] with
                level := level.toNat
                route := if route = 0 then .notice else if route = 1 then .attention else .both } h }
          : State }.addReply tag 0x60 .ok []
    else s.addReply tag 0x60 .badValue [] := by
  rw [← routeOf_eq]
  rfl

theorem clearEventsEffect_eq (set : Half) : clearEventsEffect tag set s =
    if set.getLsbD 14 = true ∨ set.getLsbD 15 = true then s.addReply tag 0x62 .badValue []
    else { s with evu := s.evu.clear set : State }.addReply tag 0x62 .ok [] := by
  simp only [clearEventsEffect, Bool.or_eq_true]
  rfl

end

theorem SourceState.attends_iff (threshold : Nat) (x : SourceState) : x.attends threshold = true ↔
    x.pending = true ∧ (x.route = .attention ∨ x.route = .both) ∧ threshold < x.level := by
  have routed : (x.route != .notice) = true ↔ x.route = .attention ∨ x.route = .both := by
    cases x.route <;> decide
  simp only [SourceState.attends, Bool.and_eq_true, decide_eq_true_eq, routed, and_assoc]

/-- When the attention line is asserted (R170). -/
theorem State.attention_iff (s : State) : s.attention = true ↔
    s.pins.reset = false ∧ s.dctl.isLoading = false
      ∧ ∃ i : Fin 14, s.evu.sources[i].pending = true
          ∧ (s.evu.sources[i].route = .attention ∨ s.evu.sources[i].route = .both)
          ∧ s.evu.attentionThreshold < s.evu.sources[i].level := by
  simp only [← SourceState.attends_iff, State.attention, Bool.and_eq_true, Bool.not_eq_true', and_assoc,
    List.any_eq_true, Vector.mem_toList_iff, Vector.mem_iff_getElem]
  refine and_congr_right' (and_congr_right' ⟨?_, ?_⟩)
  · rintro ⟨_, ⟨i, hi, rfl⟩, attends⟩
    exact ⟨⟨i, hi⟩, attends⟩
  · rintro ⟨i, attends⟩
    exact ⟨_, ⟨i, i.isLt, rfl⟩, attends⟩

/-- The sources are numbered in the order of R167's table. -/
theorem Evu.sources_toList (v : Evu) : v.sources.toList =
    [EventSource.liveLock, .liveLoss, .malformedFrame, .captureAbandoned, .linesPatched, .lagHigh, .stall,
      .commitTaken, .statsReady, .statsOverrun, .controlPacketBad, .fuseDone, .overlayDiscarded,
      .panelLimitClamped].map v.source := by
  refine List.ext_getElem (by simp) fun k inside _ => ?_
  have numbered : k < 14 := by simpa using inside
  interval_cases k <;> rfl

/-- Settles O15: each command is taken in its slot and decided by its effect; the rest by the sources' numbers. -/
theorem eventCommands : Obligations.EventCommands := by
  refine ⟨fun dt tag s taken => ?_, fun v => v.sources_toList.symm, fun v e => ⟨?_, fun e' other => ?_, rfl, rfl⟩,
    State.attention_iff⟩
  · have row (effect : State → State) : commandSlot dt effect s = .next (effect (s.after dt)) :=
      commandSlot_of taken dt effect
    refine ⟨fun source level route => (row _).trans (congrArg _ (eventConfigEffect_eq _ tag source level route)),
      fun notice attention => row _, fun set => ⟨s.evu.clear set, ?_, rfl, rfl, s.evu.clear_source set⟩⟩
    exact (row _).trans (congrArg _ (clearEventsEffect_eq _ tag set))
  · simp [Evu.source, Evu.raise]
  · exact v.source_raise_other fun same => other (EventSource.number_injective same)

end Sys2Proof.Machine

namespace Sys2Proof.Machine

/-! ### The step by the queue (log 2) -/

section
variable {s : State}

/-- With an empty queue the part idles: the model's choice (log 2). -/
theorem step_of_pending_nil (empty : s.pending = []) : step s = .next s := by
  simp only [step, empty]

/-- The front command is taken off the queue before it runs, so it sees only the rest. -/
theorem step_of_pending_cons {c : Instr} {rest : List Instr} (front : s.pending = c :: rest) :
    step s = exec c (s.setPending rest) := by
  simp only [step, front]

end

/-- Settles O1: the two cases of the queue; dequeuing overwrites the queue, so what stood in it before is forgotten. -/
theorem stepTakesFront : Obligations.StepTakesFront := by
  refine ⟨fun c rest s => ?front, fun s empty => step_of_pending_nil empty⟩
  case front =>
    have dequeued : ({ s with pending := c :: rest } : State).setPending rest = { s with pending := rest } := rfl
    exact (step_of_pending_cons rfl).trans (congrArg (exec c) dequeued)

end Sys2Proof.Machine

namespace Sys2Proof.Machine

/-! ### The bounds of E and the shape of a plan (R49, R51, R57 to R60) -/

/-- A plan's multiplier is 1 to 8, fewer repeats remain than the multiplier, and the next point and the timer are there
exactly while a repeat remains (R49, R57 to R59). -/
def Plan.Whole (p : Plan) : Prop :=
  1 ≤ p.multiplier ∧ p.multiplier ≤ 8 ∧ p.remaining < p.multiplier
    ∧ (p.next.isSome = true ↔ p.remaining ≠ 0) ∧ (p.timer.isSome = true ↔ p.remaining ≠ 0)

/-- E is at most 2,000,000 µs (R51) and the plan whole. -/
def Crp.Whole (c : Crp) : Prop := (∀ e, c.estimate = some e → e ≤ 2000000) ∧ c.plan.Whole

theorem cadenceInv_iff {s : State} : CadenceInv s ↔ s.crp.Whole := Iff.rfl

theorem Plan.cleared_whole : Plan.cleared.Whole := by simp [Plan.Whole, Plan.cleared]

theorem Plan.Whole.advance {p : Plan} (h : p.Whole) : p.advance.Whole := by
  obtain ⟨low, high, fewer, next, timer⟩ := h
  unfold Plan.advance
  split
  · next more =>
    refine ⟨low, high, by dsimp only; omega, ?_, ?_⟩
    · rw [Option.isSome_map, next]
      dsimp only
      omega
    · rw [Option.isSome_map, timer]
      dsimp only
      omega
  · exact ⟨low, high, by dsimp only; omega, by simp, by simp⟩

theorem planMultiplier_none (p : Profile) : planMultiplier none p = 1 := rfl

theorem planMultiplier_some (e : Nat) (p : Profile) :
    planMultiplier (some e) p = max 1 (min p.maxMultiplier ((e + p.pmaxEff - 1) / p.pmaxEff)) := rfl

theorem one_le_planMultiplier (estimate : Option Nat) (p : Profile) : 1 ≤ planMultiplier estimate p := by
  cases estimate with
  | none => exact le_refl 1
  | some e => exact le_max_left _ _

theorem planMultiplier_le (estimate : Option Nat) {p : Profile} {k : Nat} (one : 1 ≤ k) (most : p.maxMultiplier ≤ k) :
    planMultiplier estimate p ≤ k := by
  cases estimate with
  | none => exact one
  | some e => exact max_le one ((min_le_left _ _).trans most)

theorem makePlan_whole (estimate : Option Nat) {p : Profile} (most : p.maxMultiplier ≤ 8) (t0 : Word) (at0 : Nat) :
    (makePlan estimate p t0 at0).Whole := by
  have low := one_le_planMultiplier estimate p
  have high := planMultiplier_le estimate (by decide) most
  unfold makePlan
  dsimp only
  split
  · exact ⟨le_refl 1, Nat.le_of_ble_eq_true rfl, Nat.one_pos, by simp, by simp⟩
  · next more => exact ⟨low, high, by dsimp only; omega, by simp; omega, by simp; omega⟩

/-! ### An LFS report in its cases (R50 to R52) -/

section
variable {c : Crp} {entry : ProfileEntry} {last : Word} (frame time : Word)

/-- With a profile that is not VALID, E and the stall state stay (R50). -/
theorem Crp.takeLfs_of_invalid (c : Crp) (invalid : entry.state ≠ .valid) :
    c.takeLfs entry frame time = { c with newest := some frame, lastLfs := some time } := by
  unfold Crp.takeLfs
  dsimp only
  split
  · rfl
  · exact if_pos invalid

/-- An interval above the stall limit leaves E (R52). -/
theorem Crp.takeLfs_of_stall (found : c.lastLfs = some last) (valid : entry.state = .valid)
    (above : entry.profile.stallLimit < (time - last).toNat) :
    c.takeLfs entry frame time = { c with newest := some frame, lastLfs := some time, stalled := true } := by
  unfold Crp.takeLfs Crp.interval
  rw [found]
  dsimp only [Option.map_some]
  rw [if_neg (not_not.mpr valid), if_neg (by omega)]

/-- An interval within the stall limit sets an INVALID E and moves a VALID one (R51). -/
theorem Crp.takeLfs_of_interval (found : c.lastLfs = some last) (valid : entry.state = .valid)
    (within : (time - last).toNat ≤ entry.profile.stallLimit) :
    c.takeLfs entry frame time = { c with
      newest := some frame, lastLfs := some time, stalled := false
      estimate := some (c.estimate.elim (time - last).toNat (smooth · (time - last).toNat entry.profile.weight)) } := by
  unfold Crp.takeLfs Crp.interval
  rw [found]
  dsimp only [Option.map_some]
  rw [if_neg (not_not.mpr valid), if_pos within]
  cases c.estimate <;> rfl

end

/-- A weighted mean of two numbers, rounded, is not above the larger one (R51). -/
theorem smooth_le_max (e i : Nat) {w : Nat} (weight : w ≤ 16) : smooth e i w ≤ max e i := by
  have old : e * (16 - w) ≤ max e i * (16 - w) := Nat.mul_le_mul_right _ (le_max_left e i)
  have new : i * w ≤ max e i * w := Nat.mul_le_mul_right _ (le_max_right e i)
  have whole : max e i * (16 - w) + max e i * w = max e i * 16 := by rw [← Nat.mul_add, Nat.sub_add_cancel weight]
  unfold smooth
  omega

/-- Settles O46: E by the interval's case: none, above the stall limit, or within it. -/
theorem lfsEstimate : Obligations.LfsEstimate := by
  intro c entry frame time t
  obtain ⟨newest, lastLfs, plan, raised⟩ := c.takeLfs_kept entry frame time
  refine ⟨newest, lastLfs, plan, raised, ?_, fun last found valid => ⟨fun above => ?_, fun within => ?_⟩⟩ <;> unfold t
  · rintro (absent | invalid)
    · rw [c.takeLfs_of_no_last entry frame time absent]
      exact ⟨rfl, rfl⟩
    · rw [c.takeLfs_of_invalid frame time invalid]
      exact ⟨rfl, rfl⟩
  · rw [Crp.takeLfs_of_stall frame time found valid above]
    exact ⟨rfl, rfl⟩
  · rw [Crp.takeLfs_of_interval frame time found valid within]
    refine ⟨rfl, fun unknown => ?_, fun e known => ⟨?_, smooth_le_max e _⟩⟩
    · dsimp only
      rw [unknown, Option.elim_none]
    · dsimp only
      rw [known, Option.elim_some, smooth]

/-- The spacing of a plan is inside the window (R57). -/
theorem planSpacing_mem_window (e : Nat) {p : Profile} (window : p.pminEff ≤ p.pmaxEff) :
    p.pminEff ≤ planSpacing (some e) p ∧ planSpacing (some e) p ≤ p.pmaxEff :=
  ⟨le_min (le_max_right _ _) window, min_le_right _ _⟩

/-- Settles O47: the bounds of `max`, `min` and of a quotient rounded up. -/
theorem planMade : Obligations.PlanMade := by
  refine ⟨fun p => ⟨rfl, rfl⟩, fun e p positive window most => ?_⟩
  intro m
  obtain ⟨low, high⟩ := planSpacing_mem_window e window
  have quotient : ∀ k, (e + p.pmaxEff - 1) / p.pmaxEff ≤ k ↔ e ≤ k * p.pmaxEff := by
    intro k
    rw [Nat.div_le_iff_le_mul_add_pred (by omega), Nat.mul_comm]
    omega
  have value : m = max 1 (min p.maxMultiplier ((e + p.pmaxEff - 1) / p.pmaxEff)) := rfl
  refine ⟨rfl, one_le_planMultiplier _ p, planMultiplier_le _ most le_rfl,
    fun eight => planMultiplier_le _ (by decide) eight, rfl, low, high, fun below => ?_, fun above => ?_⟩
  · exact (quotient m).mp (by omega)
  · have beyond := (quotient (m - 1)).not.mp (by omega)
    omega

end Sys2Proof.Machine

namespace Sys2Proof.Machine

/-! ### What keeps a cadence record whole (R50 to R60) -/

section
variable {c : Crp}

/-- An LFS report keeps E within two seconds: the stall limit bounds an interval that is taken (R50 to R52). -/
theorem Crp.Whole.takeLfs (h : c.Whole) {entry : ProfileEntry} (bounds : entry.profile.inBounds) (frame time : Word) :
    (c.takeLfs entry frame time).Whole := by
  obtain ⟨small, plan⟩ := h
  obtain ⟨-, -, weight, -, -, stall, -⟩ := bounds
  refine ⟨?_, by rwa [(c.takeLfs_kept entry frame time).2.2.1]⟩
  cases found : c.lastLfs with
  | none => rwa [c.takeLfs_of_no_last entry frame time found]
  | some last =>
    by_cases valid : entry.state = .valid
    · rcases Nat.lt_or_ge entry.profile.stallLimit (time - last).toNat with above | within
      · rwa [Crp.takeLfs_of_stall frame time found valid above]
      · rw [Crp.takeLfs_of_interval frame time found valid within]
        rintro _ ⟨⟩
        cases known : c.estimate with
        | none => exact within.trans stall
        | some e => exact (smooth_le_max e _ weight).trans (max_le (small e known) (within.trans stall))
    · rwa [c.takeLfs_of_invalid frame time valid]

theorem Crp.Whole.clearPlan (h : c.Whole) : c.clearPlan.Whole := ⟨h.1, Plan.cleared_whole⟩

theorem Crp.Whole.invalidate (c : Crp) (keepLast : Bool) : (c.invalidate keepLast).Whole :=
  ⟨nofun, Plan.cleared_whole⟩

theorem Crp.Whole.withdraw (h : c.Whole) (point : Word) : (c.withdraw point).Whole := by
  unfold Crp.withdraw
  split
  · exact h.clearPlan
  · exact h

theorem Crp.Whole.setPlan (h : c.Whole) {p : Plan} (plan : p.Whole) : Crp.Whole { c with plan := p } := ⟨h.1, plan⟩

end

theorem Crp.initial_whole : Crp.initial.Whole := ⟨nofun, Plan.cleared_whole⟩

/-- Every entry of the profile table keeps the bounds of R40. -/
def State.EntriesBounded (s : State) : Prop := ∀ i : Fin 4, s.pru.table[i].profile.inBounds

/-- The Profile Unit is left, and a whole cadence record stays whole while every stored profile keeps its bounds. -/
structure State.Paced (s t : State) : Prop where
  pru : t.pru = s.pru
  crp : s.EntriesBounded → s.crp.Whole → t.crp.Whole

section
variable {s t u : State}

theorem State.EntriesBounded.of_pru (h : s.EntriesBounded) (pru : t.pru = s.pru) : t.EntriesBounded := by
  unfold EntriesBounded
  rwa [pru]

theorem State.EntriesBounded.active (h : s.EntriesBounded) : s.activeEntry.profile.inBounds := h _

namespace State.Paced

theorem of_frame (pru : t.pru = s.pru) (crp : t.crp = s.crp) : Paced s t := ⟨pru, fun _ whole => by rwa [crp]⟩

theorem refl (s : State) : Paced s s := of_frame rfl rfl

theorem trans (h : Paced s t) (h' : Paced t u) : Paced s u :=
  ⟨h'.pru.trans h.pru, fun bounds whole => h'.crp (bounds.of_pru h.pru) (h.crp bounds whole)⟩

theorem raise (s : State) (e : EventSource) : Paced s (s.raise e) := of_frame (by simp) (by simp)

theorem answered (h : Paced s t) (tag code : Byte) (status : Status) (payload : List Byte) :
    Paced s (t.addReply tag code status payload) := h.trans (of_frame (by simp) (by simp))

theorem served (h : Paced s t) : Paced s t.serve := h.trans (of_frame (by simp) (by simp))

theorem drawn (s : State) : Paced s s.drawn := of_frame (by simp) (by simp)

theorem setSsch (s : State) (x : Ssch) : Paced s (s.setSsch x) := of_frame rfl rfl

theorem withCrp {c : Crp} (keeps : s.EntriesBounded → s.crp.Whole → c.Whole) : Paced s (s.withCrp c) :=
  ⟨by simp, keeps⟩

/-! ### Reports to CRP -/

theorem invalidated (s : State) (keepLast : Bool) : Paced s (s.withCrp (s.crp.invalidate keepLast)) :=
  withCrp fun _ _ => .invalidate _ _

theorem withdrawn (s : State) (point : Word) : Paced s (s.withCrp (s.crp.withdraw point)) :=
  withCrp fun _ whole => whole.withdraw point

theorem cadenceLfs (s : State) (frame time : Word) : Paced s (s.cadenceLfs frame time) := by
  rw [State.cadenceLfs_eq]
  exact ⟨rfl, fun bounds whole => whole.takeLfs bounds.active frame time⟩

theorem reportFormatChange (s : State) (frame : Option Word) : Paced s (s.reportFormatChange frame) :=
  invalidated s _

theorem reportWithoutFrame (s : State) (changed : Bool) : Paced s (s.reportWithoutFrame changed) := by
  unfold State.reportWithoutFrame
  split
  · exact reportFormatChange s _
  · exact refl s

theorem liveReports (s : State) (frame : Word) (changed : Bool) : Paced s (s.liveReports frame changed) := by
  unfold State.liveReports
  split
  · split
    · exact ((drawn s).trans (reportFormatChange _ _)).trans (cadenceLfs _ _ _)
    · exact ((drawn s).trans (cadenceLfs _ _ _)).trans (reportFormatChange _ _)
  · exact cadenceLfs s _ _

theorem freshReport (s : State) (lfsTime : Word) : Paced s (s.freshReport lfsTime) := by
  refine ⟨by simp, fun bounds whole => ?_⟩
  obtain ⟨-, -, -, -, -, -, most⟩ := bounds.active
  rw [s.freshReport_crp]
  exact ⟨whole.1, makePlan_whole _ most _ _⟩

theorem cadenceAtStart (s : State) (r : StartReason) (changed committed : Bool) :
    Paced s (s.cadenceAtStart r changed committed) := by
  cases r with
  | arrival frame => exact (liveReports s frame changed).trans (freshReport _ _)
  | chase p => exact (reportWithoutFrame s changed).trans (freshReport _ _)
  | plan point remaining =>
    unfold State.cadenceAtStart
    dsimp only
    split
    · exact (reportWithoutFrame s changed).trans (withdrawn _ point)
    · exact reportWithoutFrame s changed
  | deadline => exact reportWithoutFrame s changed
  | freeRun => exact reportWithoutFrame s changed

/-! ### Scan starts, timers and plan points -/

theorem startScan (s : State) (r : StartReason) : Paced s (s.startScan r) := by
  have committed : Paced s s.commitAtStart := of_frame (by simp) (by simp)
  have reported := committed.trans (cadenceAtStart _ r s.startChangesFormat s.tbc.commitPending.isSome)
  exact reported.trans (of_frame (by simp) (s.startScan_crp r))

theorem takeOpen (s : State) : Paced s s.takeOpen := by
  unfold State.takeOpen
  split <;> split
  · exact startScan s _
  · exact refl s
  · exact startScan s _
  · exact refl s

theorem takeMin (s : State) : Paced s s.takeMin := by
  unfold State.takeMin
  split
  · exact startScan s _
  · exact (setSsch s _).trans (takeOpen _)

theorem takeActive (s : State) : Paced s s.takeActive := by
  unfold State.takeActive
  split
  · split
    · exact takeMin s
    · exact refl s
  · exact takeOpen s
  · exact refl s
  · exact refl s

/-- An expiry changes a timer of SSCH and takes what is then active (R67). -/
theorem expires (s : State) : Paced s s.minExpires ∧ Paced s s.deadlineExpires ∧ Paced s s.freeRunExpires := by
  have expired (x : Ssch) : Paced s (s.setSsch x).takeActive := (setSsch s x).trans (takeActive _)
  unfold State.minExpires State.deadlineExpires State.freeRunExpires
  refine ⟨?_, ?_, ?_⟩ <;> split
  · exact expired _
  · exact refl s
  · exact expired _
  · exact refl s
  · exact expired _
  · exact refl s

theorem repeatDue (s : State) (point : Word) (remaining : Nat) : Paced s (s.repeatDue point remaining) := by
  have told : Paced s (s.setSsch { s.ssch with planEmpty := s.ssch.planEmpty || remaining == 0 }) := setSsch s _
  unfold State.repeatDue
  dsimp only
  split
  · exact told.trans (startScan _ _)
  · split
    · exact told.trans (withdrawn _ point)
    · exact told
  · exact told
  · exact told

theorem planTimerExpires (s : State) : Paced s s.planTimerExpires := by
  unfold State.planTimerExpires
  split
  · next point _ =>
    split
    · have advanced : Paced s (s.setCrp { s.crp with plan := s.crp.plan.advance, raised := some point }) :=
        ⟨rfl, fun _ whole => ⟨whole.1, whole.2.advance⟩⟩
      exact advanced.trans (repeatDue _ _ _)
    · exact refl s
  · exact refl s

/-! ### Commits without a scan, OFF and scan ends -/

theorem commitWithoutScan (s : State) (marker : Half) : Paced s (s.commitWithoutScan marker) := by
  have taken : Paced s (s.takeCommit marker) := of_frame (by simp) (by simp)
  unfold State.commitWithoutScan
  split
  · exact taken.trans (reportFormatChange _ _)
  · exact taken

theorem commitAtOff (s : State) : Paced s s.commitAtOff := by
  unfold State.commitAtOff
  split
  · exact commitWithoutScan s _
  · exact refl s

theorem reachOff (s : State) : Paced s s.reachOff := by
  have off : Paced s (s.setSsch { s.ssch with state := .off, stopRequested := false, pending := none, overtaken := 0 })
    := setSsch s _
  exact ((off.trans (withCrp fun _ whole => whole.clearPlan)).trans (commitAtOff _)).trans (of_frame rfl rfl)

theorem afterScanEnd (s : State) : Paced s s.afterScanEnd := by
  unfold State.afterScanEnd
  split
  · exact reachOff s
  · exact (setSsch s _).trans (takeActive _)

theorem scanEnds (s : State) (cut : Bool) (sc : Scan) : Paced s (s.engineScanEnd cut sc).afterScanEnd :=
  .trans (.of_frame (by simp) (by simp)) (afterScanEnd _)

theorem outputTime (s : State) : Paced s s.outputTime := by
  unfold State.outputTime
  split
  · exact refl s
  · split
    · exact refl s
    · split
      · split
        · exact of_frame (by simp) (by simp)
        · exact scanEnds s false _
      · exact refl s

theorem forceStop (s : State) : Paced s s.forceStop := by
  unfold State.forceStop
  split
  · split
    · split
      · exact (drawn s).trans (scanEnds _ false _)
      · exact (drawn s).trans (scanEnds _ true _)
    · exact scanEnds s true _
  · exact refl s

/-! ### The live link and frame starts -/

theorem followLiveLock (s : State) : Paced s s.followLiveLock := by
  have told (u : State) (x : Lrx) (e : EventSource) :
      Paced u (((u.setLrx x).raise e).withCrp (((u.setLrx x).raise e).crp.invalidate false)).takeActive :=
    .trans (.trans (.of_frame (by simp) (by simp)) (invalidated _ _)) (takeActive _)
  have cut : Paced s s.cutArriving := of_frame (by simp) (by simp)
  unfold State.followLiveLock
  split
  · exact told s _ _
  · exact cut.trans (told _ _ _)
  · exact refl s
  · exact refl s

/-- CRP where an LFS report comes before the reports of the start at its instant (R54, R56, log 37). -/
theorem crpWithLfs_whole (bounds : s.EntriesBounded) (whole : s.crp.Whole) (sc : Scan) (frame : Word) :
    (sc.crpWithLfs s.crp s.activeEntry frame s.pacingTime).Whole := by
  unfold Scan.crpWithLfs
  split
  · exact whole
  · exact whole.takeLfs bounds.active _ _

theorem lfsBeforeStart (s : State) (sc : Scan) (frame : Word) : Paced s (s.lfsBeforeStart sc frame) := by
  by_cases deferred : sc.kind = .deferred
  · rw [s.lfsBeforeStart_deferred frame deferred]
    refine ⟨rfl, fun bounds whole => (crpWithLfs_whole bounds whole sc frame).setPlan (makePlan_whole _ ?_ _ _)⟩
    obtain ⟨-, -, -, -, -, -, most⟩ := bounds.active
    exact most
  · rw [s.lfsBeforeStart_other frame deferred]
    exact ⟨rfl, fun bounds whole => crpWithLfs_whole bounds whole sc frame⟩

theorem cadenceInScan (s : State) (frame : Word) : Paced s (s.cadenceInScan frame) := by
  unfold State.cadenceInScan
  split
  · split
    · exact (drawn s).trans (lfsBeforeStart _ _ _)
    · exact (drawn s).trans (cadenceLfs _ _ _)
  · exact cadenceLfs s _ _

theorem reportLfs (s : State) (frame : Word) : Paced s (s.reportLfs frame) := by
  have pends (u : State) : Paced u (u.pend frame) := of_frame rfl rfl
  unfold State.reportLfs
  split
  · exact startScan s _
  · exact (cadenceLfs s _ _).trans (pends _)
  · exact (cadenceInScan s _).trans (pends _)
  · exact cadenceLfs s _ _

theorem takeLfs (s : State) : Paced s s.takeLfs := by
  have numbered : Paced s s.cutArriving.numbered :=
    (of_frame (by simp) (by simp)).trans (of_frame (s := s.cutArriving) rfl rfl)
  rw [State.takeLfs_eq]
  refine (numbered.trans (reportLfs _ s.cutArriving.numbered.lrx.frameCounter)).trans (of_frame ?_ ?_) <;> simp

/-! ### Commands -/

theorem startRun (s : State) : Paced s s.startRun := by
  have left : Paced s ((s.leaveOff.setDctl .running).setSeng { s.leaveOff.seng with output := .blanking }) :=
    of_frame (by simp) (by simp)
  exact (left.trans (takeActive _)).trans (of_frame (by simp [State.startRun]) rfl)

theorem startEffect (s : State) (tag : Byte) : Paced s (startEffect tag s) := by
  unfold Machine.startEffect
  split
  · exact (refl s).answered _ _ _ _
  · split
    · exact (refl s).answered _ _ _ _
    · split
      · exact (refl s).answered _ _ _ _
      · exact ((startRun s).answered _ _ _ _).served

theorem stopEffect (s : State) (tag : Byte) : Paced s (stopEffect tag s) := by
  unfold Machine.stopEffect
  split
  · exact (refl s).answered _ _ _ _
  · exact ((reachOff s).answered _ _ _ _).served
  · exact ((reachOff s).answered _ _ _ _).served
  · split
    · exact ((forceStop s).answered _ _ _ _).served
    · exact of_frame (by simp) (by simp)

theorem commitAtOpening (s : State) (marker : Half) (sc : Scan) (k : Kept) : Paced s (s.commitAtOpening marker sc k) :=
  have pended (u : State) (x : Tbc) : Paced u (u.setTbc x) := of_frame rfl rfl
  have again : Paced s (s.beforeOpening sc k) := of_frame (by simp) (by simp)
  (again.trans (pended _ _)).trans (startScan _ _)

theorem commitEffect (s : State) (tag : Byte) (marker : Half) : Paced s (commitEffect tag marker s) := by
  unfold Machine.commitEffect
  split
  · exact (refl s).answered _ _ _ _
  · split
    · exact (refl s).answered _ _ _ _
    · split
      · unfold commitInRun
        split
        · exact ((commitAtOpening s marker _ _).answered _ _ _ _).served
        · exact of_frame (by simp) (by simp)
      · exact (commitWithoutScan s marker).answered _ _ _ _

end State.Paced

/-! ### The invariant along the acts -/

/-- A command keeps a whole record, also SOFT_RESET, which empties it (R49, R177). -/
theorem commandEffect_whole (bounds : s.EntriesBounded) (whole : s.crp.Whole) (tag : Byte) (c : Command) :
    (commandEffect tag c s).crp.Whole := by
  have plain (c : Command) (hc : plainCommand c = true) : (commandEffect tag c s).crp.Whole := by
    obtain ⟨-, -, -, -, -, crp, -⟩ := plainCommand_frame s tag c hc
    rwa [crp]
  cases c with
  | start => exact (State.Paced.startEffect s tag).crp bounds whole
  | stop => exact (State.Paced.stopEffect s tag).crp bounds whole
  | resetCadence =>
    exact (((State.Paced.invalidated s false).trans (.takeActive _)).answered tag 0x20 .ok []).served.crp bounds whole
  | commit marker => exact (State.Paced.commitEffect s tag marker).crp bounds whole
  | softReset =>
    show (softResetEffect tag s).crp.Whole
    unfold softResetEffect
    split
    · exact whole
    · split
      · exact whole
      · exact Crp.initial_whole
  | _ => exact plain _ rfl

/-- The end of LOADING sets the limits, leaves the stored profiles, and follows the live link (R3, R35). -/
theorem loadingEnds_whole (bounds : s.EntriesBounded) (whole : s.crp.Whole) : s.loadingEnds.crp.Whole := by
  have followed (owed : Option Byte) :
      State.Paced s.loaded ((s.loaded.overlayAtLoadingEnd owed).followLiveLock.serve) :=
    (State.Paced.of_frame (by simp) (by simp)).trans (State.Paced.followLiveLock _).served
  unfold State.loadingEnds
  split
  · split
    · rw [State.endLoading_eq]
      exact (followed _).crp bounds whole
    · exact whole
  · exact whole
  · exact whole

/-- Every act keeps a whole cadence record. -/
theorem Act.whole (act : Act s t) (bounds : s.EntriesBounded) (whole : s.crp.Whole) : t.crp.Whole := by
  induction act with
  | idle => exact whole
  | serve _ ih => simpa using ih
  | loadingEnds => exact loadingEnds_whole bounds whole
  | followLiveLock => exact (State.Paced.followLiveLock s).crp bounds whole
  | takeLfs => exact (State.Paced.takeLfs s).crp bounds whole
  | minExpires => exact (State.Paced.expires s).1.crp bounds whole
  | deadlineExpires => exact (State.Paced.expires s).2.1.crp bounds whole
  | freeRunExpires => exact (State.Paced.expires s).2.2.crp bounds whole
  | planTimerExpires => exact (State.Paced.planTimerExpires s).crp bounds whole
  | outputTime => exact (State.Paced.outputTime s).crp bounds whole
  | command tag c _ => exact commandEffect_whole bounds whole tag c
  | takeLineStart | takeLineEnd | takeBlanking | lineOverdue | maintenanceDue | maintenanceEnds | transferEnds
  | followOverlayLock | overlayFrameStart | overlayLineStart | overlayLineEnd | packetBad | refused | fuseProgramEnd
  | fuseLockEnd => simpa using whole

end

theorem actsLead_whole : ActsLead (fun s => s.EntriesBounded ∧ s.crp.Whole) (·.crp.Whole) where
  dequeue _ _ h := h
  after _ _ _ h := h
  setPins _ _ _ h := h
  fprogFalls s _ h := ⟨h.1.of_pru (by simp), by simpa using h.2⟩
  held _ _ h := h.2
  assertReset _ _ := Crp.initial_whole
  releaseReset _ _ h := h.2
  act _ _ _ h act := act.whole h.1 h.2

/-- Settles O48: every act keeps the cadence record whole where the stored profiles keep the bounds of R40, and a reset
empties it. -/
theorem cadenceKept : Obligations.CadenceKept := fun _ _ profiles cadence taken =>
  actsLead_whole.step taken ⟨profiles.1, cadence⟩

end Sys2Proof.Machine

namespace Sys2Proof.Machine

open State

/-! ### A plan point (R59, R61, R76, R77) -/

section
variable {s : State} {p : Plan} {point : Word} {due : Nat}

/-- A plan with a next point and a timer moves both on by its spacing, or ends with its last point (R59). -/
theorem Plan.advance_eq (next : p.next = some point) (timer : p.timer = some due) : p.advance =
    if 1 < p.remaining then
      { p with remaining := p.remaining - 1, next := some (point + BitVec.ofNat 32 p.spacing)
               timer := some (due + p.spacing) }
    else { p with remaining := 0, next := none, timer := none } := by
  unfold Plan.advance
  rw [next, timer]
  rfl

theorem State.planTimerExpires_of_due (next : s.crp.plan.next = some point) (timer : s.crp.plan.timer = some due)
    (run : due ≤ s.microseconds) : s.planTimerExpires = s.planPoint point := by
  unfold State.planTimerExpires Plan.isDue
  rw [next, timer]
  exact if_pos (decide_eq_true run)

/-- A plan point raised: the plan advances, and SSCH is told when no repeat remains (R59, R61). -/
def State.pointRaised (point : Word) (s : State) : State :=
  { s with
    crp := { s.crp with plan := s.crp.plan.advance, raised := some point }
    ssch := { s.ssch with planEmpty := s.ssch.planEmpty || s.crp.plan.remaining - 1 == 0 } }

/-- The plan withdrawn: SSCH is told that it is empty (R61, R77). -/
def State.planWithdrawn (s : State) : State :=
  { s with crp := s.crp.clearPlan, ssch := { s.ssch with planEmpty := true } }

theorem Plan.advance_remaining (p : Plan) : p.advance.remaining = p.remaining - 1 := by
  unfold Plan.advance
  split <;> dsimp only
  omega

/-- Withdrawing the point just raised clears the plan, which SSCH is told when a repeat remains (R77). -/
theorem State.pointRaised_withdraw (point : Word) (more : 1 ≤ s.crp.plan.remaining - 1) :
    (s.pointRaised point).withCrp ((s.pointRaised point).crp.withdraw point) = (s.pointRaised point).planWithdrawn := by
  have cleared : (s.pointRaised point).crp.withdraw point = (s.pointRaised point).crp.clearPlan := if_pos rfl
  have told (shown : Bool) : planIndication s.crp.plan.advance Plan.cleared shown = true := by
    rw [planIndication_eq, s.crp.plan.advance_remaining, if_neg]
    · rfl
    · simp [Plan.cleared]
      omega
  rw [cleared]
  exact congrArg (fun shown : Bool => ({ s.pointRaised point with
    crp := (s.pointRaised point).crp.clearPlan
    ssch := { (s.pointRaised point).ssch with planEmpty := shown } } : State)) (told _)

/-- What SSCH does with a plan point: it starts a repeat in OPEN, withdraws the point in HOLD while a repeat remains, and
drops it elsewhere (R76, R77). -/
theorem State.planPoint_eq (s : State) (point : Word) : s.planPoint point =
    if s.ssch.state = .opened then (s.pointRaised point).startScan (.plan point (s.crp.plan.remaining - 1))
    else if s.ssch.state = .hold ∧ 1 ≤ s.crp.plan.remaining - 1 then (s.pointRaised point).planWithdrawn
    else s.pointRaised point := by
  have elsewhere {a b : State} (closed : s.ssch.state ≠ .opened) (off : s.ssch.state ≠ .hold) :
      s.pointRaised point = if s.ssch.state = .opened then a
        else if s.ssch.state = .hold ∧ 1 ≤ s.crp.plan.remaining - 1 then b else s.pointRaised point := by
    rw [if_neg closed, if_neg fun withdrawn => off withdrawn.1]
  unfold State.planPoint State.repeatDue
  dsimp only [State.setCrp_ssch]
  split
  · next opened =>
    rw [if_pos opened]
    rfl
  · next hold =>
    have closed : s.ssch.state ≠ .opened := by rw [show s.ssch.state = .hold from hold]; nofun
    rw [if_neg (c := s.ssch.state = .opened) closed]
    by_cases more : 1 ≤ s.crp.plan.remaining - 1
    · rw [if_pos more, if_pos ⟨hold, more⟩]
      exact State.pointRaised_withdraw point more
    · rw [if_neg more, if_neg fun withdrawn => more withdrawn.2]
      rfl
  · next scan => exact elsewhere (by simp [scan]) (by simp [scan])
  · next off => exact elsewhere (by simp [off]) (by simp [off])

end

/-- Settles O53: the point that is due is raised, and SSCH takes it by its state. -/
theorem planTimer : Obligations.PlanTimer := by
  intro dt due point s released next timer run left plan u
  have taken : exec (.planTimerExpiry dt) s = .next (s.after dt).planTimerExpires.serve :=
    congrArg _ (arrival_of released dt _)
  have advanced : plan = s.crp.plan.advance := (Plan.advance_eq next timer).symm
  have raised : (s.after dt).pointRaised point = u := by
    unfold u
    rw [advanced]
    rfl
  rw [taken, State.planTimerExpires_of_due (s := s.after dt) next timer run, State.planPoint_eq, raised,
    apply_ite State.serve, apply_ite State.serve]
  rfl

end Sys2Proof.Machine

namespace Sys2Proof.Machine

open State

/-! ### START (R66, R67, R81, R82, R105) -/

section
variable {s : State}

/-- In STANDBY no scan is in flight (R86). -/
theorem SchedulerInv.no_scan_of_standby (h : SchedulerInv s) (standby : s.dctl = .standby) : s.seng.scan = none :=
  State.scanKey_eq_none.mp (h.runInv.scan_none_of_dctl (by simp [standby]))

theorem State.markOpening_of_no_scan (k : Option Kept) (quiet : s.seng.scan = none) : s.markOpening k = s := by
  unfold State.markOpening
  rw [quiet, Option.map_none, ← quiet]
  rfl

/-- The device RUNNING with the output blanking and the scheduler as given (R82, R105). -/
def State.inRun (x : Ssch) (s : State) : State :=
  { s with dctl := .running, seng := { s.seng with output := .blanking }, ssch := x }

/-- The first START since reset opens with the active profile kept, MIN EXPIRED and DEADLINE and FREE-RUN running, and no
timer to take (R66, R67). -/
theorem State.startRun_of_first (first : s.ssch.lastStart = none) (quiet : s.seng.scan = none) :
    s.startRun = s.inRun { s.ssch with
      state := .opened, runStarted := false, kept := some s.activeEntry.profile.kept, min := .expired s.microseconds
      deadline := .running (s.microseconds + s.activeEntry.profile.pmaxEff)
      freeRun := .running (s.microseconds + s.activeEntry.profile.freeRun) } := by
  unfold State.startRun State.leaveOff
  rw [first]
  exact (congrArg (State.markOpening _) (State.Beats.takeActive_idle rfl rfl rfl)).trans
    (State.markOpening_of_no_scan (s := s.inRun _) _ quiet)

/-- A later START opens when MIN is EXPIRED, holds otherwise, and takes a timer that is active (R67, R82). -/
theorem State.startRun_of_again {last : Word} (again : s.ssch.lastStart = some last) :
    s.startRun = (s.inRun { s.ssch with
      state := if s.ssch.min.isExpired then .opened else .hold, runStarted := false }).takeActive.markOpening
        s.ssch.kept := by
  unfold State.startRun State.leaveOff
  rw [again]
  rfl

/-- HOLD of a later run, with no scan started in it (R69, R82). -/
def State.inHold (s : State) : State := s.inRun { s.ssch with state := .hold, runStarted := false }

/-- OPEN of a later run, with no scan started in it (R69, R82). -/
def State.inOpen (s : State) : State := s.inRun { s.ssch with state := .opened, runStarted := false }

/-- START again while MIN runs: HOLD (R82). -/
theorem State.startRun_of_hold {last : Word} (again : s.ssch.lastStart = some last)
    (running : s.ssch.min.isExpired = false) (quiet : s.seng.scan = none) :
    s.startRun = s.inHold := by
  rw [State.startRun_of_again again, if_neg (by simp [running])]
  exact (congrArg _ (State.takeActive_of_waiting (s := s.inHold) rfl running)).trans
    (State.markOpening_of_no_scan (s := s.inHold) _ quiet)

/-- START again with MIN EXPIRED: OPEN, where a timer that is EXPIRED and active is taken at once (R67, R82). -/
theorem State.startRun_of_open {last : Word} (again : s.ssch.lastStart = some last)
    (expired : s.ssch.min.isExpired = true) :
    s.startRun = s.inOpen.takeOpen.markOpening s.ssch.kept := by
  rw [State.startRun_of_again again, if_pos expired]
  rfl

theorem State.takeOpen_of_none
    (locked : ¬ (s.lrx.link = .locked ∧ s.ssch.planEmpty = true ∧ s.ssch.deadline.isExpired = true))
    (down : ¬ (s.lrx.link = .down ∧ s.ssch.freeRun.isExpired = true)) : s.takeOpen = s := by
  rw [State.takeOpen_eq, if_neg locked, if_neg down]

theorem State.takeOpen_of_deadline (locked : s.lrx.link = .locked) (empty : s.ssch.planEmpty = true)
    (late : s.ssch.deadline.isExpired = true) : s.takeOpen = s.startScan .deadline := by
  rw [State.takeOpen_locked s locked, if_pos ⟨empty, late⟩]

theorem State.takeOpen_of_freeRun (down : s.lrx.link = .down) (late : s.ssch.freeRun.isExpired = true) :
    s.takeOpen = s.startScan .freeRun := by
  rw [State.takeOpen_down s down, if_pos late]

theorem start_exec (taken : s.takesCommand) (dt : Nat) (tag : Byte) :
    exec (.start dt tag) s = .next (startEffect tag (s.after dt)) := commandSlot_of taken dt _

/-- The refusals of START in their order (R81). -/
theorem startEffect_refused (tag : Byte) (s : State) :
    (s.dctl ≠ .standby → startEffect tag s = s.addReply tag 0x01 .wrongState [])
    ∧ (s.dctl = .standby → s.lfb.engine.isLocking = true → startEffect tag s = s.addReply tag 0x01 .fuseBusy [])
    ∧ (s.dctl = .standby → s.lfb.engine.isLocking = false → s.activeEntry.state ≠ .valid →
        startEffect tag s = s.addReply tag 0x01 .badProfile []) := by
  unfold startEffect
  refine ⟨fun other => if_pos other, fun standby locking => ?_, fun standby idle invalid => ?_⟩
  · rw [if_neg (not_not.mpr standby), if_pos locking]
  · rw [if_neg (not_not.mpr standby), if_neg (by simp [idle]), if_pos invalid]

theorem startEffect_accepted (tag : Byte) (standby : s.dctl = .standby) (idle : s.lfb.engine.isLocking = false)
    (valid : s.activeEntry.state = .valid) :
    startEffect tag s = (s.startRun.answered 0 tag 0x01 .ok []).serve := by
  unfold startEffect
  rw [if_neg (not_not.mpr standby), if_neg (by simp [idle]), if_neg (not_not.mpr valid), State.answered_zero]

end

/-! ### STOP (R83 to R85, R103) -/

section
variable {s w : State} {sc : Scan}

theorem stop_exec (taken : s.takesCommand) (dt : Nat) (tag : Byte) :
    exec (.stop dt tag) s = .next (stopEffect tag (s.after dt)) := commandSlot_of taken dt _

/-- STOP in HOLD or OPEN reaches OFF at once (R83). -/
theorem stopEffect_of_waiting (tag : Byte) (waiting : s.ssch.state = .hold ∨ s.ssch.state = .opened) :
    stopEffect tag s = (s.offReached.answered 0 tag 0x02 .ok []).serve := by
  unfold stopEffect
  rw [State.reachOff_eq, State.answered_zero]
  rcases waiting with state | state <;> rw [state]

/-- The first STOP in SCAN is remembered (R83). -/
theorem stopEffect_of_scan (tag : Byte) (scanning : s.ssch.state = .scan) (first : s.ssch.stopRequested = false) :
    stopEffect tag s = (s.setSsch { s.ssch with stopRequested := true }).addReply tag 0x02 .ok [] := by
  unfold stopEffect
  split
  · next state => rw [scanning] at state; cases state
  · next state => rw [scanning] at state; cases state
  · next state => rw [scanning] at state; cases state
  · rw [if_neg (by simp [first])]

/-- The second STOP in SCAN is a forced stop (R84). -/
theorem stopEffect_of_second (tag : Byte) (scanning : s.ssch.state = .scan) (second : s.ssch.stopRequested = true) :
    stopEffect tag s = (s.forceStop.answered 0 tag 0x02 .ok []).serve := by
  unfold stopEffect
  rw [scanning, State.answered_zero]
  exact if_pos second

theorem State.endDue_iff : s.endDue sc = true ↔
    sc.lines ≤ sc.nextOut ∧ ∃ due, s.outputDue sc = some due ∧ due ≤ s.clock := by
  simp [State.endDue, Option.any_eq_true]

/-- A scan that ends, or is cut short, with a stop requested leaves OFF (R80, R85). -/
theorem State.scanEnds_of_stop (stop : s.ssch.stopRequested = true) (cut : Bool) :
    (s.engineScanEnd cut sc).afterScanEnd = (s.scanOver cut sc).offReached := by
  rw [State.engineScanEnd_eq, State.afterScanEnd_of_stop (s := s.scanOver cut sc) stop]

/-- A forced stop cuts the scan short, unless the scan's own end is due: then which end it has is free (R84, R103,
log 44). -/
theorem State.forceStop_of_scan (found : s.seng.scan = some sc) (stop : s.ssch.stopRequested = true) :
    (¬ s.endDue sc = true → s.forceStop = (s.scanOver true sc).offReached)
    ∧ (s.endDue sc = true → s.forceStop = (s.drawn.scanOver true sc).offReached
        ∨ s.forceStop = (s.drawn.scanOver false sc).offReached) := by
  unfold State.forceStop
  rw [found]
  dsimp only
  refine ⟨fun early => ?_, fun due => ?_⟩
  · rw [if_neg early, State.scanEnds_of_stop stop]
  · rw [if_pos due, State.scanEnds_of_stop (s := s.drawn) stop, State.scanEnds_of_stop (s := s.drawn) stop]
    split
    · exact .inr rfl
    · exact .inl rfl

/-- `t` is what an accepted STOP `dt` later leaves of `s` where the scheduler reaches OFF in its step (R85, R86, R105,
R131). -/
def State.StoppedAs (s t : State) (dt : Nat) (tag : Byte) : Prop :=
  t.dctl = .standby ∧ t.ssch.state = .off
    ∧ t.ssch.stopRequested = false ∧ t.ssch.pending = none ∧ t.ssch.overtaken = 0 ∧ t.seng.scan = none
    ∧ t.seng.output = .idle ∧ t.crp.plan.remaining = 0 ∧ t.tbc.commitPending = none
    ∧ t.rct.queue = s.rct.queue ++ [{ tag := tag, code := 0x02, status := .ok, payload := [] }]
    ∧ (∀ m, s.tbc.commitPending = some m → t.tbc.active = s.tbc.shadow ∧ t.tbc.lastMarker = m)
    ∧ (∀ sc, s.seng.scan = some sc → t.frl = s.frl.add sc.record)
    ∧ t = { s with
        clock := s.clock + dt, capu := t.capu, marb := t.marb, crp := t.crp, ssch := t.ssch, seng := t.seng,
        ocmp := t.ocmp, tbc := t.tbc, zsu := t.zsu, frl := t.frl, rct := t.rct, evu := t.evu,
        dctl := .standby, free := t.free }

/-- `w` is `s`, `dt` later, with its scan, if it had one, over: what the scheduler finds when it reaches OFF. -/
structure State.ScanGone (s w : State) (dt : Nat) : Prop where
  frame : w = { s with
    clock := s.clock + dt, capu := w.capu, marb := w.marb, seng := w.seng, ocmp := w.ocmp, zsu := w.zsu, frl := w.frl
    evu := w.evu, free := w.free }
  scan : w.seng.scan = none
  record : ∀ sc, s.seng.scan = some sc → w.frl = s.frl.add sc.record

/-- The scheduler reaches OFF, with the reply, from a state whose scan is over. -/
theorem State.ScanGone.stopped {dt : Nat} (gone : ScanGone s w dt) (tag : Byte) :
    StoppedAs s (w.offReached.answered 0 tag 0x02 .ok []).serve dt tag := by
  obtain ⟨frame, scan, record⟩ := gone
  generalize w.capu = capu, w.marb = marb, w.seng = seng, w.ocmp = ocmp, w.zsu = zsu, w.frl = frl, w.evu = evu,
    w.free = free at frame scan record
  subst frame
  rw [State.serve_eq]
  unfold State.offReached
  dsimp only
  cases commit : s.tbc.commitPending with
  | none => exact ⟨rfl, rfl, rfl, rfl, rfl, scan, rfl, rfl, commit, rfl, by rw [commit]; nofun, record, rfl⟩
  | some marker =>
    refine ⟨rfl, rfl, rfl, rfl, rfl, scan, rfl, ?_, rfl, rfl, ?_, record, rfl⟩
    · show (ite _ _ _ : Crp).plan.remaining = 0
      split <;> rfl
    · rw [commit]
      rintro m ⟨⟩
      exact ⟨rfl, rfl⟩

theorem State.ScanGone.after (quiet : s.seng.scan = none) (dt : Nat) : ScanGone s (s.after dt) dt :=
  ⟨rfl, quiet, fun sc found => by rw [quiet] at found; cases found⟩

theorem State.ScanGone.scanOver (found : s.seng.scan = some sc) (dt : Nat) (cut : Bool) :
    ScanGone s ((s.after dt).scanOver cut sc) dt ∧ ScanGone s ((s.after dt).drawn.scanOver cut sc) dt :=
  have record : ∀ sc', s.seng.scan = some sc' → s.frl.add sc.record = s.frl.add sc'.record := fun sc' same => by
    rw [Option.some.inj (found.symm.trans same)]
  ⟨⟨rfl, rfl, record⟩, ⟨rfl, rfl, record⟩⟩

end

/-! ### RESET_CADENCE (R55, R68) -/

section
variable {s : State}

/-- With nothing to take in HOLD, OPEN takes a DEADLINE or a FREE-RUN that is EXPIRED and active (R67). -/
theorem State.takeActive_eq (quiet : s.ssch.state = .hold → s.ssch.min.isExpired = false) : s.takeActive =
    if s.ssch.state = .opened ∧ s.lrx.link = .locked ∧ s.ssch.planEmpty = true ∧ s.ssch.deadline.isExpired = true then
      s.startScan .deadline
    else if s.ssch.state = .opened ∧ s.lrx.link = .down ∧ s.ssch.freeRun.isExpired = true then s.startScan .freeRun
    else s := by
  rw [s.takeActive_of_quiet_hold quiet, State.takeOpen_eq]
  by_cases opened : s.ssch.state = .opened
  · simp only [opened, if_true, true_and]
  · simp only [opened, if_false, false_and]

theorem resetCadence_exec (taken : s.takesCommand) (dt : Nat) (tag : Byte) :
    exec (.resetCadence dt tag) s = .next (resetCadenceEffect tag (s.after dt)) := commandSlot_of taken dt _

end

/-- Settles O54: START by its refusals, the first run and the later ones; STOP by the scheduler's state and, forced, by
whether the scan's end is due; RESET_CADENCE by what is active once the plan is cleared. -/
theorem startStop : Obligations.StartStop := by
  intro dt tag s taken sched
  obtain ⟨wrongState, fuseBusy, badProfile⟩ := startEffect_refused tag (s.after dt)
  refine ⟨fun other => ?_, fun standby locking => ?_, fun standby idle invalid => ?_, fun standby idle valid => ?_,
    fun off => ?_, fun scanning first => ?_, fun stopping => ?_, fun waiting => ?_, fun scanning second sc found => ?_,
    fun quiet => ?_⟩
  · rw [start_exec taken, wrongState other]
    rfl
  · rw [start_exec taken, fuseBusy standby locking]
    rfl
  · rw [start_exec taken, badProfile standby idle invalid]
    rfl
  · have noScan := sched.no_scan_of_standby standby
    intro p now u opening
    rw [start_exec taken, startEffect_accepted (s := s.after dt) tag standby idle valid]
    refine ⟨fun first => ?_, fun last again running => ?_, fun last again expired late idleRun => ?_,
      fun last again expired => ⟨fun locked empty late => ?_, fun down late => ?_⟩⟩
    · rw [State.startRun_of_first (s := s.after dt) first noScan]
      rfl
    · rw [State.startRun_of_hold (s := s.after dt) again running noScan]
      rfl
    · rw [State.startRun_of_open (s := s.after dt) again expired,
        State.takeOpen_of_none (s := (s.after dt).inOpen) late idleRun,
        State.markOpening_of_no_scan (s := (s.after dt).inOpen) _ noScan]
      rfl
    · rw [State.startRun_of_open (s := s.after dt) again expired,
        State.takeOpen_of_deadline (s := (s.after dt).inOpen) locked empty late]
      rfl
    · rw [State.startRun_of_open (s := s.after dt) again expired,
        State.takeOpen_of_freeRun (s := (s.after dt).inOpen) down late]
      rfl
  · rw [stop_exec taken, stopEffect, show (s.after dt).ssch.state = .off from off]
    rfl
  · rw [stop_exec taken, stopEffect_of_scan (s := s.after dt) tag scanning first]
    rfl
  · rw [stop_exec taken]
    refine ⟨_, rfl, ?_⟩
    show State.StoppedAs s _ dt tag
    have scanSome := sched.2.1
    rcases stopping with hold | opened | ⟨scanning, second⟩
    · have quiet : s.seng.scan = none := by simpa [hold] using scanSome
      rw [stopEffect_of_waiting (s := s.after dt) tag (.inl hold)]
      exact (State.ScanGone.after quiet dt).stopped tag
    · have quiet : s.seng.scan = none := by simpa [opened] using scanSome
      rw [stopEffect_of_waiting (s := s.after dt) tag (.inr opened)]
      exact (State.ScanGone.after quiet dt).stopped tag
    · obtain ⟨sc, found⟩ := Option.isSome_iff_exists.mp (scanSome.mp scanning)
      obtain ⟨early, due⟩ := State.forceStop_of_scan (s := s.after dt) found second
      rw [stopEffect_of_second (s := s.after dt) tag scanning second]
      by_cases ended : (s.after dt).endDue sc = true
      · rcases due ended with stopped | stopped <;> rw [stopped]
        · exact (State.ScanGone.scanOver found dt true).2.stopped tag
        · exact (State.ScanGone.scanOver found dt false).2.stopped tag
      · rw [early ended]
        exact (State.ScanGone.scanOver found dt true).1.stopped tag
  · rw [stop_exec taken, stopEffect_of_waiting (s := s.after dt) tag waiting]
  · intro ended stopped drawn
    obtain ⟨early, due⟩ := State.forceStop_of_scan (s := s.after dt) found second
    have due_iff : (s.after dt).endDue sc = true ↔ ended := State.endDue_iff
    rw [stop_exec taken, stopEffect_of_second (s := s.after dt) tag scanning second]
    refine ⟨fun before => ?_, fun after => ?_⟩
    · rw [early fun h => before (due_iff.mp h)]
    · rcases due (due_iff.mpr after) with cut | whole
      · exact .inl (by rw [cut]; rfl)
      · exact .inr (by rw [whole]; rfl)
  · intro shown v w
    have cleared : (s.after dt).withCrp ((s.after dt).crp.invalidate false) = v := (s.after dt).withCrp_invalidate
    rw [resetCadence_exec taken, resetCadenceEffect, cleared, State.takeActive_eq (s := v) quiet, State.answered_zero]

end Sys2Proof.Machine

namespace Sys2Proof.Machine

open State

/-! ### COMMIT (R128, R129, R131) -/

section
variable {s : State} {tag : Byte} {marker : Half}

theorem commit_exec (taken : s.takesCommand) (dt : Nat) (tag : Byte) (marker : Half) :
    exec (.commit dt tag marker) s = .next (commitEffect tag marker (s.after dt)) := commandSlot_of taken dt _

theorem commitEffect_of_pending (pending : s.tbc.commitPending.isSome = true) :
    commitEffect tag marker s = s.addReply tag 0x36 .commitPending [] := if_pos pending

theorem commitEffect_of_invalid (free : s.tbc.commitPending = none)
    (invalid : s.pru.table[s.tbc.shadow.profile].state ≠ .valid) :
    commitEffect tag marker s = s.addReply tag 0x36 .badProfile [] := by
  unfold commitEffect
  rw [if_neg (by simp [free]), if_pos invalid]

/-- A COMMIT that passes its checks is taken with no scan outside RUNNING, and otherwise at a scan start (R128). -/
theorem commitEffect_of_valid (free : s.tbc.commitPending = none)
    (valid : s.pru.table[s.tbc.shadow.profile].state = .valid) :
    (s.dctl = .running → commitEffect tag marker s = commitInRun tag marker s)
    ∧ (s.dctl ≠ .running → commitEffect tag marker s = (s.commitWithoutScan marker).addReply tag 0x36 .ok []) := by
  unfold commitEffect
  rw [if_neg (by simp [free]), if_neg (not_not.mpr valid)]
  exact ⟨fun running => if_pos running, fun other => if_neg other⟩

/-- No scan that START itself started at this instant. -/
theorem State.openingNow_eq_none
    (other : ∀ sc, s.seng.scan = some sc → sc.reports.clock = s.clock → sc.opening = none) : s.openingNow = none := by
  cases now : s.openingNow with
  | none => rfl
  | some opening =>
    obtain ⟨found, instant, kept⟩ := (s.openingNow_eq_some opening.1 opening.2).mp now
    rw [other _ found instant] at kept
    cases kept

/-- Outside START's own instant a COMMIT in RUNNING waits (R128, R130). -/
theorem commitInRun_of_no_opening (none : s.openingNow = none) : commitInRun tag marker s =
    (s.setTbc { s.tbc with commitPending := some marker }).addReply tag 0x36 .ok [] := by
  unfold commitInRun
  rw [none]

theorem commitInRun_of_opening {sc : Scan} {k : Kept} (opening : s.openingNow = some (sc, k)) :
    commitInRun tag marker s = ((s.commitAtOpening marker sc k).answered 0 tag 0x36 .ok []).serve := by
  unfold commitInRun
  rw [opening, State.answered_zero]

/-- The state START's own scan is started again from, with the commit pending (R131, log 52). -/
def State.reopened (marker : Half) (sc : Scan) (k : Kept) (s : State) : State :=
  (s.beforeOpening sc k).setTbc { s.tbc with commitPending := some marker }

theorem State.commitAtOpening_eq (marker : Half) (sc : Scan) (k : Kept) : s.commitAtOpening marker sc k =
    (s.reopened marker sc k).startScan (if sc.cause = .freeRun then .freeRun else .deadline) := rfl

theorem State.formatChanges_eq_false_iff : s.formatChanges = false ↔
    s.pru.table[s.tbc.active.profile].profile.width = s.pru.table[s.tbc.shadow.profile].profile.width
      ∧ s.pru.table[s.tbc.active.profile].profile.lines = s.pru.table[s.tbc.shadow.profile].profile.lines
      ∧ s.pru.table[s.tbc.active.profile].profile.lineTime
        = s.pru.table[s.tbc.shadow.profile].profile.lineTime := by
  simp [State.formatChanges, and_assoc]

/-- A commit of the same format taken without a scan reaches TBC and EVU only (R129, R133). -/
theorem State.commitWithoutScan_same (same : s.formatChanges = false) :
    s.commitWithoutScan marker = s.takeCommit marker := if_neg (by simp [same])

/-- A commit that changes the format, taken without a scan, invalidates E and clears the plan (R54, R133). -/
theorem State.commitWithoutScan_changed (changed : s.formatChanges = true) :
    s.commitWithoutScan marker = { s.takeCommit marker with
      crp := s.crp.quieted, ssch := { s.ssch with planEmpty := s.shownWithoutPlan } } :=
  (if_pos changed).trans (s.takeCommit marker).withCrp_invalidate

/-- A scan start takes a pending commit: the banks and the marker move, the scan carries the marker, and COMMIT_TAKEN is
raised (R130). -/
theorem State.startScan_takes_commit (pending : s.tbc.commitPending = some marker) (r : StartReason) :
    ∃ sc, (s.startScan r).seng.scan = some sc ∧ sc.marker = some marker ∧ sc.startTime = s.pacingTime
      ∧ sc.sequence = s.seng.sequence ∧ (s.startScan r).seng.sequence = s.seng.sequence + 1
      ∧ sc.profile = s.tbc.shadow.profile
      ∧ sc.interval = (if s.ssch.runStarted then s.ssch.lastStart.map fun last => s.pacingTime - last else none)
      ∧ (s.startScan r).tbc =
          { active := s.tbc.shadow, shadow := s.tbc.shadow, commitPending := none, lastMarker := marker }
      ∧ ((s.startScan r).evu.source .commitTaken).pending = true := by
  obtain ⟨-, tbc, -, -, -, -, -, -, -, -, -, -, next, -, -, -, -,
    ⟨sc, found, sequence, startTime, interval, profile, -, -, -, -, carried, -⟩, -, -, -, told, -⟩ := scanStart r s
  rw [pending] at tbc profile carried told
  exact ⟨sc, found, carried, startTime, sequence, next, profile, interval, tbc, told rfl⟩

end

/-- Settles O10: the refusals, the commit that waits, the one at START's own scan, and the one taken in STANDBY. -/
theorem commitDecided : Obligations.CommitDecided := by
  intro dt tag marker s taken
  have row := commit_exec taken dt tag marker
  refine ⟨fun pending => ?_, fun free invalid => ?_, fun free valid => ⟨fun running other => ?_,
    fun running sc k found instant opening => ?_, fun standby => ?_⟩⟩
  · rw [row, commitEffect_of_pending (s := s.after dt) pending]
    rfl
  · rw [row, commitEffect_of_invalid (s := s.after dt) free invalid]
    rfl
  · rw [row, (commitEffect_of_valid (s := s.after dt) free valid).1 running,
      commitInRun_of_no_opening (State.openingNow_eq_none (s := s.after dt) other)]
    rfl
  · intro before
    have now : (s.after dt).openingNow = some (sc, k) :=
      (State.openingNow_eq_some sc k).mpr ⟨found, instant, opening⟩
    have again : (s.after dt).reopened marker sc k = before := by
      unfold before State.reopened State.beforeOpening Capu.releaseSource
      cases sc.scanSource <;> rfl
    obtain ⟨sc', scan, carried, time, number, next, profile, interval, tbc, told⟩ :=
      State.startScan_takes_commit (s := before) rfl (if sc.cause = .freeRun then .freeRun else .deadline)
    rw [row, (commitEffect_of_valid (s := s.after dt) free valid).1 running, commitInRun_of_opening now,
      State.commitAtOpening_eq, again]
    refine ⟨_, sc', rfl, rfl, ?_⟩
    rw [State.serve_eq]
    exact ⟨scan, carried, time, number, next.trans (BitVec.sub_add_cancel _ _), profile, interval, tbc, told⟩
  · intro old new
    rw [row, (commitEffect_of_valid (s := s.after dt) free valid).2 (by simp [standby])]
    have same_iff : (s.after dt).formatChanges = false ↔
        old.width = new.width ∧ old.lines = new.lines ∧ old.lineTime = new.lineTime := State.formatChanges_eq_false_iff
    cases format : (s.after dt).formatChanges with
    | false =>
      rw [if_pos (same_iff.mp format), State.commitWithoutScan_same format]
      rfl
    | true =>
      rw [if_neg (same_iff.not.mp (by simp [format])), State.commitWithoutScan_changed format]
      rfl

end Sys2Proof.Machine

namespace Sys2Proof.Machine

open State

/-! ### CRP at a scan start, report by report (R54, R56, R58, R61, R62, R63, R77) -/

/-- SSCH's plan indication is told when a plan begins or ends, and follows nothing else (R61, R68). -/
theorem planIndication_eq_told (before after : Plan) (shown : Bool) : planIndication before after shown =
    if before.remaining = 0 ∧ after.remaining ≠ 0 then false
    else if before.remaining ≠ 0 ∧ after.remaining = 0 then true else shown := by
  rw [planIndication_eq]
  by_cases was : before.remaining = 0 <;> by_cases is : after.remaining = 0 <;> simp [was, is]

/-- An indication that is EMPTY exactly when no repeat remains stays so (R61). -/
theorem planIndication_agrees (before after : Plan) :
    planIndication before after (decide (before.remaining = 0)) = decide (after.remaining = 0) := by
  rw [planIndication_eq_told]
  by_cases was : before.remaining = 0 <;> by_cases is : after.remaining = 0 <;> simp [was, is]

section
variable (s : State)

/-- CRP as TBC's report of a format change, or no report, leaves it (R54). -/
def State.crpAfterCommit (changed : Bool) : Crp := if changed then s.crp.quieted else s.crp

/-- The plan indication after TBC's report of a format change, or none (R61). -/
def State.shownAfterCommit (changed : Bool) : Bool :=
  if changed then planIndication s.crp.plan Plan.cleared s.ssch.planEmpty else s.ssch.planEmpty

theorem State.reportWithoutFrame_eq (changed : Bool) : s.reportWithoutFrame changed =
    { s with crp := s.crpAfterCommit changed, ssch := { s.ssch with planEmpty := s.shownAfterCommit changed } } := by
  cases changed <;> rfl

/-- The plan and the indication after a LIVE start's reports, in either order of the two (R54, log 12). -/
theorem State.liveReports_plan (frame : Word) (changed : Bool) :
    (s.liveReports frame changed).crp.plan = (s.crpAfterCommit changed).plan
      ∧ (s.liveReports frame changed).ssch.planEmpty = s.shownAfterCommit changed := by
  cases changed with
  | false =>
    rw [show s.liveReports frame false = s.cadenceLfs frame s.pacingTime from rfl, State.cadenceLfs_eq]
    exact ⟨(s.crp.takeLfs_kept _ _ _).2.2.1, rfl⟩
  | true =>
    unfold State.liveReports
    rw [if_pos rfl]
    split
    · rw [State.cadenceLfs_eq]
      exact ⟨(Crp.takeLfs_kept _ _ _ _).2.2.1, rfl⟩
    · rw [State.cadenceLfs_eq]
      refine ⟨rfl, ?_⟩
      show planIndication (Crp.takeLfs _ _ _ _).plan Plan.cleared _ = _
      rw [(Crp.takeLfs_kept _ _ _ _).2.2.1]
      rfl

/-- A fresh scan's report: the new plan, SSCH told of it, and LAG_HIGH when the lag is above a threshold that is not 0
(R56 to R58, R61, R62, R77). -/
theorem State.freshReport_eq (lfsTime : Word) : s.freshReport lfsTime =
    let p := s.activeEntry.profile
    let plan := makePlan s.crp.estimate p s.pacingTime s.microseconds
    { s with
      crp := { s.crp with plan := plan, raised := none }
      ssch := { s.ssch with planEmpty := planIndication s.crp.plan plan s.ssch.planEmpty }
      evu := if lagHigh (lagOf s.pacingTime lfsTime p.lineTime) p.lagThreshold then s.evu.raise .lagHigh
        else s.evu } := by
  unfold State.freshReport
  dsimp only
  split <;> rfl

theorem State.freshReport_planEmpty (lfsTime : Word) : (s.freshReport lfsTime).ssch.planEmpty =
    planIndication s.crp.plan (s.freshReport lfsTime).crp.plan s.ssch.planEmpty := by
  rw [State.freshReport_eq]

/-- A LIVE start's reports raise nothing but STALL (R52). -/
theorem State.liveReports_lagHigh (frame : Word) (changed : Bool) :
    (s.liveReports frame changed).evu.source .lagHigh = s.evu.source .lagHigh := by
  have quiet (u : State) (time : Word) : (u.cadenceLfs frame time).evu.source .lagHigh = u.evu.source .lagHigh := by
    rw [State.cadenceLfs_eq]
    dsimp only
    split
    · exact Evu.source_raise_other _ (by decide)
    · rfl
  unfold State.liveReports
  split
  · split
    · exact quiet (s.drawn.reportFormatChange (some frame)) _
    · exact quiet s.drawn _
  · exact quiet s _

/-- At a plan point with repeats remaining a commit brings the withdrawal of the point; without one CRP keeps what the
commit's report left (R77). -/
theorem State.cadenceAtStart_plan (point : Word) (remaining : Nat) (changed committed : Bool) :
    s.cadenceAtStart (.plan point remaining) changed committed =
      (s.reportWithoutFrame changed).withCrp
        (if committed = true ∧ 1 ≤ remaining ∧ (s.reportWithoutFrame changed).crp.raised = some point then
          (s.reportWithoutFrame changed).crp.clearPlan
        else (s.reportWithoutFrame changed).crp) := by
  have kept (u : State) : u.withCrp u.crp = u := u.withCrp_of_same_plan rfl
  unfold State.cadenceAtStart Crp.withdraw
  dsimp only
  by_cases withdraws : committed = true ∧ 1 ≤ remaining
  · rw [if_pos (by simp [withdraws])]
    simp only [withdraws.1, withdraws.2, true_and]
  · rw [if_neg (by simpa using withdraws), if_neg fun h => withdraws ⟨h.1, h.2.1⟩, kept]

/-- The plan indication after a start's reports: TBC's report is told first, then the change the start brings (R61). -/
theorem State.cadenceAtStart_planEmpty (r : StartReason) (changed committed : Bool) :
    (s.cadenceAtStart r changed committed).ssch.planEmpty =
      planIndication (s.crpAfterCommit changed).plan (s.cadenceAtStart r changed committed).crp.plan
        (s.shownAfterCommit changed) := by
  have left : (s.reportWithoutFrame changed).crp = s.crpAfterCommit changed
      ∧ (s.reportWithoutFrame changed).ssch.planEmpty = s.shownAfterCommit changed := by
    rw [State.reportWithoutFrame_eq]
    exact ⟨rfl, rfl⟩
  obtain ⟨crp, shown⟩ := left
  have unchanged : (s.reportWithoutFrame changed).ssch.planEmpty =
      planIndication (s.crpAfterCommit changed).plan (s.reportWithoutFrame changed).crp.plan
        (s.shownAfterCommit changed) := by
    rw [crp, shown, planIndication_same _ _ rfl]
  cases r with
  | arrival frame =>
    obtain ⟨plan, shown⟩ := s.liveReports_plan frame changed
    rw [← plan, ← shown]
    exact State.freshReport_planEmpty _ _
  | chase f =>
    rw [← crp, ← shown]
    exact State.freshReport_planEmpty _ _
  | plan point remaining =>
    rw [State.cadenceAtStart_plan, State.reportWithoutFrame_eq]
    rfl
  | deadline => exact unchanged
  | freeRun => exact unchanged

/-- A start that is not fresh raises nothing at CRP's reports (R52, R62). -/
theorem State.cadenceAtStart_evu {r : StartReason} (stale : r.isFresh = false) (changed committed : Bool) :
    (s.cadenceAtStart r changed committed).evu = s.evu := by
  cases r with
  | arrival frame => cases stale
  | chase f => cases stale
  | plan point remaining =>
    rw [State.cadenceAtStart_plan]
    simp
  | deadline => simp [State.cadenceAtStart]
  | freeRun => simp [State.cadenceAtStart]

/-! ### The start's record and the state it leaves (R61, R63) -/

theorem State.startScan_planEmpty (r : StartReason) :
    (s.startScan r).ssch.planEmpty = (s.reportedStart r).ssch.planEmpty := by
  rw [s.startScan_eq]
  simp [State.schedulerAtStart]

theorem State.commitAtStart_instant :
    s.commitAtStart.pacingTime = s.pacingTime ∧ s.commitAtStart.microseconds = s.microseconds := by
  simp [State.pacingTime, State.microseconds]

/-- E, m and the lag of the record: a fresh scan's as its reports leave them, another's as they stood (R62, R63). -/
theorem State.startScan_record {r : StartReason} {sc : Scan} (found : (s.startScan r).seng.scan = some sc) :
    sc.estimate = (if r.isFresh then (s.startScan r).crp else s.crp).estimate
      ∧ sc.multiplier = (if r.isFresh then (s.startScan r).crp else s.crp).plan.multiplier
      ∧ sc.lag = (r.lfsTime s.pacingTime).map fun u =>
          lagOf s.pacingTime u s.commitAtStart.activeEntry.profile.lineTime := by
  obtain rfl := Option.some.inj ((s.startScan_scan r).symm.trans found)
  obtain ⟨crp, planEmpty, sources, free, reported, -⟩ := s.reportedStart_eq r
  have left : (s.startScan r).crp = (s.reportedStart r).crp := s.startScan_crp r
  have before : s.commitAtStart.crp = s.crp := by simp
  rw [Scan.formatPatched_eq, left, ← before]
  refine ⟨rfl, rfl, ?_⟩
  unfold State.scanAtStart
  rw [reported, State.activeEntry, (s.commitAtStart_frame).2.2.2.2.2.1]
  rfl

/-- What CRP and the record hold after the start of a scan whose frame's LFS time is given (R56 to R58, R62, R63). -/
def State.FreshWith (s t : State) (sc : Scan) (p : Profile) (lfsTime : Word) : Prop :=
  let m := planMultiplier t.crp.estimate p
  let d := planSpacing t.crp.estimate p
  let lag := (s.pacingTime - lfsTime).toNat + 4 * p.lineTime / 1000
  t.crp.plan = (if m = 1 then { spacing := d, multiplier := 1, next := none, remaining := 0, timer := none }
    else { spacing := d, multiplier := m, next := some (s.pacingTime + BitVec.ofNat 32 d), remaining := m - 1,
           timer := some (s.microseconds + d) })
  ∧ t.crp.raised = none
  ∧ sc.estimate = t.crp.estimate ∧ sc.multiplier = t.crp.plan.multiplier ∧ sc.lag = some lag
  ∧ t.evu.source .lagHigh =
      if p.lagThreshold ≠ 0 ∧ p.lagThreshold < lag then { s.evu.source .lagHigh with pending := true }
      else s.evu.source .lagHigh

theorem Evu.source_raise_same (v : Evu) (e : EventSource) : (v.raise e).source e =
    { v.source e with pending := true } := by
  simp [Evu.source, Evu.raise]

theorem lagHigh_iff (lag threshold : Nat) : lagHigh lag threshold = true ↔ threshold ≠ 0 ∧ threshold < lag := by
  simp [lagHigh]

/-- A fresh scan, whose report finds `u` with the reports before it in (R54, R56). -/
theorem State.startScan_fresh {r : StartReason} {u : State} {sc : Scan} {lfsTime : Word}
    (found : (s.startScan r).seng.scan = some sc) (fresh : r.isFresh = true)
    (time : r.lfsTime s.pacingTime = some lfsTime) (reported : Reported s.commitAtStart u)
    (reports : s.reportedStart r = u.freshReport lfsTime)
    (quiet : u.evu.source .lagHigh = s.commitAtStart.evu.source .lagHigh) :
    s.FreshWith (s.startScan r) sc s.commitAtStart.activeEntry.profile lfsTime := by
  obtain ⟨estimate, multiplier, lag⟩ := s.startScan_record found
  obtain ⟨now, micros⟩ := s.commitAtStart_instant
  have at_u : u.activeEntry = s.commitAtStart.activeEntry ∧ u.pacingTime = s.pacingTime
      ∧ u.microseconds = s.microseconds := by
    rw [← now, ← micros, reported.frame]
    exact ⟨rfl, rfl, rfl⟩
  obtain ⟨entry, now, micros⟩ := at_u
  have crp : (s.startScan r).crp = (u.freshReport lfsTime).crp := (s.startScan_crp r).trans (congrArg (·.crp) reports)
  have evu : (s.startScan r).evu = (u.freshReport lfsTime).evu := (startScan_evu s r).trans (congrArg (·.evu) reports)
  rw [time] at lag
  rw [if_pos fresh] at estimate multiplier
  refine ⟨?_, ?_, estimate, multiplier, lag, ?_⟩
  · rw [crp, State.freshReport_crp, entry, now, micros]
    rfl
  · rw [crp, State.freshReport_crp]
  · rw [evu, State.freshReport_eq, entry, now, ← s.commitAtStart_source (d := .lagHigh) (by decide), ← quiet]
    dsimp only
    by_cases high : lagHigh (lagOf s.pacingTime lfsTime s.commitAtStart.activeEntry.profile.lineTime)
        s.commitAtStart.activeEntry.profile.lagThreshold = true
    · rw [if_pos high, Evu.source_raise_same]
      exact (if_pos ((lagHigh_iff _ _).mp high)).symm
    · rw [if_neg high]
      exact (if_neg fun above => high ((lagHigh_iff _ _).mpr above)).symm

/-- Any other scan's record carries E and m as they stood and no lag, and CRP raises nothing (R62, R63). -/
theorem State.startScan_stale {r : StartReason} {sc : Scan} (found : (s.startScan r).seng.scan = some sc)
    (stale : r.isFresh = false) :
    sc.estimate = s.crp.estimate ∧ sc.multiplier = s.crp.plan.multiplier ∧ sc.lag = none
      ∧ (s.startScan r).evu.source .lagHigh = s.evu.source .lagHigh
      ∧ (s.startScan r).evu.source .stall = s.evu.source .stall := by
  obtain ⟨estimate, multiplier, lag⟩ := s.startScan_record found
  rw [if_neg (by simp [stale])] at estimate multiplier
  have untimed : r.lfsTime s.pacingTime = none := by
    cases r with
    | arrival frame => cases stale
    | chase f => cases stale
    | plan point remaining => rfl
    | deadline => rfl
    | freeRun => rfl
  rw [untimed] at lag
  rw [startScan_evu, State.cadenceAtStart_evu _ stale]
  exact ⟨estimate, multiplier, lag, s.commitAtStart_source (by decide), s.commitAtStart_source (by decide)⟩

/-- The commit taken at a start changes the format (R133). -/
theorem State.startChangesFormat_eq : s.startChangesFormat = (s.tbc.commitPending.isSome
    && (s.activeEntry.profile.width != s.commitAtStart.activeEntry.profile.width
      || s.activeEntry.profile.lines != s.commitAtStart.activeEntry.profile.lines
      || s.activeEntry.profile.lineTime != s.commitAtStart.activeEntry.profile.lineTime)) := by
  unfold State.startChangesFormat State.commitAtStart
  cases s.tbc.commitPending <;> rfl

end

/-- Settles O51: CRP's reports by what started the scan, on the state with the commit taken. -/
theorem scanCadence : Obligations.ScanCadence := by
  intro r s sc found t p old changes cleared base freshWith report shown asItStood
  have same_p : s.commitAtStart.activeEntry.profile = p := by simp [State.activeEntry, p, t, s.startScan_tbc]
  have same_changes : changes = s.startChangesFormat := by rw [s.startChangesFormat_eq, same_p]; rfl
  have same_crp : s.commitAtStart.crp = s.crp := by simp
  have same_ssch : s.commitAtStart.ssch = s.ssch := by simp
  have same_base : base = s.commitAtStart.crpAfterCommit changes := by rw [State.crpAfterCommit, same_crp]; rfl
  have told (before after : Plan) (was : Bool) : report before after was = planIndication before after was :=
    (planIndication_eq_told before after was).symm
  have same_shown : shown = s.commitAtStart.shownAfterCommit changes := by
    rw [State.shownAfterCommit, same_crp, same_ssch, ← told]
    rfl
  have crp : t.crp = (s.reportedStart r).crp := s.startScan_crp r
  have indicated : t.ssch.planEmpty = report base.plan t.crp.plan shown := by
    rw [told, same_base, same_shown, same_changes, crp]
    exact (s.startScan_planEmpty r).trans (State.cadenceAtStart_planEmpty _ r _ _)
  refine ⟨indicated, fun agreed => ?_, ?_⟩
  · have agrees : shown = decide (base.plan.remaining = 0) := by
      unfold shown base
      split
      · rw [told, agreed, planIndication_agrees]
      · exact agreed
    rw [indicated, told, agrees, planIndication_agrees]
  · have stall : s.commitAtStart.evu.source .stall = s.evu.source .stall := s.commitAtStart_source (by decide)
    have reported : s.commitAtStart.reportWithoutFrame changes =
        { s.commitAtStart with crp := base, ssch := { s.commitAtStart.ssch with planEmpty := shown } } := by
      rw [State.reportWithoutFrame_eq, same_base, same_shown]
    have stale (h : r.isFresh = false) : asItStood := s.startScan_stale found h
    have fresh {u : State} {lfsTime : Word} (h : r.isFresh = true) (time : r.lfsTime s.pacingTime = some lfsTime)
        (before : Reported s.commitAtStart u) (reports : s.reportedStart r = u.freshReport lfsTime)
        (quiet : u.evu.source .lagHigh = s.commitAtStart.evu.source .lagHigh) : freshWith lfsTime := by
      have left := s.startScan_fresh found h time before reports quiet
      rwa [same_p] at left
    cases r with
    | arrival frame =>
      refine fresh rfl rfl (.liveReports _ frame s.startChangesFormat) ?_ (State.liveReports_lagHigh _ _ _)
      rw [← s.commitAtStart_instant.1]
      rfl
    | chase f =>
      have reports : s.reportedStart (.chase f) = (s.commitAtStart.reportWithoutFrame changes).freshReport f.lfsTime :=
        by rw [same_changes]; rfl
      have evu : t.evu = (s.reportedStart (.chase f)).evu := startScan_evu s _
      refine ⟨fresh rfl rfl (.reportWithoutFrame _ changes) reports (by rw [reported]), ?_, ?_⟩
      · rw [crp, reports, State.freshReport_crp, reported]
      · rw [evu, reports, State.freshReport_source _ _ (by decide), reported]
        exact stall
    | plan point remaining =>
      refine ⟨stale rfl, ?_⟩
      rw [crp, State.reportedStart, ← same_changes, State.cadenceAtStart_plan, reported]
      rfl
    | deadline =>
      refine ⟨stale rfl, ?_⟩
      rw [crp, State.reportedStart, ← same_changes, State.cadenceAtStart, reported]
    | freeRun =>
      refine ⟨stale rfl, ?_⟩
      rw [crp, State.reportedStart, ← same_changes, State.cadenceAtStart, reported]

end Sys2Proof.Machine
